-- ==== Sys2Proof/Word.lean ====
section
/-! DEFINITION. The word types of the AJ2416: what the manual counts in bits is a bit vector.
Counts, offsets in CT and lengths in characters are plain natural numbers. -/

namespace Sys2Proof

/-- A byte: a register of the bus port, a byte of window space, a character on the line (R1, R171). -/
abbrev Byte := BitVec 8

/-- A two-byte field: the cycle number, DIV, a cycle length, a start or a window (R2, R9, R40). -/
abbrev Word := BitVec 16

/-- An address of the 8192-byte window space (R173). -/
abbrev WindowAddress := BitVec 13

/-- A direct register address, the five address lines A4 to A0 (R171). -/
abbrev BusAddress := BitVec 5

end Sys2Proof
end

