-- ==== Sys2Proof/Syntax.lean ====
section
/-! DEFINITION. The commands of the block: one constructor for each row of spec/opcode_table.json.
The table gives no row a field. The operands below are what the row's rule names: the byte on the data lines of a write,
the code written to CMD, which of two registers, a direct register address, the value of a character.
A command that works on a mailbox takes it from ARG0 (and ARG1) as they stand, so it has no operand of its own (R177). -/

namespace Sys2Proof

/-- Which of the two flag registers, or of the two enable registers, a write names (R158, R160). -/
inductive FlagRegister where
  /-- IFLG0 or IEN0: flags CYCLE to CMD. -/
  | reg0
  /-- IFLG1 or IEN1: flags NODE to WIN_FAULT. -/
  | reg1
deriving DecidableEq, Repr

/-- The commands, events and accesses that change the state of the AJ2416, each one indivisible. -/
inductive Instr where
  /-- START: CMD written with 0x01 (R73). -/
  | start
  /-- STOP: CMD written with 0x02 (R90). -/
  | stop
  /-- HALT: CMD written with 0x03 (R92). -/
  | halt
  /-- GO_SILENT: CMD written with 0x04 (R88). -/
  | goSilent
  /-- RESUME: CMD written with 0x05 (R89). -/
  | resume
  /-- LINK_RESET: CMD written with 0x06 (R93). -/
  | linkReset
  /-- ARM: CMD written with 0x10 (R49). -/
  | arm
  /-- DISARM: CMD written with 0x11 (R51). -/
  | disarm
  /-- COMMIT: CMD written with 0x20; ARG0 names the mailbox (R99). -/
  | commit
  /-- WITHDRAW: CMD written with 0x21; ARG0 names the mailbox (R103). -/
  | withdraw
  /-- SEND_EVENT: CMD written with 0x22; ARG0 names the mailbox (R109). -/
  | sendEvent
  /-- CANCEL_EVENT: CMD written with 0x23; ARG0 names the mailbox (R110). -/
  | cancelEvent
  /-- HOLD: CMD written with 0x24; ARG0 names the mailbox (R134). -/
  | hold
  /-- RELEASE: CMD written with 0x25; ARG0 names the mailbox (R135). -/
  | release
  /-- CONFIG_MAILBOX: CMD written with 0x26; ARG0 names the mailbox, ARG1 the configuration (R117). -/
  | configMailbox
  /-- CLEAR_COUNTERS: CMD written with 0x30 (R167). -/
  | clearCounters
  /-- CMD written with a code that is not in the command table (R177). -/
  | unknownCommand (code : Byte)
  /-- CMD written, with a code other than HALT or LINK_RESET, while a command is in flight (R179). -/
  | cmdWriteLost (code : Byte)
  /-- The validation that START or ARM began ends (R45). -/
  | validationDone
  /-- A read of WDATA (R174). -/
  | wdataRead
  /-- A write of WDATA (R174). -/
  | wdataWrite (value : Byte)
  /-- A read of POS_L (R176). -/
  | posLRead
  /-- A write of WPTR_H (R173). -/
  | wptrHWrite (value : Byte)
  /-- A write of WPTR_L (R173). -/
  | wptrLWrite (value : Byte)
  /-- A write of IFLG0 or IFLG1 (R158). -/
  | iflgWrite (register : FlagRegister) (value : Byte)
  /-- A write of IEN0 or IEN1 (R160). -/
  | ienWrite (register : FlagRegister) (value : Byte)
  /-- A write of CMDSTAT (R179). -/
  | cmdstatWrite (value : Byte)
  /-- A write of another direct register: ARG0, ARG1, a read-only register or an unused address (R171, R172). -/
  | registerWrite (address : BusAddress) (value : Byte)
  /-- A hardware reset, from the RESET input or at power-up (R190). -/
  | hardwareReset
  /-- The receive side confirms a start bit (R1, R3). -/
  | startBitConfirmed
  /-- A good character completes at its stop-bit sample, with the sampled value (R1, R16). -/
  | characterComplete (value : Byte)
  /-- The stop-bit sample of a character is low (R1, R18). -/
  | stopBitError
  /-- Two CT passed inside a frame with no start bit confirmed (R18). -/
  | gapTimerExpires
  /-- The end of a CT of the running Cycle Timer (R26). -/
  | positionReached
  /-- The end of the last CT of a cycle (R27). -/
  | cycleBoundary
  /-- The master's startup silence reaches the active bank's cycle length plus 28 CT (R75). -/
  | startupSilenceCompletes
  /-- The backoff count of the waiting head reaches its backoff (R112). -/
  | backoffElapses
  /-- A frame whose every readback matched ends (R14). -/
  | transmissionCompletes
  /-- A collided frame is released (R13). -/
  | transmissionCollides
  /-- After a stop-bit error the receiver samples the receive input high again (R3). -/
  | lineHighAfterStopBitError
deriving DecidableEq, Repr

end Sys2Proof
end

