-- ==== Sys2Proof/Decode.lean ====
section
/-! DEFINITION. The words of the table. Every row of spec/opcode_table.json has an empty list of fields and no fixed bits:
the AJ2416 takes accesses, line happenings and timer happenings, not instruction words. No word spells a command. -/

namespace Sys2Proof

/-- The command that a word spells by the table's bits: the table gives no row any bits, so there is none. -/
def decodeTableWord (_nbits _w : Nat) : Option Instr := none

end Sys2Proof
end

