-- ==== Sys2Proof/Config.lean ====
section
/-! DEFINITION. The sizes and limits the manual fixes for every AJ2416 (Device Parameters at a Glance, 00_scope.md).
The manual leaves no result, flag or register of an operation undefined, so no free value (a constant with no body) stands here. -/

namespace Sys2Proof.Config

/-- Payload bytes of a mailbox, and the largest LEN of a frame (R7, R95, R123). -/
@[simp] abbrev payloadBytes : Nat := 32

/-- Inner bytes the frame assembly buffer holds (R16). -/
@[simp] abbrev bufferBytes : Nat := 40

/-- The event queue holds at most eight entries (R108). -/
@[simp] abbrev queueEntries : Nat := 8

/-- Length of the cycle-start window, and the first schedulable offset (R29, R46). -/
@[simp] abbrev csWindow : Nat := 28

/-- The closing guard: the last entry ends at or before cycle length minus 4 (R46, reason 11). -/
@[simp] abbrev closingGuard : Nat := 4

/-- The gap limit in whole CT (R18). -/
@[simp] abbrev gapLimit : Nat := 2

/-- Least cycle length a bank or a cycle-start frame may name (R19, R46). -/
@[simp] abbrev minCycleLength : Nat := 64

/-- Largest cycle length a bank or a cycle-start frame may name (R19, R46). -/
@[simp] abbrev maxCycleLength : Nat := 16383

/-- The broadcast destination (R7). -/
@[simp] abbrev broadcast : Byte := 255#8

end Sys2Proof.Config
end

