-- ==== Sys2Proof/Machine/State.lean ====
section
/-! DEFINITION. The state of the AJ2416, block by block as 00_scope.md lists the blocks, the reasons a step can stop, and
the state after a hardware reset. Every field is plain data. The queue of waiting commands is the model's own. -/

namespace Sys2Proof.Machine

/-! ## Parameters (R71) -/

/-- The link parameters, ten bytes of window space (R71). Every byte stores any value. -/
structure Params where
  /-- 0 is FOLLOWER, 1 is MASTER. -/
  role : Byte
  /-- The node address. -/
  address : Byte
  /-- CLKIN periods in a bit time (R2). -/
  div : Word
  /-- The opening mark. -/
  om : Byte
  /-- The closing mark. -/
  cm : Byte
  /-- The escape mark. -/
  es : Byte
  /-- Largest deviation in CT that is no TOLERANCE cause (R81). -/
  syncTolerance : Byte
  /-- Consecutive missed cycle starts at which sync is lost (R85). -/
  syncLossLimit : Byte
  /-- Collisions of one event after which it is dropped (R115). -/
  retryLimit : Byte
deriving DecidableEq, Repr

/-! ## Line Framer (R3, R12 to R18) -/

/-- What the receive side judges of the line (R3). -/
inductive LineLevel where
  /-- No character is being received. -/
  | idle
  /-- From the confirmation of a start bit until that character is complete. -/
  | character
  /-- After a stop-bit error, until the line is sampled high. -/
  | heldLow
deriving DecidableEq, Repr

/-- The receive side's judgement of the line (R3). -/
structure LineState where
  level : LineLevel
  /-- Whole CT since the line last became idle. -/
  idleTime : Nat
  /-- The line has been idle since the running CT of the Cycle Timer began (read by the backoff, R112). -/
  ctIdle : Bool
deriving DecidableEq, Repr

/-- The assembly states of the receive side (R15 to R17). -/
inductive Assembly where
  | hunt
  | inFrame
  | escaped
deriving DecidableEq, Repr

/-- The receive side's frame assembly (R15 to R18). -/
structure Receiver where
  assembly : Assembly
  /-- The unstuffed bytes taken so far, the first inner byte first; at most 40. -/
  buffer : List Byte
  /-- Characters taken since the frame's opening mark, the mark included. -/
  count : Nat
  /-- The gap timer: absent when stopped, else the whole CT since it started. -/
  gap : Option Nat
deriving DecidableEq, Repr

/-- The user of the transmitter that asked for a frame (R12, R14). -/
inductive Requester where
  /-- The cycle-start launch. -/
  | cycleStart
  /-- A transmit slot, sending from a mailbox. -/
  | slot (mailbox : Fin 24)
  /-- The event queue head, sending from a mailbox. -/
  | event (mailbox : Fin 24)
deriving DecidableEq, Repr

/-- The frame in transmission: the transmit side is SENDING while there is one (R12). -/
structure Transmission where
  requester : Requester
  /-- The frame's characters, marks and escapes included. -/
  chars : List Byte
  /-- The index of the character being sent; past the last one when every readback has matched. -/
  index : Nat
  /-- A readback differed or had a stop-bit error: the frame ends after the current stop bit (R13). -/
  collided : Bool
deriving DecidableEq, Repr

/-! ## Cycle Timer (02_the_cycle_time_base.md) -/

/-- The Cycle Timer (R23). It runs exactly while a cycle length is in force (R39). -/
structure CycleTimer where
  /-- CT from the start of the current cycle. -/
  position : Nat
  /-- The cycle number. -/
  cycle : Word
  /-- The cycle length in force: none while the timer is stopped. -/
  length : Option Nat
  /-- A cycle-start frame has been accepted in the current cycle. -/
  csSeen : Bool
deriving DecidableEq, Repr

/-- A host point (R35). -/
structure HostPoint where
  enabled : Bool
  /-- REPEAT mode when set, ONE_SHOT when clear. -/
  repeats : Bool
  offset : BitVec 14
  fired : Bool
deriving DecidableEq, Repr

/-! ## Schedule Unit (03_the_schedule.md) -/

/-- One entry of a schedule bank; every field stores any value (R40). -/
structure Entry where
  start : Word
  window : Word
  kind : Byte
  exponent : Byte
  phase : Byte
  mailbox : Byte
  source : Byte
deriving DecidableEq, Repr

/-- A schedule bank: header and 32 entries (R40). -/
structure Bank where
  id : Byte
  length : Word
  count : Byte
  entries : Vector Entry 32
deriving DecidableEq, Repr

/-- The two banks by name (R43). -/
inductive BankName where
  | a
  | b
deriving DecidableEq, Repr

/-- The state of the shadow bank (R43). -/
inductive ShadowState where
  | idle
  | validating
  | armed
deriving DecidableEq, Repr

/-- The banks, the active-bank selector and the shadow state (R43). -/
structure ScheduleUnit where
  bankA : Bank
  bankB : Bank
  active : BankName
  shadow : ShadowState
deriving DecidableEq, Repr

/-- The sub-state of a receive slot (R63). -/
inductive ReceiveSub where
  | awaiting
  | receiving
  | done
deriving DecidableEq, Repr

/-- What an open slot does, by its kind (R41, R56). -/
inductive SlotBody where
  | transmit
  | receive (sub : ReceiveSub) (extended : Bool)
  | openWindow
deriving DecidableEq, Repr

/-- The record of the open slot, copied from its entry at the opening (R56). -/
structure Slot where
  index : Nat
  start : Nat
  /-- The slot's end: its start plus its window. -/
  finish : Nat
  mailbox : Byte
  source : Byte
  body : SlotBody
deriving DecidableEq, Repr

/-- The slot sequencer (R56). -/
structure Sequencer where
  nextIndex : Nat
  slot : Option Slot
deriving DecidableEq, Repr

/-! ## Link Controller (04_the_link_controller.md) -/

/-- The link states (R69). -/
inductive LinkState where
  | off
  | starting
  | listen
  | align
  | running
  | stopping
deriving DecidableEq, Repr

/-- Link state, SILENT and the master's startup silence count (R74, R87). -/
structure LinkUnit where
  state : LinkState
  silent : Bool
  /-- The startup silence count in CT; it counts in STARTING. -/
  silence : Nat
deriving DecidableEq, Repr

/-- The sync record (R84). -/
structure SyncRecord where
  missed : Nat
  /-- The last deviation, held within -128 to 127 CT (R34). -/
  deviation : Int
  id : Byte
  length : Word
deriving DecidableEq, Repr

/-! ## Mailbox Unit (05 and 06) -/

/-- The states of a TX mailbox (R97). -/
inductive TxState where
  | free
  | loaded
  | queued
  | locked
deriving DecidableEq, Repr

/-- The mode of a TX mailbox, with the repeat attribute of SCHEDULED (R95). -/
inductive TxMode where
  | scheduled (repeats : Bool)
  | event
deriving DecidableEq, Repr

/-- The last outcome of a TX mailbox (R95). -/
inductive LastOutcome where
  | none
  | sent
  | collided
  | blocked
  | oversize
  | dropped
deriving DecidableEq, Repr

/-- The staging area of a TX mailbox, written by the host (R95). -/
structure Staging where
  destination : Byte
  tag : Byte
  length : Byte
  payload : Vector Byte Config.payloadBytes
deriving DecidableEq, Repr

/-- The content of a TX mailbox, from which the line sends (R95). -/
structure TxContent where
  destination : Byte
  tag : Byte
  sequence : Byte
  length : Byte
  payload : Vector Byte Config.payloadBytes
deriving DecidableEq, Repr

/-- A mailbox configured TX (R95). -/
structure TxMailbox where
  mode : TxMode
  state : TxState
  staging : Staging
  content : TxContent
  pendingCommit : Bool
  retry : Nat
  lastOutcome : LastOutcome
deriving DecidableEq, Repr

/-- The states of an RX mailbox (R126). -/
inductive RxState where
  | empty
  | full
  | held
deriving DecidableEq, Repr

/-- The policy of an RX mailbox (R123). -/
inductive RxPolicy where
  | keep
  | overwrite
deriving DecidableEq, Repr

/-- A stored frame: the content or the next buffer of an RX mailbox (R123). -/
structure RxBuffer where
  source : Byte
  tag : Byte
  sequence : Byte
  length : Byte
  payload : Vector Byte Config.payloadBytes
  /-- The reception cycle. -/
  cycle : Word
deriving DecidableEq, Repr

/-- A mailbox configured RX (R123). -/
structure RxMailbox where
  policy : RxPolicy
  state : RxState
  contentValid : Bool
  content : RxBuffer
  nextPresent : Bool
  next : RxBuffer
  overrun : Bool
  lost : Byte
  lastHeard : Word
deriving DecidableEq, Repr

/-- A mailbox, in the direction it is configured. -/
inductive Mailbox where
  | tx (record : TxMailbox)
  | rx (record : RxMailbox)
deriving DecidableEq, Repr

/-- The event queue, the head's wait and its turned-away mark (R108, R111, R113). -/
structure EventQueue where
  /-- Oldest first. -/
  entries : List (Fin 24)
  /-- The backoff count while the head waits; none while it does not. -/
  wait : Option Nat
  turnedAway : Bool
deriving DecidableEq, Repr

/-! ## Acceptance Table and Node Presence Table (06, 07) -/

/-- An entry of the acceptance table (R137). -/
structure AcceptanceEntry where
  valid : Byte
  tag : Byte
  source : Byte
  mailbox : Byte
deriving DecidableEq, Repr

/-- The states of a node table entry (R145). -/
inductive NodeState where
  | unseen
  | present
  | late
  | absent
deriving DecidableEq, Repr

/-- An entry of the node presence table (R144). -/
structure NodeEntry where
  valid : Byte
  address : Byte
  threshold : Nat
  state : NodeState
  misses : Nat
  lastHeard : Word
deriving DecidableEq, Repr

/-! ## Interrupt and Counter Unit (08) -/

/-- The cause marks (R164). -/
structure Causes where
  missed : Bool
  tolerance : Bool
  lost : Bool
  numberJump : Bool
  swap : Bool
  mismatch : Bool
  conflict : Bool
  csBlocked : Bool
deriving DecidableEq, Repr

/-- The window fault record (R165). -/
structure FaultRecord where
  present : Bool
  multiple : Bool
  address : WindowAddress
deriving DecidableEq, Repr

/-- Flags, enables, sub-status and counters. Bits 7 to 0 of `flags` and `enables` are IFLG0 and IEN0, bits 13 to 8 are
IFLG1 and IEN1 (R183). -/
structure InterruptUnit where
  flags : BitVec 14
  enables : BitVec 14
  attention : BitVec 24
  nodeChange : BitVec 16
  pointStatus : BitVec 4
  causes : Causes
  fault : FaultRecord
  /-- In the order of their window bytes (R185). -/
  counters : Vector Byte 11
deriving DecidableEq, Repr

/-! ## Host Window (09) -/

/-- The commands that can stay in flight (R178). -/
inductive InFlight where
  | start
  | arm
  | stop
deriving DecidableEq, Repr

/-- The result codes (R181). -/
inductive ResultCode where
  | ok
  | pending
  | unknownCmd
  | badState
  | badArg
  | notReady
  | duplicate
  | queueFull
  | inFlight
  | badBank
  | badParam
deriving DecidableEq, Repr

/-- The command unit and its registers (R172, R177 to R181). -/
structure CommandUnit where
  /-- CMD: the code of the last command taken. -/
  code : Byte
  /-- ARG0, as the host last wrote it. -/
  arg0 : Byte
  /-- ARG1, as the host last wrote it. -/
  arg1 : Byte
  /-- ARG0 as the last command took it. -/
  takenArg0 : Byte
  /-- ARG1 as the last command took it. -/
  takenArg1 : Byte
  result : ResultCode
  detail : Byte
  detailIdx : Byte
  /-- The command in flight; BUSY reads set exactly while there is one. -/
  inFlight : Option InFlight
  /-- The CMD_LOST mark. -/
  lost : Bool
deriving DecidableEq, Repr

/-- The window pointer, the position and cycle snapshot, and the byte last returned (R171, R173, R176). -/
structure HostWindow where
  pointer : WindowAddress
  /-- Position bits 13 to 8 as the last POS_L read latched them. -/
  snapshotHigh : BitVec 6
  /-- The cycle number as the last POS_L read latched it. -/
  snapshotCycle : Word
  /-- The byte that the last WDATA or POS_L read returned, the model's own record of it; none when neither has been taken since
  the reset. The data lines themselves are `dataLines`. -/
  readData : Option Byte
deriving DecidableEq, Repr

/-! ## The whole device -/

/-- The state of the AJ2416 and the commands waiting for it. -/
structure State where
  params : Params
  line : LineState
  rx : Receiver
  /-- The frame in transmission: none is IDLE, some is SENDING. -/
  tx : Option Transmission
  timer : CycleTimer
  points : Vector HostPoint 4
  sched : ScheduleUnit
  seq : Sequencer
  link : LinkUnit
  sync : SyncRecord
  boxes : Vector Mailbox 24
  queue : EventQueue
  accept : Vector AcceptanceEntry 16
  nodes : Vector NodeEntry 16
  irq : InterruptUnit
  cmd : CommandUnit
  win : HostWindow
  /-- The commands waiting, first in, first out (the model's own). -/
  pending : List Instr
deriving DecidableEq, Repr

/-- Why the machine would stop with a fault. There is no such reason: the manual gives every access, command and happening
an effect, and a window access to an unmapped address reads 0 or is refused by the device itself (R175). Safe. -/
inductive Fault where
deriving DecidableEq, Repr

/-- Why a command would have no meaning in the model. -/
inductive Refusal where
  /-- Raised by an arm of `exec` that has no meaning yet. No arm raises it. Safe: the model stops. -/
  | notModelled (mnemonic : String)
deriving DecidableEq, Repr

/-- What a command answers: the outcomes of the host's interface. -/
abbrev Outcome := Host.Outcome State Fault Refusal

/-! ## Reset values -/

/-- The link parameters after a hardware reset (R71). -/
def resetParams : Params :=
  ⟨0, 0, 2083, 0xC5, 0xD9, 0xB1, 2, 3, 3⟩

/-- The receive side in HUNT with an empty buffer and its gap timer stopped (R22). -/
def Receiver.hunting : Receiver := ⟨.hunt, [], 0, none⟩

/-- An entry of a bank after a hardware reset: every field 0 (R40). -/
def Entry.zero : Entry := ⟨0, 0, 0, 0, 0, 0, 0⟩

/-- A bank after a hardware reset: every field 0 (R40). -/
def Bank.zero : Bank := ⟨0, 0, 0, .replicate _ Entry.zero⟩

/-- An empty receive buffer: every byte 0 (R124). -/
def RxBuffer.zero : RxBuffer := ⟨0, 0, 0, 0, .replicate _ 0, 0⟩

/-- An RX mailbox at its starting values (R119, R124). -/
def RxMailbox.fresh (policy : RxPolicy) : RxMailbox :=
  ⟨policy, .empty, false, RxBuffer.zero, false, RxBuffer.zero, false, 0, 0⟩

/-- A node table entry after a hardware reset (R144). -/
def NodeEntry.fresh : NodeEntry := ⟨0, 0, 1, .unseen, 0, 0⟩

/-- No cause mark is set (R164). -/
def Causes.clear : Causes := ⟨false, false, false, false, false, false, false, false⟩

/-- The machine right after a hardware reset (R22, R38, R40, R43, R56, R71, R108, R124, R137, R144, R170, R182). -/
def State.reset : State where
  params := resetParams
  line := ⟨.idle, 0, false⟩
  rx := Receiver.hunting
  tx := none
  timer := ⟨0, 0, none, false⟩
  points := .replicate _ ⟨false, false, 0, false⟩
  sched := ⟨Bank.zero, Bank.zero, .a, .idle⟩
  seq := ⟨0, none⟩
  link := ⟨.off, false, 0⟩
  sync := ⟨0, 0, 0, 0⟩
  boxes := .replicate _ (.rx (RxMailbox.fresh .keep))
  queue := ⟨[], none, false⟩
  accept := .replicate _ ⟨0, 0, 0, 0⟩
  nodes := .replicate _ NodeEntry.fresh
  irq := ⟨0, 0, 0, 0, 0, Causes.clear, ⟨false, false, 0⟩, .replicate _ 0⟩
  cmd := ⟨0, 0, 0, 0, 0, .ok, 0, 0, none, false⟩
  win := ⟨0, 0, 0, none⟩
  pending := []

end Sys2Proof.Machine
end

