-- ==== Sys2Proof/Machine/Bytes.lean ====
section
/-! DEFINITION. Bytes of two-byte fields, and reading and writing the fixed tables of the state.
Multi-byte fields lie high byte first (R183). -/

namespace Sys2Proof.Machine

/-- The high byte of a two-byte field. -/
def hiByte (w : Word) : Byte := (w >>> 8).setWidth 8

/-- The low byte of a two-byte field. -/
def loByte (w : Word) : Byte := w.setWidth 8

/-- A two-byte field from its high and its low byte. -/
def mkWord (hi lo : Byte) : Word := (hi.setWidth 16 <<< 8) ||| lo.setWidth 16

/-- A byte whose bit `i` is `b` and whose other bits are 0. -/
def bitByte (b : Bool) (i : Nat) : Byte := if b then BitVec.twoPow 8 i else 0

/-- A table with the entry at `i` replaced. -/
def put {α : Type} {n : Nat} (v : Vector α n) (i : Fin n) (x : α) : Vector α n := v.set i.val x i.isLt

/-- A table with every entry replaced by its image. -/
def mapTable {α β : Type} {n : Nat} (f : α → β) (v : Vector α n) : Vector β n :=
  ⟨⟨v.toList.map f⟩, by simp⟩

/-- The lowest index whose entry satisfies `p` (R139, R147). -/
def lowestIndex {α : Type} {n : Nat} (p : α → Bool) (v : Vector α n) : Option (Fin n) :=
  match v.toList.findIdx? p with
  | some i => if h : i < n then some ⟨i, h⟩ else none
  | none => none

/-- Payload bytes filled up with 0 to the 32 bytes of a buffer (R129). -/
def padPayload (bytes : List Byte) : Vector Byte Config.payloadBytes :=
  ⟨⟨(bytes ++ List.replicate Config.payloadBytes 0).take Config.payloadBytes⟩, by simp⟩

/-- The mailbox a byte names: none when it is above 23 (R47, R99). -/
def mailboxIndex (b : Byte) : Option (Fin 24) :=
  if h : b.toNat < 24 then some ⟨b.toNat, h⟩ else none

end Sys2Proof.Machine
end

