-- ==== Sys2Proof/Machine/Flags.lean ====
section
/-! DEFINITION. The Interrupt and Counter Unit: setting and clearing flags, the request line, the bitmaps, the cause marks,
the counters and the window fault record (08_interrupts_attention_and_error_counters.md). -/

namespace Sys2Proof.Machine

/-- The fourteen interrupt flags (R157). -/
inductive Flag where
  | cycle
  | point
  | mbx
  | event
  | sync
  | link
  | bank
  | cmd
  | node
  | lineErr
  | collision
  | slot
  | overrun
  | winFault
deriving DecidableEq, Repr

/-- The bit of a flag, counted through IFLG0 and then IFLG1 (R183). -/
def Flag.bit : Flag → Nat
  | .cycle => 0
  | .point => 1
  | .mbx => 2
  | .event => 3
  | .sync => 4
  | .link => 5
  | .bank => 6
  | .cmd => 7
  | .node => 8
  | .lineErr => 9
  | .collision => 10
  | .slot => 11
  | .overrun => 12
  | .winFault => 13

/-- Whether a flag is set. -/
def flagSet (f : Flag) (s : State) : Bool := s.irq.flags.getLsbD f.bit

/-- Set a flag, whatever its enable (R157). -/
def setFlag (f : Flag) (s : State) : State :=
  { s with irq := { s.irq with flags := s.irq.flags ||| BitVec.twoPow 14 f.bit } }

/-- The fourteen bits a byte written to one of the two flag or enable registers stands for (R158, R160, R183). -/
def registerBits : FlagRegister → Byte → BitVec 14
  | .reg0, v => v.setWidth 14
  | .reg1, v => v.setWidth 14 <<< 8

/-- The bits of `flags` and `enables` that one register holds. -/
def registerMask : FlagRegister → BitVec 14
  | .reg0 => 0x00FF
  | .reg1 => 0x3F00

/-- A host write to IFLG0 or IFLG1 clears each flag whose bit is 1 (R158). -/
def clearFlags (r : FlagRegister) (v : Byte) (s : State) : State :=
  { s with irq := { s.irq with flags := s.irq.flags &&& ~~~registerBits r v } }

/-- A host write to IEN0 or IEN1 stores that register's enables (R160). -/
def writeEnables (r : FlagRegister) (v : Byte) (s : State) : State :=
  { s with irq := { s.irq with
      enables := (s.irq.enables &&& ~~~registerMask r) ||| (registerBits r v &&& registerMask r) } }

/-- The request line is asserted exactly when some flag and its enable are both set (R161). The pin is driven low then. -/
def irqAsserted (s : State) : Bool := s.irq.flags &&& s.irq.enables != 0

/-- The eleven counters (R166). -/
inductive Counter where
  | crcErr
  | charErr
  | escErr
  | truncErr
  | lenErr
  | formatErr
  | csMissed
  | slotSkipped
  | collisions
  | stray
  | unrouted
deriving DecidableEq, Repr

/-- The place of a counter among the window bytes from 0x0030 (R185). -/
def Counter.index : Counter → Fin 11
  | .crcErr => 0
  | .charErr => 1
  | .escErr => 2
  | .truncErr => 3
  | .lenErr => 4
  | .formatErr => 5
  | .csMissed => 6
  | .slotSkipped => 7
  | .collisions => 8
  | .stray => 9
  | .unrouted => 10

/-- The value of a counter. -/
def counterValue (c : Counter) (s : State) : Byte := s.irq.counters[c.index]

/-- Add 1 unless the byte holds 255 (R133, R166). -/
def saturatingIncrement (b : Byte) : Byte := if b = 255 then b else b + 1

/-- Increment a counter (R166). -/
def bump (c : Counter) (s : State) : State :=
  { s with irq := { s.irq with
      counters := put s.irq.counters c.index (saturatingIncrement (counterValue c s)) } }

/-- A line error detection: its counter and the LINE_ERR flag (R21). -/
def lineError (c : Counter) (s : State) : State := setFlag .lineErr (bump c s)

/-- Set a mailbox's attention bit and the MBX flag (R163). -/
def raiseAttention (m : Fin 24) (s : State) : State :=
  setFlag .mbx { s with irq := { s.irq with attention := s.irq.attention ||| BitVec.twoPow 24 m.val } }

/-- Set an entry's node-change bit and the NODE flag (R151). -/
def raiseNodeChange (n : Fin 16) (s : State) : State :=
  setFlag .node { s with irq := { s.irq with nodeChange := s.irq.nodeChange ||| BitVec.twoPow 16 n.val } }

/-- Change the cause marks (R164). -/
def updateCauses (f : Causes → Causes) (s : State) : State :=
  { s with irq := { s.irq with causes := f s.irq.causes } }

/-- A window write that its collection refuses: the WIN_FAULT flag and the fault record (R165, R175). -/
def recordRefusal (a : WindowAddress) (s : State) : State :=
  setFlag .winFault { s with irq := { s.irq with
    fault := { present := true, multiple := s.irq.fault.multiple || s.irq.fault.present, address := a } } }

/-- Set the eleven counters to 0 (R93, R167). -/
def zeroCounters (s : State) : State :=
  { s with irq := { s.irq with counters := .replicate _ 0 } }

end Sys2Proof.Machine
end

