-- ==== Sys2Proof/Machine/Nodes.lean ====
section
/-! DEFINITION. The Node Presence Table: which entry an outcome selects, HEARD, MISSED, and a host write
(07_the_node_presence_table.md). -/

namespace Sys2Proof.Machine

/-- The entry an outcome updates: the lowest-numbered valid entry with that address (R147). -/
def selectNode (source : Byte) (s : State) : Option (Fin 16) :=
  lowestIndex (fun e => e.valid != 0 && e.address == source) s.nodes

/-- An entry after HEARD in the given cycle (R149). -/
def NodeEntry.heard (cycle : Word) (e : NodeEntry) : NodeEntry :=
  { e with state := .present, misses := 0, lastHeard := cycle }

/-- An entry after MISSED (R150). -/
def NodeEntry.missed (e : NodeEntry) : NodeEntry :=
  if e.state = .absent then e
  else if e.misses + 1 < e.threshold then { e with state := .late, misses := e.misses + 1 }
  else { e with state := .absent, misses := e.threshold }

/-- An entry after a host write to one of its field bytes, before the byte is stored (R146). -/
def NodeEntry.rewritten (e : NodeEntry) : NodeEntry := { e with state := .unseen, misses := 0 }

/-- The threshold that a written byte stores: 0 as 1, and 16 to 255 as 15 (R144). -/
def clampThreshold (v : Byte) : Nat := max 1 (min 15 v.toNat)

/-- A HEARD outcome for a peer (R147, R149). -/
def nodeHeard (source : Byte) (s : State) : State :=
  match selectNode source s with
  | none => s
  | some n =>
    let s' := { s with nodes := put s.nodes n (s.nodes[n].heard s.timer.cycle) }
    if s.nodes[n].state = .present then s' else raiseNodeChange n s'

/-- A MISSED outcome for a peer (R147, R150). -/
def nodeMissed (source : Byte) (s : State) : State :=
  match selectNode source s with
  | none => s
  | some n =>
    let e := s.nodes[n].missed
    let s' := { s with nodes := put s.nodes n e }
    if s.nodes[n].state ≠ .absent ∧ e.state = .absent then raiseNodeChange n s' else s'

/-- Every entry UNSEEN with miss count 0 and last-heard cycle 0, as LINK_RESET leaves it (R156). -/
def resetNodes (s : State) : State :=
  { s with nodes := mapTable (fun (e : NodeEntry) =>
      { e with state := .unseen, misses := 0, lastHeard := 0 }) s.nodes }

end Sys2Proof.Machine
end

