-- ==== Sys2Proof/Machine/Operands.lean ====
section
/-! DEFINITION. The codes by which the host and the line name things, and what a read of each direct register returns
(R172, R177, R181, R183, R188, R189). -/

namespace Sys2Proof.Machine

/-- The kind of a frame on the line (R7). -/
inductive FrameKind where
  | cycleStart
  | slotData
  | eventData
deriving DecidableEq, Repr

/-- The KIND byte of a frame (R7). -/
def FrameKind.code : FrameKind → Byte
  | .cycleStart => 0x01
  | .slotData => 0x02
  | .eventData => 0x03

/-- The kind a KIND byte names, if any (R19, check 4). -/
def frameKind? (b : Byte) : Option FrameKind :=
  if b = 0x01 then some .cycleStart
  else if b = 0x02 then some .slotData
  else if b = 0x03 then some .eventData
  else none

/-- The kind of a schedule entry (R41). -/
inductive EntryKind where
  | transmit
  | receive
  | openWindow
deriving DecidableEq, Repr

/-- The kind a kind byte names, if any (R188). -/
def entryKind? (b : Byte) : Option EntryKind :=
  if b = 0x01 then some .transmit
  else if b = 0x02 then some .receive
  else if b = 0x03 then some .openWindow
  else none

/-- The configuration code of a mailbox, as ARG1 of CONFIG_MAILBOX (R117, R189). -/
def configCode : Mailbox → Byte
  | .rx r => match r.policy with
    | .keep => 0x00
    | .overwrite => 0x01
  | .tx t => match t.mode with
    | .scheduled false => 0x10
    | .scheduled true => 0x11
    | .event => 0x12

/-- The state byte of a TX mailbox (R189). -/
def TxState.code : TxState → Byte
  | .free => 0
  | .loaded => 1
  | .queued => 2
  | .locked => 3

/-- The state byte of an RX mailbox (R189). -/
def RxState.code : RxState → Byte
  | .empty => 0
  | .full => 1
  | .held => 2

/-- The last-outcome byte of a TX mailbox (R189). -/
def LastOutcome.code : LastOutcome → Byte
  | .none => 0
  | .sent => 1
  | .collided => 2
  | .blocked => 3
  | .oversize => 4
  | .dropped => 5

/-- The state byte of a node table entry (R187). -/
def NodeState.code : NodeState → Byte
  | .unseen => 0
  | .present => 1
  | .late => 2
  | .absent => 3

/-- The RESULT byte (R181). -/
def ResultCode.code : ResultCode → Byte
  | .ok => 0x00
  | .pending => 0x01
  | .unknownCmd => 0x02
  | .badState => 0x03
  | .badArg => 0x04
  | .notReady => 0x05
  | .duplicate => 0x06
  | .queueFull => 0x07
  | .inFlight => 0x08
  | .badBank => 0x09
  | .badParam => 0x0A

/-- The link state as LSTAT encodes it (R183). -/
def LinkState.code : LinkState → Byte
  | .off => 0
  | .starting => 1
  | .listen => 2
  | .align => 3
  | .running => 4
  | .stopping => 5

/-- The shadow state as LSTAT encodes it (R183). -/
def ShadowState.code : ShadowState → Byte
  | .idle => 0
  | .validating => 1
  | .armed => 2

/-- The role is MASTER when its parameter holds 1 (R71, R183). -/
def isMaster (s : State) : Bool := s.params.role == 1

/-- BUSY reads set exactly while a command is in flight (R178). -/
def busy (s : State) : Bool := s.cmd.inFlight.isSome

/-- The value of LSTAT (R183). -/
def lstat (s : State) : Byte :=
  (s.sched.shadow.code <<< 6) ||| bitByte (s.sched.active == .b) 5 ||| bitByte s.link.silent 4 |||
    bitByte (isMaster s) 3 ||| s.link.state.code

/-- The position as the fourteen bits POS_H and POS_L show (R176). -/
def positionBits (s : State) : BitVec 14 := BitVec.ofNat 14 s.timer.position

/-- What a read of a direct register other than WDATA returns (R172). Unused addresses read 0 (R171). -/
def readRegister (a : BusAddress) (s : State) : Byte :=
  match a.toNat with
  | 0x00 => s.cmd.code
  | 0x01 => s.cmd.arg0
  | 0x02 => s.cmd.arg1
  | 0x03 => s.cmd.result.code
  | 0x04 => s.cmd.detail
  | 0x05 => (s.win.pointer >>> 8).setWidth 8
  | 0x06 => s.win.pointer.setWidth 8
  | 0x08 => lstat s
  | 0x09 => s.irq.flags.setWidth 8
  | 0x0A => (s.irq.flags >>> 8).setWidth 8
  | 0x0B => s.irq.enables.setWidth 8
  | 0x0C => (s.irq.enables >>> 8).setWidth 8
  | 0x0D => (positionBits s).setWidth 8
  | 0x0E => s.win.snapshotHigh.setWidth 8
  | 0x0F => loByte s.win.snapshotCycle
  | 0x10 => hiByte s.win.snapshotCycle
  | 0x11 => bitByte s.cmd.lost 1 ||| bitByte (busy s) 0
  | 0x12 => s.cmd.detailIdx
  | _ => 0

end Sys2Proof.Machine
end

