-- ==== Sys2Proof/Machine/Frame.lean ====
section
/-! DEFINITION. Frames on the line: layout, CRC, escaping, stuffed length, and the end-of-frame checks
(R6 to R11, R19). -/

namespace Sys2Proof.Machine

/-- A frame's fields (R7). LEN is the number of payload bytes. -/
structure Frame where
  dst : Byte
  src : Byte
  kind : FrameKind
  tag : Byte
  seq : Byte
  payload : List Byte
deriving DecidableEq, Repr

/-- One bit of the CRC: the bit is exclusive-ored with the most significant bit of the register, the register shifts left,
and 0x1021 is exclusive-ored in when that gave 1 (R10). -/
def crcBit (crc : Word) (bit : Bool) : Word :=
  if crc.msb ^^ bit then (crc <<< 1) ^^^ 0x1021 else crc <<< 1

/-- One byte of the CRC, most significant bit first (R10). -/
def crcByte (crc : Word) (b : Byte) : Word :=
  [7, 6, 5, 4, 3, 2, 1, 0].foldl (fun c i => crcBit c (b.getLsbD i)) crc

/-- The CRC of a run of bytes, from the initial value 0xFFFF (R10). -/
def crc (bytes : List Byte) : Word := bytes.foldl crcByte 0xFFFF

/-- Inner bytes 1 to 6 + LEN: the header and the payload, which the CRC covers (R7, R10). -/
def Frame.body (f : Frame) : List Byte :=
  [f.dst, f.src, f.kind.code, f.tag, f.seq, BitVec.ofNat 8 f.payload.length] ++ f.payload

/-- The inner bytes of a frame: body, CRC high, CRC low (R7). -/
def Frame.inner (f : Frame) : List Byte := f.body ++ [hiByte (crc f.body), loByte (crc f.body)]

/-- Whether a byte equals one of the three marks. -/
def isMark (p : Params) (b : Byte) : Bool := b == p.om || b == p.cm || b == p.es

/-- The characters that carry one inner byte: a mark goes as ES and its complement (R6). -/
def escape (p : Params) (b : Byte) : List Byte := if isMark p b then [p.es, ~~~b] else [b]

/-- The characters of a frame, from the opening to the closing mark (R6, R7). -/
def Frame.characters (p : Params) (f : Frame) : List Byte :=
  p.om :: (f.inner.flatMap (escape p) ++ [p.cm])

/-- The stuffed length: 2 plus 2 for each inner byte that is a mark and 1 for each other (R11). -/
def Frame.stuffedLength (p : Params) (f : Frame) : Nat :=
  2 + (f.inner.map (fun b => if isMark p b then 2 else 1)).sum

/-- The mark whose complement a character is, tried in the order OM, CM, ES (R17). -/
def unescape? (p : Params) (c : Byte) : Option Byte :=
  if c = ~~~p.om then some p.om
  else if c = ~~~p.cm then some p.cm
  else if c = ~~~p.es then some p.es
  else none

/-- The cycle number a cycle-start frame carries (R9). -/
def Frame.csCycle (f : Frame) : Word := mkWord (f.payload.getD 0 0) (f.payload.getD 1 0)

/-- The schedule id a cycle-start frame carries (R9). -/
def Frame.csId (f : Frame) : Byte := f.payload.getD 2 0

/-- The cycle length a cycle-start frame carries (R9). -/
def Frame.csLength (f : Frame) : Word := mkWord (f.payload.getD 3 0) (f.payload.getD 4 0)

/-- A cycle length that a bank or a cycle-start frame may name (R19, R46). -/
def cycleLengthOk (w : Word) : Bool :=
  Config.minCycleLength ≤ w.toNat && w.toNat ≤ Config.maxCycleLength

/-- The form of a cycle-start frame (R19, check 5). -/
def Frame.csFormatOk (f : Frame) : Bool :=
  f.payload.length == 5 && f.dst == Config.broadcast && f.csId != 0 && cycleLengthOk f.csLength

/-- What the end-of-frame checks find. -/
inductive FrameCheck where
  | valid (frame : Frame)
  | invalid (error : Counter)
deriving DecidableEq, Repr

/-- The end-of-frame checks, in their order; the first that fails decides (R19). -/
def checkFrame (buffer : List Byte) : FrameCheck :=
  let len := (buffer.getD 5 0).toNat
  if buffer.length < 8 then .invalid .lenErr
  else if Config.payloadBytes < len || buffer.length != 8 + len then .invalid .lenErr
  else if crc (buffer.take (6 + len)) != mkWord (buffer.getD (6 + len) 0) (buffer.getD (7 + len) 0) then
    .invalid .crcErr
  else match frameKind? (buffer.getD 2 0) with
    | none => .invalid .formatErr
    | some kind =>
      let f : Frame :=
        { dst := buffer.getD 0 0, src := buffer.getD 1 0, kind := kind, tag := buffer.getD 3 0,
          seq := buffer.getD 4 0, payload := (buffer.drop 6).take len }
      if kind = .cycleStart && !f.csFormatOk then .invalid .formatErr else .valid f

end Sys2Proof.Machine
end

