-- ==== Sys2Proof/Machine/Receive.lean ====
section
/-! DEFINITION. Delivery of a frame to an RX mailbox, the acceptance table and stray frames
(06_receive_mailboxes_and_the_acceptance_table.md). -/

namespace Sys2Proof.Machine

/-- The latest stored frame: the next buffer when present, else the content when valid (R128). -/
def latestStored (r : RxMailbox) : Option RxBuffer :=
  if r.nextPresent then some r.next
  else if r.contentValid then some r.content
  else none

/-- A delivered frame is a repeat when its source and sequence equal the latest stored frame's (R128). -/
def isRepeat (f : Frame) (r : RxMailbox) : Bool :=
  match latestStored r with
  | some b => b.source == f.src && b.sequence == f.seq
  | none => false

/-- The buffer a frame makes when it is stored in a cycle (R129). -/
def storedFrame (cycle : Word) (f : Frame) : RxBuffer :=
  { source := f.src, tag := f.tag, sequence := f.seq, length := BitVec.ofNat 8 f.payload.length,
    payload := padPayload f.payload, cycle := cycle }

/-- What a delivery tells the host: the attention bit, the OVERRUN flag. -/
structure Notice where
  attention : Bool
  overrun : Bool
deriving DecidableEq, Repr

/-- An RX mailbox after a delivery in a cycle, and what the host is told (R128, R130 to R133). -/
def RxMailbox.take (cycle : Word) (f : Frame) (r : RxMailbox) : RxMailbox × Notice :=
  let heard := { r with lastHeard := cycle }
  let new := storedFrame cycle f
  if isRepeat f r then (heard, ⟨false, false⟩)
  else match r.state, r.nextPresent, r.policy with
    | .empty, _, _ => ({ heard with content := new, contentValid := true, state := .full }, ⟨true, false⟩)
    | .full, _, .keep => ({ heard with lost := saturatingIncrement r.lost }, ⟨false, true⟩)
    | .full, _, .overwrite =>
      ({ heard with content := new, contentValid := true, overrun := true }, ⟨true, true⟩)
    | .held, false, _ => ({ heard with next := new, nextPresent := true }, ⟨true, false⟩)
    | .held, true, .keep => ({ heard with lost := saturatingIncrement r.lost }, ⟨false, true⟩)
    | .held, true, .overwrite => ({ heard with next := new, overrun := true }, ⟨false, true⟩)

/-- Set the attention bit and the OVERRUN flag that a delivery names (R127, R133, R163). -/
def applyNotice (m : Fin 24) (n : Notice) (s : State) : State :=
  let s := if n.overrun then setFlag .overrun s else s
  if n.attention then raiseAttention m s else s

/-- Deliver a frame to a mailbox (R127). A mailbox that is TX takes no delivery. -/
def deliver (m : Fin 24) (f : Frame) (s : State) : State :=
  match s.boxes[m] with
  | .tx _ => s
  | .rx r =>
    let out := r.take s.timer.cycle f
    applyNotice m out.2 { s with boxes := put s.boxes m (.rx out.1) }

/-- A frame is addressed to this node or to all nodes (R64, R138, R142). -/
def addressedHere (f : Frame) (s : State) : Bool :=
  f.dst == s.params.address || f.dst == Config.broadcast

/-- The winning acceptance entry for a frame (R139). -/
def winningEntry (f : Frame) (s : State) : Option (Fin 16) :=
  lowestIndex (fun e => e.valid != 0 && e.tag == f.tag && (e.source == 255 || e.source == f.src)) s.accept

/-- Where the acceptance table sends an admitted frame: an RX mailbox, if the winner names one (R140). -/
def acceptedMailbox (f : Frame) (s : State) : Option (Fin 24) :=
  match winningEntry f s with
  | none => none
  | some n => match mailboxIndex s.accept[n].mailbox with
    | none => none
    | some m => match s.boxes[m] with
      | .rx _ => some m
      | .tx _ => none

/-- Route an EVENT_DATA frame that an open window passes to the acceptance table (R138 to R140). -/
def routeEvent (f : Frame) (s : State) : State :=
  if addressedHere f s then
    match acceptedMailbox f s with
    | some m => deliver m f s
    | none => bump .unrouted s
  else s

/-- Account a frame that the slot sequencer marks stray (R142). -/
def strayFrame (f : Frame) (s : State) : State :=
  if addressedHere f s then bump .stray s else s

/-- An RX mailbox after HOLD of FULL (R134). -/
def RxMailbox.hold (r : RxMailbox) : RxMailbox := { r with state := .held, nextPresent := false }

/-- An RX mailbox after a RELEASE that is taken, and whether a next buffer was promoted (R135). -/
def RxMailbox.release (r : RxMailbox) : RxMailbox × Bool :=
  if r.state = .held ∧ r.nextPresent = true then
    ({ r with content := r.next, contentValid := true, nextPresent := false, state := .full, overrun := false }, true)
  else ({ r with state := .empty, overrun := false }, false)

/-- An RX mailbox as LINK_RESET leaves it (R124). -/
def RxMailbox.linkReset (r : RxMailbox) : RxMailbox :=
  { r with state := .empty, nextPresent := false, overrun := false, lost := 0, lastHeard := 0 }

end Sys2Proof.Machine
end

