-- ==== Sys2Proof/Machine/Schedule.lean ====
section
/-! DEFINITION. The schedule banks: selection, activity of an entry, validation and the swap (R40 to R55). -/

namespace Sys2Proof.Machine

/-- The other bank's name. -/
def BankName.other : BankName → BankName
  | .a => .b
  | .b => .a

/-- A bank by its name. -/
def bankOf (n : BankName) (s : State) : Bank :=
  match n with
  | .a => s.sched.bankA
  | .b => s.sched.bankB

/-- Replace a bank's contents. -/
def setBank (n : BankName) (b : Bank) (s : State) : State :=
  match n with
  | .a => { s with sched := { s.sched with bankA := b } }
  | .b => { s with sched := { s.sched with bankB := b } }

/-- The active bank (R43). -/
def activeBank (s : State) : Bank := bankOf s.sched.active s

/-- The shadow bank (R43). -/
def shadowBank (s : State) : Bank := bankOf s.sched.active.other s

/-- The entries below the entry count, in index order (R40). -/
def Bank.schedule (b : Bank) : List Entry := b.entries.toList.take b.count.toNat

/-- The end of an entry: start plus window, summed without loss (R40, R47). -/
def Entry.finish (e : Entry) : Nat := e.start.toNat + e.window.toNat

/-- An entry is active in cycle c when c mod 2^e equals its phase (R42). -/
def Entry.activeIn (cycle : Word) (e : Entry) : Bool :=
  cycle.toNat % 2 ^ e.exponent.toNat == e.phase.toNat

/-- The least window of an entry kind (R47, reason 6). -/
def EntryKind.minWindow : EntryKind → Nat
  | .transmit => 10
  | .receive => 10
  | .openWindow => 16

/-- A mailbox's configuration fits an entry kind (R47, reason 8). OPEN entries name no mailbox. -/
def mailboxFits (kind : EntryKind) (box : Mailbox) : Bool :=
  match kind, box with
  | .transmit, .tx t => t.mode != .event
  | .transmit, .rx _ => false
  | .receive, .rx _ => true
  | .receive, .tx _ => false
  | .openWindow, _ => true

/-- Reason 8: the mailbox exists and its configuration fits the kind; not checked for OPEN entries (R47). -/
def mailboxCheck (boxes : Vector Mailbox 24) (kind : EntryKind) (e : Entry) : Bool :=
  match kind with
  | .openWindow => true
  | k => match mailboxIndex e.mailbox with
    | some m => mailboxFits k boxes[m]
    | none => false

/-- The reason of the first check of one entry that does not succeed (R46, reasons 4 to 10). -/
def entryFault (boxes : Vector Mailbox 24) (previousEnd : Option Nat) (e : Entry) : Option Nat :=
  match entryKind? e.kind with
  | none => some 4
  | some kind =>
    if e.start.toNat < Config.csWindow then some 5
    else if e.window.toNat < kind.minWindow then some 6
    else if 6 < e.exponent.toNat || 2 ^ e.exponent.toNat ≤ e.phase.toNat then some 7
    else if !mailboxCheck boxes kind e then some 8
    else if kind = .receive && 239 < e.source.toNat then some 9
    else match previousEnd with
      | some p => if e.start.toNat < p then some 10 else none
      | none => none

/-- A failed validation: the reason and the index recorded (R46). -/
structure BankFault where
  reason : Nat
  index : Byte
deriving DecidableEq, Repr

/-- The entry checks and, after the last entry, the closing guard (R46, reasons 4 to 11; R48). -/
def entriesFault (boxes : Vector Mailbox 24) (cycleLength : Nat) :
    Option Nat → Nat → List Entry → Option BankFault
  | none, _, [] => none
  | some lastEnd, _, [] =>
    if lastEnd + Config.closingGuard ≤ cycleLength then none else some ⟨11, 0xFF⟩
  | previousEnd, i, e :: rest =>
    match entryFault boxes previousEnd e with
    | some reason => some ⟨reason, BitVec.ofNat 8 i⟩
    | none => entriesFault boxes cycleLength (some e.finish) (i + 1) rest

/-- Validation of a bank against the mailbox configuration: none when it passes (R46). -/
def validate (boxes : Vector Mailbox 24) (b : Bank) : Option BankFault :=
  if b.id = 0 then some ⟨1, 0xFF⟩
  else if !cycleLengthOk b.length then some ⟨2, 0xFF⟩
  else if 32 < b.count.toNat then some ⟨3, 0xFF⟩
  else entriesFault boxes b.length.toNat none 0 b.schedule

/-- The swap: the banks exchange roles, the former active bank is the shadow in IDLE, and in RUNNING the new active bank's
cycle length comes into force (R53). -/
def exchangeBanks (s : State) : State :=
  let s := { s with sched := { s.sched with active := s.sched.active.other, shadow := .idle } }
  let s := if s.link.state = .running then
      { s with timer := { s.timer with length := some (activeBank s).length.toNat } }
    else s
  setFlag .bank (updateCauses (fun c => { c with swap := true }) s)

/-- The index of the first entry of the active bank that starts at or beyond `q`, or the entry count (R55). -/
def firstEntryFrom (q : Nat) (s : State) : Nat :=
  ((activeBank s).schedule.findIdx (fun e => q ≤ e.start.toNat))

end Sys2Proof.Machine
end

