-- ==== Sys2Proof/Machine/Transmit.lean ====
section
/-! DEFINITION. TX mailboxes and the event queue: commit, the frame a mailbox offers, the outcomes of a send, the head's
wait and its backoff (05_transmit_mailboxes_and_the_event_queue.md). -/

namespace Sys2Proof.Machine

/-- Staging with every byte 0 (R118). -/
def Staging.zero : Staging := ⟨0, 0, 0, .replicate _ 0⟩

/-- Content with every byte 0 (R118). -/
def TxContent.zero : TxContent := ⟨0, 0, 0, 0, .replicate _ 0⟩

/-- A TX mailbox at its starting values (R118). -/
def TxMailbox.fresh (mode : TxMode) : TxMailbox :=
  ⟨mode, .free, Staging.zero, TxContent.zero, false, 0, .none⟩

/-- The configuration a code of CONFIG_MAILBOX names (R117). -/
def mailboxOfCode (code : Byte) : Option Mailbox :=
  if code = 0x00 then some (.rx (RxMailbox.fresh .keep))
  else if code = 0x01 then some (.rx (RxMailbox.fresh .overwrite))
  else if code = 0x10 then some (.tx (TxMailbox.fresh (.scheduled false)))
  else if code = 0x11 then some (.tx (TxMailbox.fresh (.scheduled true)))
  else if code = 0x12 then some (.tx (TxMailbox.fresh .event))
  else none

/-- The content a commit installs: the staging under the next sequence number (R98, R99). -/
def TxMailbox.committed (t : TxMailbox) : TxContent :=
  { destination := t.staging.destination, tag := t.staging.tag, sequence := t.content.sequence + 1,
    length := t.staging.length, payload := t.staging.payload }

/-- A TX mailbox after an immediate commit (R99): a FREE mailbox becomes LOADED, another keeps its state. -/
def TxMailbox.commit (t : TxMailbox) : TxMailbox :=
  { t with content := t.committed, state := if t.state = .free then .loaded else t.state }

/-- A pending commit applied at the end of a lock, after the transmission's own effect (R102). -/
def TxMailbox.applyPending (t : TxMailbox) : TxMailbox :=
  if t.pendingCommit then { t.commit with pendingCommit := false } else t

/-- The frame a TX mailbox offers to the line, from its content (R8). -/
def mailboxFrame (kind : FrameKind) (t : TxMailbox) (s : State) : Frame :=
  { dst := t.content.destination, src := s.params.address, kind := kind, tag := t.content.tag,
    seq := t.content.sequence, payload := t.content.payload.toList.take t.content.length.toNat }

/-- Change a TX mailbox; a mailbox configured RX stays as it is. -/
def updateTx (m : Fin 24) (f : TxMailbox → TxMailbox) (s : State) : State :=
  match s.boxes[m] with
  | .tx t => { s with boxes := put s.boxes m (.tx (f t)) }
  | .rx _ => s

/-- A mailbox leaves the event queue; when it was the head, the head's wait ends and the turned-away mark is cleared
(R108, R110, R113). -/
def leaveQueue (m : Fin 24) (s : State) : State :=
  let atHead := s.queue.entries.head? == some m
  { s with queue :=
    { entries := s.queue.entries.filter (· != m),
      wait := if atHead then none else s.queue.wait,
      turnedAway := if atHead then false else s.queue.turnedAway } }

/-- The head stands in the queue in state QUEUED (R111). -/
def headQueued (s : State) : Bool :=
  match s.queue.entries.head? with
  | none => false
  | some m => match s.boxes[m] with
    | .tx t => t.state == .queued
    | .rx _ => false

/-- An open window is open (R68). -/
def openWindowOpen (s : State) : Bool :=
  match s.seq.slot with
  | some sl => sl.body == .openWindow
  | none => false

/-- The conditions under which the head waits (R111). -/
def headMayWait (s : State) : Bool :=
  openWindowOpen s && s.link.state == .running && !s.link.silent && s.tx.isNone && headQueued s &&
    !s.queue.turnedAway

/-- Bring the head's wait in line with its conditions: a wait begins from 0 when the last of them comes to hold, and ends
when one stops holding (R111). -/
def settleWait (s : State) : State :=
  { s with queue := { s.queue with
      wait := if headMayWait s then some (s.queue.wait.getD 0) else none } }

/-- The head's retry count (R112). -/
def headRetry (s : State) : Nat :=
  match s.queue.entries.head? with
  | none => 0
  | some m => match s.boxes[m] with
    | .tx t => t.retry
    | .rx _ => 0

/-- The head's backoff in CT of line idle (R112). -/
def backoff (s : State) : Nat := 2 + s.params.address.toNat % 16 + 16 * headRetry s

/-- A scheduled send completed (R104). -/
def TxMailbox.slotSent (t : TxMailbox) : TxMailbox :=
  { t with lastOutcome := .sent, state := if t.mode = .scheduled true then .loaded else .free }

/-- A slot's frame collided (R105). -/
def TxMailbox.slotCollided (t : TxMailbox) : TxMailbox := { t with lastOutcome := .collided, state := .loaded }

/-- A slot's frame was cut: the lock ends (R107). -/
def TxMailbox.slotCut (t : TxMailbox) : TxMailbox := { t with state := .loaded }

/-- An event send completed (R114). -/
def TxMailbox.eventSent (t : TxMailbox) : TxMailbox := { t with lastOutcome := .sent, state := .free }

/-- An event collided within the retry limit (R115). -/
def TxMailbox.eventRetried (t : TxMailbox) : TxMailbox :=
  { t with lastOutcome := .collided, state := .queued, retry := t.retry + 1 }

/-- An event dropped (R115). -/
def TxMailbox.eventDropped (t : TxMailbox) : TxMailbox :=
  { t with lastOutcome := .dropped, state := .loaded, retry := min 15 (t.retry + 1) }

/-- An event's frame was cut: the head returns to QUEUED (R116). -/
def TxMailbox.eventCut (t : TxMailbox) : TxMailbox := { t with state := .queued }

/-- The retry count of a mailbox, 0 for an RX mailbox. -/
def retryOf (m : Fin 24) (s : State) : Nat :=
  match s.boxes[m] with
  | .tx t => t.retry
  | .rx _ => 0

/-- The effect of a completed transmission on its requester, with the deferred commit after it (R14, R102, R104, R114). -/
def outcomeCompleted (r : Requester) (s : State) : State :=
  match r with
  | .cycleStart => s
  | .slot m => raiseAttention m (updateTx m (fun t => t.slotSent.applyPending) s)
  | .event m =>
    setFlag .event (raiseAttention m (leaveQueue m (updateTx m (fun t => t.eventSent.applyPending) s)))

/-- The effect of a collided transmission on its requester, with the deferred commit after it (R14, R102, R105, R115). -/
def outcomeCollided (r : Requester) (s : State) : State :=
  match r with
  | .cycleStart => s
  | .slot m => raiseAttention m (updateTx m (fun t => t.slotCollided.applyPending) s)
  | .event m =>
    if retryOf m s < s.params.retryLimit.toNat then updateTx m (fun t => t.eventRetried.applyPending) s
    else
      setFlag .event (raiseAttention m (leaveQueue m (updateTx m (fun t => t.eventDropped.applyPending) s)))

/-- The effect of a cut transmission on its requester, with the deferred commit after it (R14, R102, R107, R116). -/
def outcomeCut (r : Requester) (s : State) : State :=
  match r with
  | .cycleStart => s
  | .slot m => updateTx m (fun t => t.slotCut.applyPending) s
  | .event m => updateTx m (fun t => t.eventCut.applyPending) s

/-- Every character's readback has matched (R14). -/
def Transmission.allMatched (t : Transmission) : Bool := !t.collided && t.chars.length ≤ t.index

/-- A collided frame is counted (R14). -/
def countCollision (s : State) : State := setFlag .collision (bump .collisions s)

/-- The transmit side returns to IDLE and the receive side resumes in HUNT with its gap timer stopped (R14). -/
def transmitterIdle (s : State) : State := { s with tx := none, rx := Receiver.hunting }

/-- The queue emptied and each QUEUED mailbox LOADED with retry count 0, as LINK_RESET leaves them (R121). -/
def TxMailbox.linkReset (t : TxMailbox) : TxMailbox :=
  if t.state = .queued then { t with state := .loaded, retry := 0 } else t

end Sys2Proof.Machine
end

