-- ==== Sys2Proof/Machine/Sequencer.lean ====
section
/-! DEFINITION. The slot sequencer, the beginning of a frame, and the abandonment of an assembly
(R12, R18, R31, R56 to R68). -/

namespace Sys2Proof.Machine

/-- The open slot closes. The head's wait and the turned-away mark end with an open window (R59, R111, R113). -/
def closeSlot (s : State) : State :=
  { s with seq := { s.seq with slot := none }, queue := { s.queue with wait := none, turnedAway := false } }

/-- Replace the body of the open slot. -/
def setSlot (sl : Slot) (s : State) : State := { s with seq := { s.seq with slot := some sl } }

/-- The slot sequencer is told that a frame has opened (R20, R63). -/
def slotFrameOpened (s : State) : State :=
  match s.seq.slot with
  | some sl => match sl.body with
    | .receive .awaiting extended => setSlot { sl with body := .receive .receiving extended } s
    | _ => s
  | none => s

/-- The slot sequencer is told that the frame in progress ended without HEARD: it was abandoned, failed its checks, or was a
valid cycle-start frame (R20, R63, R66). -/
def slotFrameEnded (s : State) : State :=
  match s.seq.slot with
  | some sl => match sl.body with
    | .receive .receiving false => setSlot { sl with body := .receive .awaiting false } s
    | .receive .receiving true => nodeMissed sl.source (closeSlot s)
    | _ => s
  | none => s

/-- An assembly in progress is abandoned with a line error; in HUNT there is none (R18). -/
def abandonAssembly (c : Counter) (s : State) : State :=
  if s.rx.assembly = .hunt then s
  else slotFrameEnded (lineError c { s with rx := Receiver.hunting })

/-- The transmit side goes to SENDING with a frame; an assembly in progress is abandoned with TRUNC_ERR (R12, R18). -/
def beginFrame (r : Requester) (f : Frame) (s : State) : State :=
  let s := abandonAssembly .truncErr s
  { s with tx := some { requester := r, chars := f.characters s.params, index := 0, collided := false } }

/-- The line is busy (R3). -/
def lineBusy (s : State) : Bool := s.line.level != .idle

/-- A transmit slot refuses its frame, or an early boundary passes it over (R31, R61, R106). -/
def refuseSend (m : Fin 24) (o : LastOutcome) (s : State) : State :=
  raiseAttention m (setFlag .slot (bump .slotSkipped (updateTx m (fun t => { t with lastOutcome := o }) s)))

/-- The decision of a transmit slot at its opening: SILENT, then a mailbox that is not LOADED, then a busy line, then an
oversize frame; else the mailbox is LOCKED and its frame begins (R61, R62). No second frame begins while one is SENDING. -/
def admitTransmit (e : Entry) (s : State) : State :=
  if s.link.silent || s.tx.isSome then s
  else match mailboxIndex e.mailbox with
    | none => s
    | some m => match s.boxes[m] with
      | .rx _ => s
      | .tx t =>
        if t.state ≠ .loaded then s
        else if lineBusy s then refuseSend m .blocked s
        else if e.window.toNat < (mailboxFrame .slotData t s).stuffedLength s.params then refuseSend m .oversize s
        else beginFrame (.slot m) (mailboxFrame .slotData t s) (updateTx m (fun t => { t with state := .locked }) s)

/-- The record a slot takes from its entry (R56). -/
def slotOf (index : Nat) (e : Entry) (body : SlotBody) : Slot :=
  { index := index, start := e.start.toNat, finish := e.finish, mailbox := e.mailbox, source := e.source, body := body }

/-- A slot still open when an entry opens closes: an extended RECEIVE slot with MISSED (R57, R59). -/
def closeForOpening (s : State) : State :=
  match s.seq.slot with
  | none => s
  | some sl => match sl.body with
    | .receive _ true => nodeMissed sl.source (closeSlot s)
    | _ => closeSlot s

/-- An entry opens as a slot and acts as its kind requires (R57, R61, R63, R68). -/
def openEntry (index : Nat) (e : Entry) (s : State) : State :=
  match entryKind? e.kind with
  | none => s
  | some .transmit => admitTransmit e (setSlot (slotOf index e .transmit) (closeForOpening s))
  | some .receive => setSlot (slotOf index e (.receive .awaiting false)) (closeForOpening s)
  | some .openWindow => setSlot (slotOf index e .openWindow) (closeForOpening s)

/-- The window-end effect of the open slot (R59, R65). -/
def slotWindowEnd (s : State) : State :=
  match s.seq.slot with
  | none => s
  | some sl => match sl.body with
    | .transmit => closeSlot s
    | .openWindow => closeSlot s
    | .receive .awaiting _ => nodeMissed sl.source (closeSlot s)
    | .receive .done _ => closeSlot s
    | .receive .receiving _ => setSlot { sl with body := .receive .receiving true } s

/-- The slot is extended: it waits for the frame in assembly past its window (R65). -/
def Slot.isExtended (sl : Slot) : Bool :=
  match sl.body with
  | .receive _ extended => extended
  | _ => false

/-- The position reaches an offset: a slot that ends there has its window end (R59). -/
def reachSlotEnd (q : Nat) (s : State) : State :=
  match s.seq.slot with
  | some sl => if sl.finish = q ∧ sl.isExtended = false then slotWindowEnd s else s
  | none => s

/-- The position reaches an offset: the entry at the next index is compared, opened when it is due in RUNNING, and passed
(R57). In the happening of a frame that swaps the banks it is passed over (R32, R55). -/
def reachEntry (swapping : Bool) (q : Nat) (s : State) : State :=
  match (activeBank s).schedule[s.seq.nextIndex]? with
  | none => s
  | some e =>
    if e.start.toNat = q then
      let due := s.link.state = .running ∧ swapping = false ∧ e.activeIn s.timer.cycle = true
      let s' := if due then openEntry s.seq.nextIndex e s else s
      { s' with seq := { s'.seq with nextIndex := s.seq.nextIndex + 1 } }
    else s

/-- The account of one entry that an early boundary passes over (R31). -/
def passOver (p : Nat) (s : State) (e : Entry) : State :=
  if p < e.start.toNat ∧ entryKind? e.kind = some .transmit ∧ e.activeIn s.timer.cycle = true then
    match mailboxIndex e.mailbox with
    | none => s
    | some m => match s.boxes[m] with
      | .tx t => if t.state = .loaded then refuseSend m .blocked s else s
      | .rx _ => s
  else s

/-- The entries not yet reached when an early boundary ends the cycle at position `p` (R31). -/
def passOverRest (p : Nat) (s : State) : State :=
  if s.link.state = .running ∧ s.link.silent = false then
    ((activeBank s).schedule.drop s.seq.nextIndex).foldl (passOver p) s
  else s

/-- A valid frame taken by a receive slot (R64, R66, R67). -/
def receiveSlotTakes (sl : Slot) (sub : ReceiveSub) (extended : Bool) (f : Frame) (s : State) : State :=
  if sub ≠ .done ∧ f.kind = .slotData ∧ f.src = sl.source then
    let s := if addressedHere f s then
        match mailboxIndex sl.mailbox with
        | some m => deliver m f s
        | none => s
      else s
    let s := nodeHeard sl.source s
    if extended then closeSlot s else setSlot { sl with body := .receive .done extended } s
  else
    let s := bump .stray s
    if extended ∧ sub = .receiving then nodeMissed sl.source (closeSlot s)
    else if sub = .receiving then setSlot { sl with body := .receive .awaiting extended } s
    else s

/-- Route a valid SLOT_DATA or EVENT_DATA frame by the slot that is open (R60); outside RUNNING it is neither routed nor
counted (R74, R80, R83, R142). -/
def routeFrame (f : Frame) (s : State) : State :=
  if s.link.state = .running then
    match s.seq.slot with
    | none => strayFrame f s
    | some sl => match sl.body with
      | .transmit => strayFrame f s
      | .openWindow => if f.kind = .eventData then routeEvent f s else strayFrame f s
      | .receive sub extended => receiveSlotTakes sl sub extended f s
  else s

end Sys2Proof.Machine
end

