-- ==== Sys2Proof/Machine/Ops.lean ====
section
/-! DEFINITION. The operations that commands and happenings share: change of link state, stopping the timer, entry to OFF,
the command unit's taking and completing, and cutting a frame (R24, R69, R92, R94, R177 to R181). -/

namespace Sys2Proof.Machine

/-- Change the link state; every change sets the LINK flag (R69). -/
def setLinkState (l : LinkState) (s : State) : State :=
  if s.link.state = l then s else setFlag .link { s with link := { s.link with state := l } }

/-- The Cycle Timer stops: position 0, no length in force, CS-seen clear; an open slot closes unaccounted and the next index
becomes 0. The cycle number and the fired marks are kept (R24, R58, R59). -/
def stopTimer (s : State) : State :=
  let s := closeSlot s
  { s with
    timer := { s.timer with position := 0, length := none, csSeen := false }
    seq := { s.seq with nextIndex := 0 } }

/-- An ARMED shadow returns to IDLE on entry to OFF (R52). -/
def disarmOnOff (s : State) : State :=
  if s.sched.shadow = .armed then { s with sched := { s.sched with shadow := .idle } } else s

/-- Entry to OFF (R22, R38, R52, R94). -/
def enterOff (s : State) : State :=
  let s := setLinkState .off (disarmOnOff (stopTimer s))
  { s with
    link := { s.link with silent := false, silence := 0 }
    rx := Receiver.hunting
    line := { level := .idle, idleTime := 0, ctIdle := false } }

/-- A completion of a command: RESULT, DETAIL and DETAIL_IDX are written, BUSY clears and the CMD flag is set (R181). -/
def completeWith (r : ResultCode) (detail detailIdx : Byte) (s : State) : State :=
  setFlag .cmd { s with cmd := { s.cmd with
    result := r, detail := detail, detailIdx := detailIdx, inFlight := none } }

/-- A completion whose DETAIL and DETAIL_IDX are 0 (R181). -/
def complete (r : ResultCode) (s : State) : State := completeWith r 0 0 s

/-- A command that stays in flight: BUSY set, RESULT PENDING, DETAIL and DETAIL_IDX 0, no CMD flag (R178). -/
def stayInFlight (c : InFlight) (s : State) : State :=
  { s with cmd := { s.cmd with result := .pending, detail := 0, detailIdx := 0, inFlight := some c } }

/-- A command is taken: the code and the arguments as they stand are recorded (R177). -/
def takeCommand (code : Byte) (s : State) : State :=
  { s with cmd := { s.cmd with code := code, takenArg0 := s.cmd.arg0, takenArg1 := s.cmd.arg1 } }

/-- A write to CMD of a command other than HALT and LINK_RESET: taken when none is in flight, else lost (R177, R179). -/
def command (code : Byte) (act : State → State) (s : State) : State :=
  if busy s then { s with cmd := { s.cmd with lost := true } } else act (takeCommand code s)

/-- The mailbox that the taken ARG0 names (R177). -/
def namedMailbox (s : State) : Option (Fin 24) := mailboxIndex s.cmd.takenArg0

/-- A command in flight is abandoned and writes no result of its own; an ARM leaves the shadow IDLE (R52, R92, R180). -/
def abandonCommand (s : State) : State :=
  match s.cmd.inFlight with
  | none => s
  | some .arm =>
    { s with sched := { s.sched with shadow := .idle }, cmd := { s.cmd with inFlight := none } }
  | some _ => { s with cmd := { s.cmd with inFlight := none } }

/-- A frame that is SENDING is cut (R14, R92). -/
def cutTransmission (s : State) : State :=
  match s.tx with
  | none => s
  | some t => transmitterIdle (outcomeCut t.requester s)

/-- After a transmission's outcome has been applied, a link in STOPPING enters OFF and STOP completes (R91). -/
def finishStopping (s : State) : State :=
  if s.link.state = .stopping then complete .ok (enterOff s) else s

/-- The transmission in progress ends: the transmit side is IDLE, the requester takes its outcome, a link in STOPPING enters
OFF, and the head may begin a wait (R14, R91, R111). -/
def endTransmission (outcome : State → State) (s : State) : State :=
  settleWait (finishStopping (outcome (transmitterIdle s)))

/-- A frame whose every readback matched ends (R14). -/
def completeTransmission (t : Transmission) (s : State) : State := endTransmission (outcomeCompleted t.requester) s

/-- A collided frame is released (R13, R14). -/
def collideTransmission (t : Transmission) (s : State) : State :=
  endTransmission (fun s => outcomeCollided t.requester (countCollision s)) s

/-- A frame ends with the CT that brings the stop bit after its last readback, or after a collision: its outcome is applied
before a slot closes or opens at that offset (R13, R14, R57). -/
def endDueTransmission (s : State) : State :=
  match s.tx with
  | none => s
  | some t =>
    if t.allMatched then completeTransmission t s
    else if t.collided then collideTransmission t s
    else s

end Sys2Proof.Machine
end

