-- ==== Sys2Proof/Machine/Timer.lean ====
section
/-! DEFINITION. The Cycle Timer: host points, reaching an offset, the boundary, the CS window end check, the master's launch
and the end of a CT (R24 to R39, R54, R76, R85, R86). -/

namespace Sys2Proof.Machine

/-- A host point fires at an offset: enabled, its fired mark clear, its offset reached (R36). -/
def HostPoint.due (q : Nat) (p : HostPoint) : Bool := p.enabled && !p.fired && p.offset.toNat == q

/-- A host point that fires sets its fired mark, and in ONE_SHOT mode clears its enable (R36). -/
def HostPoint.fire (p : HostPoint) : HostPoint := { p with fired := true, enabled := p.repeats }

/-- The status bits of the points that fire at an offset (R36). -/
def dueBits (q : Nat) (s : State) : BitVec 4 :=
  let bit (n : Fin 4) : BitVec 4 := if s.points[n].due q then BitVec.twoPow 4 n.val else 0
  bit 0 ||| bit 1 ||| bit 2 ||| bit 3

/-- The position reaches an offset: every point due there fires (R36). -/
def firePoints (q : Nat) (s : State) : State :=
  if dueBits q s = 0 then s
  else setFlag .point { s with
    points := mapTable (fun (p : HostPoint) => if p.due q then p.fire else p) s.points
    irq := { s.irq with pointStatus := s.irq.pointStatus ||| dueBits q s } }

/-- The fired marks of all four points are cleared (R27). -/
def clearFired (s : State) : State :=
  { s with points := mapTable (fun (p : HostPoint) => { p with fired := false }) s.points }

/-- The timer reaches an offset: slot end, entry start, host points (R26). -/
def reachOffset (swapping : Bool) (q : Nat) (s : State) : State :=
  firePoints q (reachEntry swapping q (reachSlotEnd q s))

/-- The effects of every cycle boundary, counted or early, with its reaching of offset 0 (R27). -/
def boundaryEffects (s : State) : State :=
  let s := clearFired s
  let s := { s with
    timer := { s.timer with position := 0, cycle := s.timer.cycle + 1, csSeen := false }
    seq := { s.seq with nextIndex := 0 } }
  reachOffset false 0 (setFlag .cycle s)

/-- The cycle-start frame of the cycle and the active bank in force (R9). -/
def cycleStartFrame (s : State) : Frame :=
  let b := activeBank s
  { dst := Config.broadcast, src := s.params.address, kind := .cycleStart, tag := 0, seq := loByte s.timer.cycle,
    payload := [hiByte s.timer.cycle, loByte s.timer.cycle, b.id, hiByte b.length, loByte b.length] }

/-- The master's launch of the cycle-start frame: withheld by SILENT, blocked by a busy line, else begun (R76). -/
def launchCycleStart (s : State) : State :=
  if s.link.silent then s
  else if lineBusy s then setFlag .slot (updateCauses (fun c => { c with csBlocked := true }) s)
  else if s.tx.isSome then s
  else beginFrame .cycleStart (cycleStartFrame s) s

/-- The master's swap at a boundary in RUNNING (R54). -/
def masterSwap (s : State) : State :=
  if s.sched.shadow = .armed then exchangeBanks s else s

/-- The cycle boundary taken by counting (R27, R54, R76). -/
def countedBoundary (s : State) : State :=
  let s := boundaryEffects s
  if isMaster s ∧ s.link.state = .running then launchCycleStart (masterSwap s) else s

/-- Sync loss: the link goes to LISTEN and the timer stops (R86). -/
def syncLoss (s : State) : State :=
  setLinkState .listen (updateCauses (fun c => { c with lost := true }) (stopTimer s))

/-- A missed cycle start, and sync loss when the count reaches the limit (R85). The count does not exceed the limit (R84):
DESIGN CHOICE (log entry 9), where it stands at the limit already, in STOPPING alone, it stays. -/
def missedStart (s : State) : State :=
  let limit := s.params.syncLossLimit.toNat
  let s := { s with sync := { s.sync with
    missed := if s.sync.missed < limit then s.sync.missed + 1 else s.sync.missed } }
  let s := setFlag .sync (updateCauses (fun c => { c with missed := true }) (bump .csMissed s))
  if s.sync.missed = limit ∧ (s.link.state = .align ∨ s.link.state = .running) then
    syncLoss s
  else s

/-- The CS window end check at the counted reaching of 28, on a follower (R29). DESIGN CHOICE (log entry 9): a frame that is
SENDING at sync loss, which R86 rules out, goes on to its end in LISTEN. -/
def csWindowEnd (s : State) : State :=
  if isMaster s || s.timer.csSeen then s else missedStart s

/-- What one CT of the running timer means for the counts of line idle: the idle time, the gap timer and the head's backoff
count go on when the line was idle throughout it (R3, R18, R112). The limits themselves are reached in their own happenings. -/
def ctPasses (s : State) : State :=
  let idle := s.line.ctIdle
  { s with
    line := { s.line with
      idleTime := if idle then s.line.idleTime + 1 else s.line.idleTime
      ctIdle := s.line.level == .idle }
    rx := { s.rx with gap := if idle then s.rx.gap.map (fun g => min (g + 1) (Config.gapLimit - 1)) else s.rx.gap }
    queue := { s.queue with
      wait := if idle then s.queue.wait.map (fun c => min (c + 1) (backoff s)) else s.queue.wait } }

/-- Counting to the next position: the CS window end check first, then the slots and the points (R26, R29). -/
def countTo (q : Nat) (s : State) : State :=
  let s := { s with timer := { s.timer with position := q } }
  let s := if q = Config.csWindow then csWindowEnd s else s
  if s.timer.length = none then s else reachOffset false q s

/-- The timer advances: the next position, or the boundary in its place (R26); stopped, it does not. -/
def advanceTimer (s : State) : State :=
  match s.timer.length with
  | none => s
  | some length =>
    let q := s.timer.position + 1
    settleWait (if q < length then countTo q s else countedBoundary s)

/-- The end of a CT of the running timer (R26): a frame that ends with it ends first (R57), then the timer advances, unless the
end of the frame has taken the link from STOPPING to OFF. -/
def endOfCt (s : State) : State :=
  match s.timer.length with
  | none => s
  | some _ => advanceTimer (endDueTransmission (ctPasses s))

/-- The startup silence a master waits for: the active bank's cycle length plus 28 CT (R74). -/
def startupLimit (s : State) : Nat := (activeBank s).length.toNat + Config.csWindow

/-- The startup silence completes: RUNNING, the timer starts at position 0 with cycle number 0, and the first cycle-start
frame is launched unless SILENT withholds it (R24, R75). -/
def completeStartup (s : State) : State :=
  let s := clearFired (setLinkState .running s)
  let s := { s with
    link := { s.link with silence := 0 }
    line := { s.line with idleTime := startupLimit s, ctIdle := true }
    timer := { position := 0, cycle := 0, length := some (activeBank s).length.toNat, csSeen := false }
    seq := { s.seq with nextIndex := 0 } }
  launchCycleStart (reachOffset false 0 s)

/-- One CT passes on an idle line while the Cycle Timer is stopped: the idle time, the startup silence count and the gap timer
go on. The CT that would complete the silence or expire the gap timer is those happenings' own (R3, R18, R74). -/
def idleCt (s : State) : State :=
  match s.link.state with
  | .starting =>
    if s.line.level = .idle ∧ s.link.silence + 1 < startupLimit s then
      { s with
        line := { s.line with idleTime := s.line.idleTime + 1 }
        link := { s.link with silence := s.link.silence + 1 }
        rx := { s.rx with gap := s.rx.gap.map (fun g => min (g + 1) (Config.gapLimit - 1)) } }
    else s
  | .listen =>
    if s.line.level = .idle then
      { s with
        line := { s.line with idleTime := s.line.idleTime + 1 }
        rx := { s.rx with gap := s.rx.gap.map (fun g => min (g + 1) (Config.gapLimit - 1)) } }
    else s
  | _ => s

end Sys2Proof.Machine
end

