-- ==== Sys2Proof/Machine/Link.lean ====
section
/-! DEFINITION. The Link Controller's handling of a cycle-start frame: the master's conflict, the follower's
resynchronisation, checks and bank comparison, and the parameter checks of START (R30 to R34, R72, R74, R78 to R84). -/

namespace Sys2Proof.Machine

/-- A mark fails when it equals an earlier mark or when its complement equals any of the three (R5). -/
def markFails (p : Params) (earlier : List Byte) (mark : Byte) : Bool :=
  earlier.contains mark || isMark p (~~~mark)

/-- The window offset of the first parameter that START refuses (R5, R72, R185). -/
def paramFault (p : Params) : Option Byte :=
  if p.role ≠ 0 ∧ p.role ≠ 1 then some 0x00
  else if 239 < p.address.toNat then some 0x01
  else if p.div.toNat < 16 then some 0x02
  else if markFails p [] p.om then some 0x04
  else if markFails p [p.om] p.cm then some 0x05
  else if markFails p [p.om, p.cm] p.es then some 0x06
  else if 15 < p.syncTolerance.toNat then some 0x07
  else if p.syncLossLimit.toNat < 1 ∨ 7 < p.syncLossLimit.toNat then some 0x08
  else if 15 < p.retryLimit.toNat then some 0x09
  else none

/-- The sync record takes a frame's schedule id and cycle length (R84). -/
def recordCs (f : Frame) (s : State) : State :=
  { s with sync := { s.sync with id := f.csId, length := f.csLength } }

/-- A conflict: the CONFLICT cause mark, the LINK flag and the sync record (R74, R78). -/
def recordConflict (f : Frame) (s : State) : State :=
  setFlag .link (updateCauses (fun c => { c with conflict := true }) (recordCs f s))

/-- A valid cycle-start frame heard by a master (R74, R78). -/
def masterHearsCs (f : Frame) (s : State) : State :=
  match s.link.state with
  | .starting => recordConflict f { s with link := { s.link with silence := 0 } }
  | .running => recordConflict f { s with link := { s.link with silent := true } }
  | _ => s

/-- A bank matches a frame when its schedule id and cycle length both equal the frame's (R82). -/
def bankMatches (b : Bank) (f : Frame) : Bool := b.id == f.csId && b.length == f.csLength

/-- The frame swaps the banks: the active bank does not match and the ARMED shadow does (R82). -/
def frameSwaps (f : Frame) (s : State) : Bool :=
  !bankMatches (activeBank s) f && s.sched.shadow == .armed && bankMatches (shadowBank s) f

/-- An early boundary at position `p`: the rest of the schedule is passed over, an open slot ends, and the boundary effects
follow (R31). -/
def earlyBoundary (p : Nat) (s : State) : State := boundaryEffects (slotWindowEnd (passOverRest p s))

/-- The frame belongs to the next cycle: twice (p - N) is at least L (R30). -/
def belongsToNext (p n length : Nat) : Bool := n ≤ p && length ≤ 2 * (p - n)

/-- The unclamped deviation of a resync (R34). -/
def deviationOf (p n length : Nat) : Int :=
  if belongsToNext p n length then (p : Int) - length - n else (p : Int) - n

/-- A deviation as the sync record holds it (R34). -/
def clampDeviation (d : Int) : Int := max (-128) (min 127 d)

/-- Reach the offsets of a jump one by one, in ascending order (R32, R57). -/
def reachAll (swapping : Bool) (offsets : List Nat) (s : State) : State :=
  offsets.foldl (fun s q => reachOffset swapping q s) s

/-- The position is set to N and the CS-seen mark is set; a new CT begins (R2, R30). -/
def setPosition (n : Nat) (s : State) : State :=
  { s with
    timer := { s.timer with position := n, csSeen := true }
    line := { s.line with ctIdle := s.line.level == .idle } }

/-- The resync of a running follower (R30 to R34). -/
def resync (f : Frame) (n length : Nat) (s : State) : State :=
  let p := s.timer.position
  let early := belongsToNext p n length
  let swapping := frameSwaps f s
  let first := if early then 0 else p + 1
  let s := setPosition n (if early then earlyBoundary p s else s)
  let s := reachAll swapping (List.range' first (n + 1 - first)) s
  { s with sync := { s.sync with deviation := clampDeviation (deviationOf p n length) } }

/-- The cycle number check: the frame's number is adopted when it differs (R81). -/
def checkCycleNumber (f : Frame) (s : State) : State :=
  if s.timer.cycle = f.csCycle then s
  else setFlag .sync (updateCauses (fun c => { c with numberJump := true })
    { s with timer := { s.timer with cycle := f.csCycle } })

/-- The deviation check (R81). -/
def checkDeviation (d : Int) (s : State) : State :=
  if s.params.syncTolerance.toNat < d.natAbs then
    setFlag .sync (updateCauses (fun c => { c with tolerance := true }) s)
  else s

/-- The start of a follower's timer from LISTEN, by its first accepted frame (R24, R80). -/
def startFromListen (f : Frame) (n : Nat) (s : State) : State :=
  let s := clearFired s
  let s := setPosition n { s with
    timer := { s.timer with cycle := f.csCycle, length := some f.csLength.toNat }
    seq := { s.seq with nextIndex := 0 }
    sync := { s.sync with deviation := 0 } }
  reachAll false (List.range' 0 (n + 1)) s

/-- A follower's swap, and where it places the next index (R55). -/
def followerSwap (n : Nat) (s : State) : State :=
  let s := exchangeBanks s
  match s.seq.slot with
  | none => { s with seq := { s.seq with nextIndex := firstEntryFrom (n + 1) s } }
  | some sl =>
    if sl.finish < (activeBank s).length.toNat then
      { s with seq := { s.seq with nextIndex := firstEntryFrom sl.finish s } }
    else
      let s := slotWindowEnd s
      { s with seq := { s.seq with nextIndex := firstEntryFrom (n + 1) s } }

/-- The link is RUNNING on the active bank, whose cycle length is in force (R25, R82). -/
def runActiveBank (s : State) : State :=
  let s := setLinkState .running s
  { s with timer := { s.timer with length := some (activeBank s).length.toNat } }

/-- No ready bank matches: ALIGN at the frame's cycle length; entering ALIGN sets MISMATCH and BANK and closes an open slot
unaccounted (R59, R82, R83). -/
def goToAlign (f : Frame) (s : State) : State :=
  let s := if s.link.state = .align then s
    else setFlag .bank (updateCauses (fun c => { c with mismatch := true }) (setLinkState .align (closeSlot s)))
  { s with timer := { s.timer with length := some f.csLength.toNat } }

/-- The bank comparison (R82). -/
def compareBanks (f : Frame) (n : Nat) (s : State) : State :=
  if bankMatches (activeBank s) f then runActiveBank s
  else if frameSwaps f s then runActiveBank (followerSwap n s)
  else goToAlign f s

/-- The missed count becomes 0 and the frame is recorded (R79, step 3). -/
def recordAccepted (f : Frame) (s : State) : State :=
  recordCs f { s with sync := { s.sync with missed := 0 } }

/-- A follower accepts a cycle-start frame of `n` characters (R79). -/
def acceptCs (f : Frame) (n : Nat) (s : State) : State :=
  match s.link.state, s.timer.length with
  | .listen, _ => compareBanks f n (recordAccepted f (startFromListen f n s))
  | .align, some length | .running, some length =>
    let d := deviationOf s.timer.position n length
    compareBanks f n (recordAccepted f (checkDeviation d (checkCycleNumber f (resync f n length s))))
  | _, _ => s

/-- A valid cycle-start frame is handed on: the slot sequencer is told first, then the Link Controller acts (R20). -/
def handCycleStart (f : Frame) (n : Nat) (s : State) : State :=
  let s := slotFrameEnded s
  if isMaster s then masterHearsCs f s else acceptCs f n s

end Sys2Proof.Machine
end

