-- ==== Sys2Proof/Machine/Framer.lean ====
section
/-! DEFINITION. The receive side's characters and the readback of the transmit side (R1, R3, R13, R15 to R20). -/

namespace Sys2Proof.Machine

/-- The receive side takes characters in every link state except OFF (R22). -/
def receiving (s : State) : Bool := s.link.state != .off

/-- An opening mark starts an assembly, with the mark as its first character (R15). -/
def openAssembly (s : State) : State :=
  slotFrameOpened { s with rx := { assembly := .inFrame, buffer := [], count := 1, gap := some 0 } }

/-- A byte is appended to the buffer, or the frame is abandoned when the buffer holds 40 bytes (R16). -/
def appendByte (b : Byte) (s : State) : State :=
  if Config.bufferBytes ≤ s.rx.buffer.length then abandonAssembly .lenErr s
  else { s with rx := { s.rx with assembly := .inFrame, buffer := s.rx.buffer ++ [b], gap := some 0 } }

/-- A closing mark ends the frame: the checks of R19, and the hand-over of a valid frame (R19, R20). -/
def endAssembly (s : State) : State :=
  let n := s.rx.count
  let found := checkFrame s.rx.buffer
  let s := { s with rx := Receiver.hunting }
  match found with
  | .invalid c => slotFrameEnded (lineError c s)
  | .valid f => if f.kind = .cycleStart then handCycleStart f n s else routeFrame f s

/-- The character just taken is counted (R16). -/
def countCharacter (s : State) : State := { s with rx := { s.rx with count := s.rx.count + 1 } }

/-- A good character in IN_FRAME (R16). -/
def inFrameCharacter (v : Byte) (s : State) : State :=
  let s := countCharacter s
  if v = s.params.om then openAssembly (abandonAssembly .truncErr s)
  else if v = s.params.cm then endAssembly s
  else if v = s.params.es then { s with rx := { s.rx with assembly := .escaped, gap := some 0 } }
  else appendByte v s

/-- A good character in ESCAPED (R17). -/
def escapedCharacter (v : Byte) (s : State) : State :=
  let s := countCharacter s
  match unescape? s.params v with
  | some mark => appendByte mark s
  | none =>
    let s' := abandonAssembly .escErr s
    if v = s.params.om then openAssembly s' else s'

/-- A good character taken by the receive side (R15 to R17). -/
def takeCharacter (v : Byte) (s : State) : State :=
  match s.rx.assembly with
  | .hunt => if v = s.params.om then openAssembly s else s
  | .inFrame => inFrameCharacter v s
  | .escaped => escapedCharacter v s

/-- The readback of a sent character: a match lets the next character begin, a difference is a collision (R13). Past the last
character, and after a collision, nothing is judged. -/
def judgeReadback (v : Byte) (t : Transmission) : Transmission :=
  match t.collided, t.chars[t.index]? with
  | false, some c => if v = c then { t with index := t.index + 1 } else { t with collided := true }
  | _, _ => t

/-- A readback with a stop-bit error is a collision (R13). -/
def readbackError (t : Transmission) : Transmission :=
  if t.index < t.chars.length then { t with collided := true } else t

/-- The line becomes idle, with idle time 0 (R3). -/
def lineBecomesIdle (s : State) : State := { s with line := { s.line with level := .idle, idleTime := 0 } }

/-- A good character completes (R13, R16). DESIGN CHOICE (log entry 20): a character whose start bit was confirmed while a
frame was SENDING and which completes after that frame's end is no readback any more; the receive side, in HUNT by then (R14),
takes it as any other character. -/
def completeCharacter (v : Byte) (s : State) : State :=
  let s := lineBecomesIdle s
  match s.tx with
  | some t => { s with tx := some (judgeReadback v t) }
  | none => settleWait (takeCharacter v s)

/-- A stop-bit error on a character (R1, R13, R18). -/
def characterFails (s : State) : State :=
  let s := { s with line := { s.line with level := .heldLow } }
  match s.tx with
  | some t => { s with tx := some (readbackError t) }
  | none => abandonAssembly .charErr s

/-- A start bit is confirmed: the line is busy, the idle time, the startup silence count and the backoff count return to 0,
and the gap timer stops (R3, R18, R74, R112). -/
def confirmStartBit (s : State) : State :=
  { s with
    line := { level := .character, idleTime := 0, ctIdle := false }
    link := { s.link with silence := 0 }
    rx := { s.rx with gap := none }
    queue := { s.queue with wait := s.queue.wait.map (fun _ => 0) } }

end Sys2Proof.Machine
end

