-- ==== Sys2Proof/Machine/Window.lean ====
section
/-! DEFINITION. Window space: which byte an address names, what a read returns and what a write does
(R44, R71, R96, R125, R137, R144 to R146, R162, R165, R174, R175, R184 to R189). -/

namespace Sys2Proof.Machine

/-- What an address of window space names (R184). -/
inductive WindowByte where
  | param (offset : Fin 10)
  | point (n : Fin 4) (byte : Fin 4)
  | counter (c : Fin 11)
  | status (byte : Fin 16)
  | queueView (byte : Fin 9)
  | acceptance (n : Fin 16) (byte : Fin 4)
  | header (bank : BankName) (byte : Fin 4)
  | node (n : Fin 16) (byte : Fin 8)
  | entry (bank : BankName) (i : Fin 32) (byte : Fin 16)
  | mailbox (m : Fin 24) (byte : Fin 128)
  /-- In no range of the window map (R175). -/
  | outside
deriving DecidableEq, Repr

/-- The window map (R184). -/
def locate (address : WindowAddress) : WindowByte :=
  let a := address.toNat
  if h : a < 0x000A then .param ⟨a, h⟩
  else if h : 0x0020 ≤ a ∧ a < 0x0030 then .point ⟨(a - 0x0020) / 4, by omega⟩ ⟨(a - 0x0020) % 4, by omega⟩
  else if h : 0x0030 ≤ a ∧ a < 0x003B then .counter ⟨a - 0x0030, by omega⟩
  else if h : 0x0040 ≤ a ∧ a < 0x0050 then .status ⟨a - 0x0040, by omega⟩
  else if h : 0x0060 ≤ a ∧ a < 0x0069 then .queueView ⟨a - 0x0060, by omega⟩
  else if h : 0x0080 ≤ a ∧ a < 0x00C0 then .acceptance ⟨(a - 0x0080) / 4, by omega⟩ ⟨(a - 0x0080) % 4, by omega⟩
  else if h : 0x0100 ≤ a ∧ a < 0x0104 then .header .a ⟨a - 0x0100, by omega⟩
  else if h : 0x0108 ≤ a ∧ a < 0x010C then .header .b ⟨a - 0x0108, by omega⟩
  else if h : 0x0180 ≤ a ∧ a < 0x0200 then .node ⟨(a - 0x0180) / 8, by omega⟩ ⟨(a - 0x0180) % 8, by omega⟩
  else if h : 0x0200 ≤ a ∧ a < 0x0400 then .entry .a ⟨(a - 0x0200) / 16, by omega⟩ ⟨(a - 0x0200) % 16, by omega⟩
  else if h : 0x0400 ≤ a ∧ a < 0x0600 then .entry .b ⟨(a - 0x0400) / 16, by omega⟩ ⟨(a - 0x0400) % 16, by omega⟩
  else if h : 0x0800 ≤ a ∧ a < 0x1400 then .mailbox ⟨(a - 0x0800) / 128, by omega⟩ ⟨(a - 0x0800) % 128, by omega⟩
  else .outside

/-! ## Reads: what each byte holds; a byte with no field reads 0 (R175). -/

/-- A link parameter byte (R185). -/
def readParam (p : Params) (offset : Nat) : Byte :=
  match offset with
  | 0 => p.role
  | 1 => p.address
  | 2 => hiByte p.div
  | 3 => loByte p.div
  | 4 => p.om
  | 5 => p.cm
  | 6 => p.es
  | 7 => p.syncTolerance
  | 8 => p.syncLossLimit
  | 9 => p.retryLimit
  | _ => 0

/-- A host point byte (R185). -/
def readPoint (p : HostPoint) (byte : Nat) : Byte :=
  match byte with
  | 0 => bitByte p.enabled 0
  | 1 => bitByte p.repeats 0
  | 2 => (p.offset >>> 8).setWidth 8
  | 3 => p.offset.setWidth 8
  | _ => 0

/-- The sync cause marks byte (R186). -/
def syncCauseByte (c : Causes) : Byte :=
  bitByte c.missed 0 ||| bitByte c.tolerance 1 ||| bitByte c.lost 2 ||| bitByte c.numberJump 3

/-- The bank and link cause marks byte (R186). -/
def bankLinkCauseByte (c : Causes) : Byte :=
  bitByte c.swap 0 ||| bitByte c.mismatch 1 ||| bitByte c.conflict 4 ||| bitByte c.csBlocked 5

/-- A byte of the status area (R186). -/
def readStatus (s : State) (byte : Nat) : Byte :=
  match byte with
  | 0 => (s.irq.attention >>> 16).setWidth 8
  | 1 => (s.irq.attention >>> 8).setWidth 8
  | 2 => s.irq.attention.setWidth 8
  | 3 => (s.irq.nodeChange >>> 8).setWidth 8
  | 4 => s.irq.nodeChange.setWidth 8
  | 5 => s.irq.pointStatus.setWidth 8
  | 6 => syncCauseByte s.irq.causes
  | 7 => bankLinkCauseByte s.irq.causes
  | 8 => bitByte s.irq.fault.present 0 ||| bitByte s.irq.fault.multiple 1
  | 9 => (s.irq.fault.address >>> 8).setWidth 8
  | 10 => s.irq.fault.address.setWidth 8
  | 11 => BitVec.ofNat 8 s.sync.missed
  | 12 => BitVec.ofInt 8 s.sync.deviation
  | 13 => s.sync.id
  | 14 => hiByte s.sync.length
  | 15 => loByte s.sync.length
  | _ => 0

/-- A byte of the event queue view: the count, then the mailbox numbers from the head, 0xFF beyond them (R108, R186). -/
def readQueueView (q : EventQueue) (byte : Nat) : Byte :=
  if byte = 0 then BitVec.ofNat 8 q.entries.length
  else match q.entries[byte - 1]? with
    | some m => BitVec.ofNat 8 m.val
    | none => 0xFF

/-- A byte of an acceptance entry (R187). -/
def readAcceptance (e : AcceptanceEntry) (byte : Nat) : Byte :=
  match byte with
  | 0 => e.valid
  | 1 => e.tag
  | 2 => e.source
  | 3 => e.mailbox
  | _ => 0

/-- A byte of a bank header (R188). -/
def readHeader (b : Bank) (byte : Nat) : Byte :=
  match byte with
  | 0 => b.id
  | 1 => hiByte b.length
  | 2 => loByte b.length
  | 3 => b.count
  | _ => 0

/-- A byte of a schedule entry (R188). -/
def readEntry (e : Entry) (byte : Nat) : Byte :=
  match byte with
  | 0 => hiByte e.start
  | 1 => loByte e.start
  | 2 => hiByte e.window
  | 3 => loByte e.window
  | 4 => e.kind
  | 5 => e.exponent
  | 6 => e.phase
  | 7 => e.mailbox
  | 8 => e.source
  | _ => 0

/-- A byte of a node table entry (R187). -/
def readNode (e : NodeEntry) (byte : Nat) : Byte :=
  match byte with
  | 0 => e.valid
  | 1 => e.address
  | 2 => BitVec.ofNat 8 e.threshold
  | 3 => e.state.code
  | 4 => BitVec.ofNat 8 e.misses
  | 5 => hiByte e.lastHeard
  | 6 => loByte e.lastHeard
  | _ => 0

/-- A payload byte. -/
def payloadByte (p : Vector Byte Config.payloadBytes) (i : Nat) : Byte := p[i]?.getD 0

/-- A byte of a TX mailbox block (R189). -/
def readTx (t : TxMailbox) (byte : Nat) : Byte :=
  if 0x20 ≤ byte ∧ byte < 0x40 then payloadByte t.content.payload (byte - 0x20)
  else if 0x60 ≤ byte then payloadByte t.staging.payload (byte - 0x60)
  else match byte with
    | 0x00 => configCode (.tx t)
    | 0x01 => t.state.code
    | 0x02 => bitByte t.pendingCommit 0
    | 0x03 => BitVec.ofNat 8 t.retry
    | 0x04 => t.lastOutcome.code
    | 0x10 => t.content.destination
    | 0x11 => t.content.tag
    | 0x12 => t.content.sequence
    | 0x13 => t.content.length
    | 0x40 => t.staging.destination
    | 0x41 => t.staging.tag
    | 0x43 => t.staging.length
    | _ => 0

/-- A byte of an RX mailbox block (R189). -/
def readRx (r : RxMailbox) (byte : Nat) : Byte :=
  if 0x20 ≤ byte ∧ byte < 0x40 then payloadByte r.content.payload (byte - 0x20)
  else if 0x60 ≤ byte then payloadByte r.next.payload (byte - 0x60)
  else match byte with
    | 0x00 => configCode (.rx r)
    | 0x01 => r.state.code
    | 0x02 => bitByte r.contentValid 0 ||| bitByte r.nextPresent 1 ||| bitByte r.overrun 2
    | 0x03 => r.lost
    | 0x04 => hiByte r.lastHeard
    | 0x05 => loByte r.lastHeard
    | 0x10 => r.content.source
    | 0x11 => r.content.tag
    | 0x12 => r.content.sequence
    | 0x13 => r.content.length
    | 0x14 => hiByte r.content.cycle
    | 0x15 => loByte r.content.cycle
    | 0x40 => r.next.source
    | 0x41 => r.next.tag
    | 0x42 => r.next.sequence
    | 0x43 => r.next.length
    | 0x44 => hiByte r.next.cycle
    | 0x45 => loByte r.next.cycle
    | _ => 0

/-- A byte of a mailbox block, by the direction the mailbox is configured in (R189). -/
def readMailbox (b : Mailbox) (byte : Nat) : Byte :=
  match b with
  | .tx t => readTx t byte
  | .rx r => readRx r byte

/-- The byte a place of window space holds; 0 at an unmapped address (R174, R175). -/
def readByte (s : State) : WindowByte → Byte
  | .param i => readParam s.params i.val
  | .point n b => readPoint s.points[n] b.val
  | .counter c => s.irq.counters[c]
  | .status b => readStatus s b.val
  | .queueView b => readQueueView s.queue b.val
  | .acceptance n b => readAcceptance s.accept[n] b.val
  | .header bank b => readHeader (bankOf bank s) b.val
  | .node n b => readNode s.nodes[n] b.val
  | .entry bank i b => readEntry (bankOf bank s).entries[i] b.val
  | .mailbox m b => readMailbox s.boxes[m] b.val
  | .outside => 0

/-- The window byte at an address (R174). -/
def readWindow (a : WindowAddress) (s : State) : Byte := readByte s (locate a)

/-! ## Writes: `none` is a refusal by the collection (R175). -/

/-- A parameter byte stored (R71, R185). -/
def writeParam (offset : Nat) (v : Byte) (p : Params) : Params :=
  match offset with
  | 0 => { p with role := v }
  | 1 => { p with address := v }
  | 2 => { p with div := mkWord v (loByte p.div) }
  | 3 => { p with div := mkWord (hiByte p.div) v }
  | 4 => { p with om := v }
  | 5 => { p with cm := v }
  | 6 => { p with es := v }
  | 7 => { p with syncTolerance := v }
  | 8 => { p with syncLossLimit := v }
  | 9 => { p with retryLimit := v }
  | _ => p

/-- The parameters take a write when the link is OFF and no START is in flight (R71). -/
def paramsWritable (s : State) : Bool := s.link.state == .off && s.cmd.inFlight != some .start

/-- A host point byte stored; the fired mark is left as it stands (R35, R185). -/
def writePoint (byte : Nat) (v : Byte) (p : HostPoint) : HostPoint :=
  match byte with
  | 0 => { p with enabled := v.getLsbD 0 }
  | 1 => { p with repeats := v.getLsbD 0 }
  | 2 => { p with offset := (p.offset &&& 0x00FF) ||| (v.setWidth 14 <<< 8) }
  | 3 => { p with offset := (p.offset &&& 0x3F00) ||| v.setWidth 14 }
  | _ => p

/-- The sync cause marks after a write of 1 bits (R162). -/
def clearSyncCauses (v : Byte) (c : Causes) : Causes :=
  { c with
    missed := c.missed && !v.getLsbD 0
    tolerance := c.tolerance && !v.getLsbD 1
    lost := c.lost && !v.getLsbD 2
    numberJump := c.numberJump && !v.getLsbD 3 }

/-- The bank and link cause marks after a write of 1 bits (R162). -/
def clearBankLinkCauses (v : Byte) (c : Causes) : Causes :=
  { c with
    swap := c.swap && !v.getLsbD 0
    mismatch := c.mismatch && !v.getLsbD 1
    conflict := c.conflict && !v.getLsbD 4
    csBlocked := c.csBlocked && !v.getLsbD 5 }

/-- The fault record after a write of 1 bits to its marks (R165). -/
def clearFault (v : Byte) (f : FaultRecord) : FaultRecord :=
  if v.getLsbD 0 then { present := false, multiple := false, address := 0 }
  else { f with multiple := f.multiple && !v.getLsbD 1 }

/-- A write to a status byte: 1 bits clear marks, value bytes are unchanged (R162, R186). -/
def writeStatus (byte : Nat) (v : Byte) (u : InterruptUnit) : InterruptUnit :=
  match byte with
  | 0 => { u with attention := u.attention &&& ~~~(v.setWidth 24 <<< 16) }
  | 1 => { u with attention := u.attention &&& ~~~(v.setWidth 24 <<< 8) }
  | 2 => { u with attention := u.attention &&& ~~~v.setWidth 24 }
  | 3 => { u with nodeChange := u.nodeChange &&& ~~~(v.setWidth 16 <<< 8) }
  | 4 => { u with nodeChange := u.nodeChange &&& ~~~v.setWidth 16 }
  | 5 => { u with pointStatus := u.pointStatus &&& ~~~v.setWidth 4 }
  | 6 => { u with causes := clearSyncCauses v u.causes }
  | 7 => { u with causes := clearBankLinkCauses v u.causes }
  | 8 => { u with fault := clearFault v u.fault }
  | _ => u

/-- An acceptance entry byte stored (R137, R187). -/
def writeAcceptance (byte : Nat) (v : Byte) (e : AcceptanceEntry) : AcceptanceEntry :=
  match byte with
  | 0 => { e with valid := v }
  | 1 => { e with tag := v }
  | 2 => { e with source := v }
  | 3 => { e with mailbox := v }
  | _ => e

/-- A bank takes a write when it is the shadow, in IDLE (R44). -/
def bankWritable (n : BankName) (s : State) : Bool := n != s.sched.active && s.sched.shadow == .idle

/-- A header byte stored (R188). -/
def writeHeader (byte : Nat) (v : Byte) (b : Bank) : Bank :=
  match byte with
  | 0 => { b with id := v }
  | 1 => { b with length := mkWord v (loByte b.length) }
  | 2 => { b with length := mkWord (hiByte b.length) v }
  | 3 => { b with count := v }
  | _ => b

/-- An entry byte stored; bytes 9 to 15 carry no field (R188). -/
def writeEntry (byte : Nat) (v : Byte) (e : Entry) : Option Entry :=
  match byte with
  | 0 => some { e with start := mkWord v (loByte e.start) }
  | 1 => some { e with start := mkWord (hiByte e.start) v }
  | 2 => some { e with window := mkWord v (loByte e.window) }
  | 3 => some { e with window := mkWord (hiByte e.window) v }
  | 4 => some { e with kind := v }
  | 5 => some { e with exponent := v }
  | 6 => some { e with phase := v }
  | 7 => some { e with mailbox := v }
  | 8 => some { e with source := v }
  | _ => none

/-- A node table byte: every field byte rewrites the entry, three of them store their value, byte 7 carries no field
(R144, R146, R187). -/
def writeNode (byte : Nat) (v : Byte) (e : NodeEntry) : Option NodeEntry :=
  match byte with
  | 0 => some { e.rewritten with valid := v }
  | 1 => some { e.rewritten with address := v }
  | 2 => some { e.rewritten with threshold := clampThreshold v }
  | 3 | 4 | 5 | 6 => some e.rewritten
  | _ => none

/-- A payload with one byte replaced. -/
def setPayloadByte (i : Nat) (v : Byte) (p : Vector Byte Config.payloadBytes) : Vector Byte Config.payloadBytes :=
  p.setIfInBounds i v

/-- A staging byte stored; the other bytes of a TX mailbox take no write (R96, R189). -/
def writeStaging (byte : Nat) (v : Byte) (g : Staging) : Option Staging :=
  if 0x60 ≤ byte ∧ byte < 0x80 then some { g with payload := setPayloadByte (byte - 0x60) v g.payload }
  else match byte with
    | 0x40 => some { g with destination := v }
    | 0x41 => some { g with tag := v }
    | 0x43 => some { g with length := v }
    | _ => none

/-- A mailbox byte: only the staging of a TX mailbox takes a write, while its pending-commit mark is clear (R96, R125). -/
def writeMailbox (byte : Nat) (v : Byte) (b : Mailbox) : Option Mailbox :=
  match b with
  | .rx _ => none
  | .tx t =>
    if t.pendingCommit then none
    else (writeStaging byte v t.staging).map (fun g => .tx { t with staging := g })

/-- A byte offered to the collection that owns its place: the state after it is taken, or none when it is refused
(R174, R175). -/
def writeByte (w : WindowByte) (v : Byte) (s : State) : Option State :=
  match w with
  | .param i => if paramsWritable s then some { s with params := writeParam i.val v s.params } else none
  | .point n b => some { s with points := put s.points n (writePoint b.val v s.points[n]) }
  | .counter _ => none
  | .status b => some { s with irq := writeStatus b.val v s.irq }
  | .queueView _ => none
  | .acceptance n b => some { s with accept := put s.accept n (writeAcceptance b.val v s.accept[n]) }
  | .header bank b =>
    if bankWritable bank s then some (setBank bank (writeHeader b.val v (bankOf bank s)) s) else none
  | .node n b => (writeNode b.val v s.nodes[n]).map (fun e => { s with nodes := put s.nodes n e })
  | .entry bank i b =>
    if bankWritable bank s then
      (writeEntry b.val v (bankOf bank s).entries[i]).map
        (fun e => setBank bank { bankOf bank s with entries := put (bankOf bank s).entries i e } s)
    else none
  | .mailbox m b => (writeMailbox b.val v s.boxes[m]).map (fun x => { s with boxes := put s.boxes m x })
  | .outside => none

/-- A write of a window byte: taken, or refused with the WIN_FAULT flag and the fault record (R174, R175). -/
def writeWindow (a : WindowAddress) (v : Byte) (s : State) : State :=
  match writeByte (locate a) v s with
  | some s' => s'
  | none => recordRefusal a s

/-- The pointer advances by 1, from 0x1FFF to 0x0000 (R174). -/
def advancePointer (s : State) : State := { s with win := { s.win with pointer := s.win.pointer + 1 } }

end Sys2Proof.Machine
end

