-- ==== Sys2Proof/Machine/Commands.lean ====
section
/-! DEFINITION. What each code of the command table does once it is taken (R177), and a write to CMD with any code. -/

namespace Sys2Proof.Machine

/-- START (R72, R73). -/
def startAction (s : State) : State :=
  if s.link.state ≠ .off then complete .badState s
  else match paramFault s.params with
    | some offset => completeWith .badParam offset 0 s
    | none => stayInFlight .start s

/-- STOP (R90). DESIGN CHOICE (log entry 21): a STOP that finds a frame SENDING in ALIGN, or in LISTEN after a sync loss, which
R90 rules out, leaves the Cycle Timer as it stands: at the frame's cycle length, or stopped. -/
def stopAction (s : State) : State :=
  if s.link.state = .off then complete .badState s
  else if s.tx.isNone then complete .ok (enterOff s)
  else settleWait (stayInFlight .stop (setLinkState .stopping s))

/-- The steps of HALT before its completion: abandon, cut, enter OFF (R92). -/
def haltSteps (s : State) : State :=
  let s := cutTransmission (abandonCommand s)
  if s.link.state = .off then s else enterOff s

/-- HALT (R92, R180). -/
def haltAction (s : State) : State := complete .ok (haltSteps s)

/-- GO_SILENT (R88). -/
def goSilentAction (s : State) : State :=
  if s.link.state = .off then complete .badState s
  else complete .ok (settleWait { s with link := { s.link with silent := true } })

/-- RESUME (R89). -/
def resumeAction (s : State) : State :=
  if s.link.silent then complete .ok (settleWait { s with link := { s.link with silent := false } })
  else complete .badState s

/-- A mailbox as LINK_RESET leaves it (R121, R124). -/
def Mailbox.linkReset : Mailbox → Mailbox
  | .tx t => .tx t.linkReset
  | .rx r => .rx r.linkReset

/-- The run-time state that LINK_RESET returns to its starting values after its HALT step (R93). -/
def resetRunTime (s : State) : State :=
  let s := resetNodes (zeroCounters (clearFired s))
  { s with
    sync := { missed := 0, deviation := 0, id := 0, length := 0 }
    timer := { s.timer with cycle := 0 }
    boxes := mapTable Mailbox.linkReset s.boxes
    queue := { entries := [], wait := none, turnedAway := false }
    irq := { s.irq with attention := 0, nodeChange := 0, pointStatus := 0 } }

/-- LINK_RESET (R93, R180). -/
def linkResetAction (s : State) : State := complete .ok (resetRunTime (haltSteps s))

/-- ARM (R49). -/
def armAction (s : State) : State :=
  if s.sched.shadow = .idle then
    stayInFlight .arm { s with sched := { s.sched with shadow := .validating } }
  else complete .badState s

/-- DISARM (R51). -/
def disarmAction (s : State) : State :=
  if s.sched.shadow = .armed then complete .ok { s with sched := { s.sched with shadow := .idle } }
  else complete .badState s

/-- The command names a TX mailbox: what it does there, or BAD_ARG (R99, R103, R109, R110). -/
def onTx (act : Fin 24 → TxMailbox → State → State) (s : State) : State :=
  match namedMailbox s with
  | none => complete .badArg s
  | some m => match s.boxes[m] with
    | .rx _ => complete .badArg s
    | .tx t => act m t s

/-- The command names an RX mailbox: what it does there, or BAD_ARG (R134, R135). -/
def onRx (act : Fin 24 → RxMailbox → State → State) (s : State) : State :=
  match namedMailbox s with
  | none => complete .badArg s
  | some m => match s.boxes[m] with
    | .tx _ => complete .badArg s
    | .rx r => act m r s

/-- Store a mailbox record. -/
def setBox (m : Fin 24) (b : Mailbox) (s : State) : State := { s with boxes := put s.boxes m b }

/-- COMMIT on a TX mailbox (R99, R100). -/
def commitOn (m : Fin 24) (t : TxMailbox) (s : State) : State :=
  if t.pendingCommit then complete .inFlight s
  else if Config.payloadBytes < t.staging.length.toNat then complete .badArg s
  else if t.state = .locked then complete .ok (setBox m (.tx { t with pendingCommit := true }) s)
  else complete .ok (setBox m (.tx t.commit) s)

/-- WITHDRAW on a TX mailbox (R103). -/
def withdrawOn (m : Fin 24) (t : TxMailbox) (s : State) : State :=
  match t.state with
  | .loaded => complete .ok (setBox m (.tx { t with state := .free }) s)
  | .free => complete .badState s
  | .queued => complete .badState s
  | .locked => complete .inFlight s

/-- The mailbox joins the tail of the queue (R109). -/
def joinQueue (m : Fin 24) (s : State) : State :=
  { s with queue := { s.queue with entries := s.queue.entries ++ [m] } }

/-- SEND_EVENT on a TX mailbox (R109). -/
def sendEventOn (m : Fin 24) (t : TxMailbox) (s : State) : State :=
  if t.mode ≠ .event then complete .badArg s
  else match t.state with
    | .free => complete .notReady s
    | .queued => complete .duplicate s
    | .locked => complete .inFlight s
    | .loaded =>
      if Config.queueEntries ≤ s.queue.entries.length then complete .queueFull s
      else complete .ok (settleWait (joinQueue m (setBox m (.tx { t with state := .queued, retry := 0 }) s)))

/-- CANCEL_EVENT on a TX mailbox (R110). -/
def cancelEventOn (m : Fin 24) (t : TxMailbox) (s : State) : State :=
  if t.mode ≠ .event then complete .badArg s
  else match t.state with
    | .queued => complete .ok (settleWait (leaveQueue m (setBox m (.tx { t with state := .loaded }) s)))
    | .locked => complete .inFlight s
    | .free => complete .badState s
    | .loaded => complete .badState s

/-- HOLD on an RX mailbox (R134). -/
def holdOn (m : Fin 24) (r : RxMailbox) (s : State) : State :=
  match r.state with
  | .empty => complete .notReady s
  | .held => complete .badState s
  | .full => complete .ok (setBox m (.rx r.hold) s)

/-- RELEASE on an RX mailbox (R135). -/
def releaseOn (m : Fin 24) (r : RxMailbox) (s : State) : State :=
  match r.state with
  | .empty => complete .badState s
  | .full | .held =>
    let out := r.release
    let s := setBox m (.rx out.1) s
    complete .ok (if out.2 then raiseAttention m s else s)

/-- CONFIG_MAILBOX (R117 to R119). -/
def configMailboxAction (s : State) : State :=
  match namedMailbox s, mailboxOfCode s.cmd.takenArg1 with
  | none, _ => complete .badArg s
  | some _, none => complete .badArg s
  | some m, some box =>
    if s.link.state = .off then complete .ok (leaveQueue m (setBox m box s))
    else complete .badState s

/-- A mailbox with its lost count at 0; a TX mailbox holds none (R167). -/
def Mailbox.zeroLost : Mailbox → Mailbox
  | .tx t => .tx t
  | .rx r => .rx { r with lost := 0 }

/-- CLEAR_COUNTERS (R167). -/
def clearCountersAction (s : State) : State :=
  complete .ok { zeroCounters s with boxes := mapTable Mailbox.zeroLost s.boxes }

/-- The code of HALT (R177). -/
abbrev haltCode : Byte := 0x03

/-- The code of LINK_RESET (R177). -/
abbrev linkResetCode : Byte := 0x06

/-- What a code does once taken; a code not in the table completes with UNKNOWN_CMD (R177). HALT and LINK_RESET are taken
whether or not a command is in flight (R180). -/
def actionOf (code : Byte) (s : State) : State :=
  match code.toNat with
  | 0x01 => startAction s
  | 0x02 => stopAction s
  | 0x03 => haltAction s
  | 0x04 => goSilentAction s
  | 0x05 => resumeAction s
  | 0x06 => linkResetAction s
  | 0x10 => armAction s
  | 0x11 => disarmAction s
  | 0x20 => onTx commitOn s
  | 0x21 => onTx withdrawOn s
  | 0x22 => onTx sendEventOn s
  | 0x23 => onTx cancelEventOn s
  | 0x24 => onRx holdOn s
  | 0x25 => onRx releaseOn s
  | 0x26 => configMailboxAction s
  | 0x30 => clearCountersAction s
  | _ => complete .unknownCmd s

/-- A write to CMD (R177, R179, R180). -/
def writeCmd (code : Byte) (s : State) : State :=
  if code = haltCode ∨ code = linkResetCode then actionOf code (takeCommand code s)
  else command code (actionOf code) s

/-- Validation done for START (R73). -/
def startValidated (s : State) : State :=
  match validate s.boxes (activeBank s) with
  | some fault => completeWith .badBank (BitVec.ofNat 8 fault.reason) fault.index s
  | none =>
    let s := setLinkState (if isMaster s then .starting else .listen) s
    complete .ok { s with
      link := { s.link with silence := 0 }
      rx := Receiver.hunting
      line := { level := .idle, idleTime := 0, ctIdle := false } }

/-- Validation done for ARM (R50). -/
def armValidated (s : State) : State :=
  match validate s.boxes (shadowBank s) with
  | some fault =>
    completeWith .badBank (BitVec.ofNat 8 fault.reason) fault.index
      { s with sched := { s.sched with shadow := .idle } }
  | none =>
    if s.link.state = .off then complete .ok (exchangeBanks s)
    else complete .ok { s with sched := { s.sched with shadow := .armed } }

end Sys2Proof.Machine
end

