-- ==== Sys2Proof/Machine/Pins.lean ====
section
/-! DEFINITION. The pins: what a read of each direct register returns, and the levels of the device's outputs (R4, R12, R161,
R171, R172, R174, R190). -/

namespace Sys2Proof.Machine

/-- What a read of a direct register returns, WDATA with the others (R172, R174). -/
def busRead (a : BusAddress) (s : State) : Byte :=
  if a = 0x07 then readWindow s.win.pointer s else readRegister a s

/-- The bus port as the host drives it: chip select, the two strobes and the address lines (R171). -/
structure BusPort where
  /-- CS is low: the device is selected. -/
  select : Bool
  /-- RD is low: the read strobe is asserted. -/
  read : Bool
  /-- WR is low: the write strobe is asserted. -/
  write : Bool
  /-- A4 to A0: the direct register named. -/
  address : BusAddress
deriving DecidableEq, Repr

/-- The access is a read: chip select and the read strobe are asserted, and the write strobe is not (R171). -/
def BusPort.reads (bus : BusPort) : Bool := bus.select && bus.read && !bus.write

/-- D7 to D0 as the device drives them: the value of the register read, as it stands when the read is taken, for as long as
the strobe lasts; undriven at all other times, in a write and between accesses (R171). -/
def dataLines (bus : BusPort) (s : State) : Option Byte :=
  if bus.reads then some (busRead bus.address s) else none

/-- The driver enable output: asserted exactly while a frame is in transmission (R4). -/
def driverEnable (s : State) : Bool := s.tx.isSome

/-- The character that the transmit data output carries; none while it idles high (R4). Past the last readback it carries the
stop bit of the closing mark, which is high too. -/
def transmitData (s : State) : Option Byte :=
  match s.tx with
  | none => none
  | some t => t.chars[t.index]?

/-- The levels of the device's outputs (R4, R161, R171, R190). -/
structure Outputs where
  /-- TXD: the character it carries, or none while it is high. -/
  txd : Option Byte
  /-- DE is high: the driver is enabled. -/
  de : Bool
  /-- IRQ is low: the request is asserted. -/
  irqLow : Bool
  /-- D7 to D0: the byte they carry, or none while they are undriven. -/
  data : Option Byte
deriving DecidableEq, Repr

/-- The outputs outside reset, with the bus port as the host drives it; of a read, `s` is the state in which it is taken
(R4, R161, R171, R190). -/
def outputs (bus : BusPort) (s : State) : Outputs :=
  { txd := transmitData s, de := driverEnable s, irqLow := irqAsserted s, data := dataLines bus s }

/-- The outputs while the device is held in reset: TXD high, DE low, IRQ high, D7 to D0 undriven whatever the bus port does
(R190). Host accesses and the receive input are ignored then, so no command falls within the hold (log entry 16). -/
def Outputs.inReset : Outputs := { txd := none, de := false, irqLow := false, data := none }

end Sys2Proof.Machine
end

