-- ==== Sys2Proof/Machine/HostAccess.lean ====
section
/-! DEFINITION. Family: the accesses of the bus port that are not one of the sixteen commands, and the hardware reset
(09_the_host_window.md, 08_interrupts_attention_and_error_counters.md, R190). -/

namespace Sys2Proof.Machine

/-- A read command records the byte it returns, the model's own (log entry 7); the data lines are `dataLines` (R171). -/
def recordRead (v : Byte) (s : State) : State := { s with win := { s.win with readData := some v } }

/-- A write to WPTR_H: bits 4 to 0 become pointer bits 12 to 8 (R173). -/
def storePointerHigh (v : Byte) (s : State) : State :=
  { s with win := { s.win with
      pointer := (s.win.pointer &&& 0x00FF) ||| ((v.setWidth 13 &&& 0x1F) <<< 8) } }

/-- A write to WPTR_L: the byte becomes pointer bits 7 to 0 (R173). -/
def storePointerLow (v : Byte) (s : State) : State :=
  { s with win := { s.win with pointer := (s.win.pointer &&& 0x1F00) ||| v.setWidth 13 } }

/-- A write to CMDSTAT: bit 1 clears CMD_LOST, bit 0 is ignored (R179). -/
def clearCmdLost (v : Byte) (s : State) : State :=
  { s with cmd := { s.cmd with lost := s.cmd.lost && !v.getLsbD 1 } }

/-- A write to WDATA: the byte is offered to the collection that owns the pointer's address, and the pointer advances
(R174). -/
def writeData (v : Byte) (s : State) : State := advancePointer (writeWindow s.win.pointer v s)

/-- A write of a direct register (R172). ARG0 and ARG1 store any value; a read-only register and an unused address take no
effect; the others act as their own rules state. -/
def busWrite (a : BusAddress) (v : Byte) (s : State) : State :=
  match a.toNat with
  | 0x00 => writeCmd v s
  | 0x01 => { s with cmd := { s.cmd with arg0 := v } }
  | 0x02 => { s with cmd := { s.cmd with arg1 := v } }
  | 0x05 => storePointerHigh v s
  | 0x06 => storePointerLow v s
  | 0x07 => writeData v s
  | 0x09 => clearFlags .reg0 v s
  | 0x0A => clearFlags .reg1 v s
  | 0x0B => writeEnables .reg0 v s
  | 0x0C => writeEnables .reg1 v s
  | 0x11 => clearCmdLost v s
  | _ => s

/-- CMD written with a code outside the command table (R177). -/
def execUnknownCommand (code : Byte) (s : State) : Outcome := .next (writeCmd code s)

/-- CMD written while a command is in flight (R179). -/
def execCmdWriteLost (code : Byte) (s : State) : Outcome := .next (writeCmd code s)

/-- A read of WDATA: the window byte at the pointer, which then advances (R174). -/
def execWdataRead (s : State) : Outcome :=
  .next (advancePointer (recordRead (busRead 0x07 s) s))

/-- A write of WDATA (R174). -/
def execWdataWrite (value : Byte) (s : State) : Outcome := .next (writeData value s)

/-- A read of POS_L: the low byte of the position, and the snapshot of the rest (R176). -/
def execPosLRead (s : State) : Outcome :=
  .next { s with win := { s.win with
    readData := some (busRead 0x0D s)
    snapshotHigh := (positionBits s >>> 8).setWidth 6
    snapshotCycle := s.timer.cycle } }

/-- A write of WPTR_H (R173). -/
def execWptrHWrite (value : Byte) (s : State) : Outcome := .next (storePointerHigh value s)

/-- A write of WPTR_L (R173). -/
def execWptrLWrite (value : Byte) (s : State) : Outcome := .next (storePointerLow value s)

/-- A write of IFLG0 or IFLG1 (R158). -/
def execIflgWrite (register : FlagRegister) (value : Byte) (s : State) : Outcome := .next (clearFlags register value s)

/-- A write of IEN0 or IEN1 (R160). -/
def execIenWrite (register : FlagRegister) (value : Byte) (s : State) : Outcome := .next (writeEnables register value s)

/-- A write of CMDSTAT (R179). -/
def execCmdstatWrite (value : Byte) (s : State) : Outcome := .next (clearCmdLost value s)

/-- A write of a direct register by its address (R172). -/
def execRegisterWrite (address : BusAddress) (value : Byte) (s : State) : Outcome := .next (busWrite address value s)

/-- A hardware reset: every block takes its reset values, and a frame in transmission is cut with no outcome (R122, R190).
The commands still waiting are the sender's and stay. -/
def execHardwareReset (s : State) : Outcome := .next { State.reset with pending := s.pending }

end Sys2Proof.Machine
end

