-- ==== Sys2Proof/Machine/LineHappenings.lean ====
section
/-! DEFINITION. Family: what happens on the receive input and at the end of a transmission (01_frames_on_the_line.md).
Each happening belongs to one condition of the line or of the transmit side; where the state says that it cannot occur, the
state is unchanged. -/

namespace Sys2Proof.Machine

/-- A start bit is confirmed (R3): outside OFF, on an idle line. -/
def execStartBitConfirmed (s : State) : Outcome :=
  if receiving s ∧ s.line.level = .idle then .next (confirmStartBit s) else .next s

/-- A good character completes (R16), the one whose start bit was confirmed. -/
def execCharacterComplete (value : Byte) (s : State) : Outcome :=
  if receiving s ∧ s.line.level = .character then .next (completeCharacter value s) else .next s

/-- The stop-bit sample of the character in progress is low (R1, R18). -/
def execStopBitError (s : State) : Outcome :=
  if receiving s ∧ s.line.level = .character then .next (characterFails s) else .next s

/-- The gap timer has counted all but the last CT of its limit (R18). -/
def gapReached (s : State) : Bool :=
  match s.rx.gap with
  | none => false
  | some g => Config.gapLimit ≤ g + 1

/-- The gap timer expires (R18): it runs only in an assembly, on an idle line. -/
def execGapTimerExpires (s : State) : Outcome :=
  if gapReached s then .next (abandonAssembly .truncErr s) else .next s

/-- A frame whose every readback matched ends (R14). -/
def execTransmissionCompletes (s : State) : Outcome :=
  match s.tx with
  | none => .next s
  | some t =>
    if t.allMatched then .next (completeTransmission t s) else .next s

/-- A collided frame is released: a readback differed, failed or was absent (R13, R14). -/
def execTransmissionCollides (s : State) : Outcome :=
  match s.tx with
  | none => .next s
  | some t =>
    if t.allMatched then .next s
    else .next (collideTransmission t s)

/-- After a stop-bit error the input is sampled high again (R3). -/
def execLineHighAfterStopBitError (s : State) : Outcome :=
  if receiving s ∧ s.line.level = .heldLow then .next (lineBecomesIdle s) else .next s

end Sys2Proof.Machine
end

