-- ==== Sys2Proof/Machine/LinkCommands.lean ====
section
/-! DEFINITION. Family: the six link commands, each a write to CMD (04_the_link_controller.md). -/

namespace Sys2Proof.Machine

/-- START (R73): CMD written with 0x01. -/
def execStart (s : State) : Outcome := .next (command 0x01 startAction s)

/-- STOP (R90): CMD written with 0x02. -/
def execStop (s : State) : Outcome := .next (command 0x02 stopAction s)

/-- HALT (R92): CMD written with 0x03, taken whether or not a command is in flight (R180). -/
def execHalt (s : State) : Outcome := .next (haltAction (takeCommand haltCode s))

/-- GO_SILENT (R88): CMD written with 0x04. -/
def execGoSilent (s : State) : Outcome := .next (command 0x04 goSilentAction s)

/-- RESUME (R89): CMD written with 0x05. -/
def execResume (s : State) : Outcome := .next (command 0x05 resumeAction s)

/-- LINK_RESET (R93): CMD written with 0x06, taken whether or not a command is in flight (R180). -/
def execLinkReset (s : State) : Outcome := .next (linkResetAction (takeCommand linkResetCode s))

end Sys2Proof.Machine
end

