-- ==== Sys2Proof/Machine/MailboxCommands.lean ====
section
/-! DEFINITION. Family: the commands that work on a mailbox, and CLEAR_COUNTERS
(05_transmit_mailboxes_and_the_event_queue.md, 06_receive_mailboxes_and_the_acceptance_table.md, R167). -/

namespace Sys2Proof.Machine

/-- COMMIT (R99): CMD written with 0x20. -/
def execCommit (s : State) : Outcome := .next (command 0x20 (onTx commitOn) s)

/-- WITHDRAW (R103): CMD written with 0x21. -/
def execWithdraw (s : State) : Outcome := .next (command 0x21 (onTx withdrawOn) s)

/-- SEND_EVENT (R109): CMD written with 0x22. -/
def execSendEvent (s : State) : Outcome := .next (command 0x22 (onTx sendEventOn) s)

/-- CANCEL_EVENT (R110): CMD written with 0x23. -/
def execCancelEvent (s : State) : Outcome := .next (command 0x23 (onTx cancelEventOn) s)

/-- HOLD (R134): CMD written with 0x24. -/
def execHold (s : State) : Outcome := .next (command 0x24 (onRx holdOn) s)

/-- RELEASE (R135): CMD written with 0x25. -/
def execRelease (s : State) : Outcome := .next (command 0x25 (onRx releaseOn) s)

/-- CONFIG_MAILBOX (R117): CMD written with 0x26. -/
def execConfigMailbox (s : State) : Outcome := .next (command 0x26 configMailboxAction s)

/-- CLEAR_COUNTERS (R167): CMD written with 0x30. -/
def execClearCounters (s : State) : Outcome := .next (command 0x30 clearCountersAction s)

end Sys2Proof.Machine
end

