-- ==== Sys2Proof/Machine/ScheduleCommands.lean ====
section
/-! DEFINITION. Family: the commands of the Schedule Unit and the end of a validation (03_the_schedule.md). -/

namespace Sys2Proof.Machine

/-- ARM (R49): CMD written with 0x10. -/
def execArm (s : State) : Outcome := .next (command 0x10 armAction s)

/-- DISARM (R51): CMD written with 0x11. -/
def execDisarm (s : State) : Outcome := .next (command 0x11 disarmAction s)

/-- Validation done (R45): it completes the START or the ARM that began it. With neither in flight there is no validation and
nothing changes. -/
def execValidationDone (s : State) : Outcome :=
  match s.cmd.inFlight with
  | some .start => .next (startValidated s)
  | some .arm => .next (armValidated s)
  | some .stop => .next s
  | none => .next s

end Sys2Proof.Machine
end

