-- ==== Sys2Proof/Machine/TimerHappenings.lean ====
section
/-! DEFINITION. Family: the happenings of the Cycle Timer, of the master's startup silence and of the head's backoff
(02_the_cycle_time_base.md, R75, R112 to R114). -/

namespace Sys2Proof.Machine

/-- The open window's end and the mailbox at the head: what the fit check reads (R113). -/
def headAndWindow (s : State) : Option (Fin 24 × TxMailbox × Nat) :=
  match s.queue.entries.head?, s.seq.slot with
  | some m, some sl => match s.boxes[m] with
    | .tx t => some (m, t, sl.finish)
    | .rx _ => none
  | _, _ => none

/-- The fit check: the position plus the exact stuffed length is at most the window's end (R113). -/
def headFits (t : TxMailbox) (finish : Nat) (s : State) : Bool :=
  s.timer.position + (mailboxFrame .eventData t s).stuffedLength s.params ≤ finish

/-- The head becomes LOCKED and its EVENT_DATA frame begins (R114). -/
def sendHead (m : Fin 24) (t : TxMailbox) (s : State) : State :=
  beginFrame (.event m) (mailboxFrame .eventData t s) (updateTx m (fun t => { t with state := .locked }) s)

/-- The head is turned away from this open window (R113). -/
def turnAway (s : State) : State := { s with queue := { s.queue with turnedAway := true } }

/-- The backoff elapses: the fit check, and what follows it (R113). -/
def elapse (s : State) : State :=
  match headAndWindow s with
  | none => s
  | some (m, t, finish) => settleWait (if headFits t finish s then sendHead m t s else turnAway s)

/-- The head's wait has counted its backoff (R112). -/
def backoffReached (s : State) : Bool :=
  match s.queue.wait with
  | none => false
  | some count => backoff s ≤ count

/-- The end of a CT of the running timer (R26). -/
def execPositionReached (s : State) : Outcome := .next (endOfCt s)

/-- The end of the last CT of a cycle (R27); at any other position there is no boundary by counting. -/
def execCycleBoundary (s : State) : Outcome :=
  if s.timer.length = some (s.timer.position + 1) then .next (endOfCt s) else .next s

/-- The startup silence count reaches T with the CT that now ends (R74). -/
def silenceReached (s : State) : Bool := startupLimit s ≤ s.link.silence + 1

/-- The startup silence completes (R75): in STARTING, on an idle line, with the CT that brings the count to T. -/
def execStartupSilenceCompletes (s : State) : Outcome :=
  if s.link.state = .starting ∧ s.line.level = .idle ∧ silenceReached s = true then .next (settleWait (completeStartup s)) else .next s

/-- The backoff of the waiting head elapses (R112, R113). -/
def execBackoffElapses (s : State) : Outcome :=
  if backoffReached s then .next (elapse s) else .next s

end Sys2Proof.Machine
end

