-- ==== Sys2Proof/Machine/Dispatch.lean ====
section
/-! DEFINITION. The meaning of every command: one arm for each row of spec/opcode_table.json. -/

namespace Sys2Proof.Machine

def exec (i : Instr) (s : State) : Host.Outcome State Fault Refusal :=
  match i with
  | .start => Sys2Proof.Machine.execStart s
  | .stop => Sys2Proof.Machine.execStop s
  | .halt => Sys2Proof.Machine.execHalt s
  | .goSilent => Sys2Proof.Machine.execGoSilent s
  | .resume => Sys2Proof.Machine.execResume s
  | .linkReset => Sys2Proof.Machine.execLinkReset s
  | .arm => Sys2Proof.Machine.execArm s
  | .disarm => Sys2Proof.Machine.execDisarm s
  | .commit => Sys2Proof.Machine.execCommit s
  | .withdraw => Sys2Proof.Machine.execWithdraw s
  | .sendEvent => Sys2Proof.Machine.execSendEvent s
  | .cancelEvent => Sys2Proof.Machine.execCancelEvent s
  | .hold => Sys2Proof.Machine.execHold s
  | .release => Sys2Proof.Machine.execRelease s
  | .configMailbox => Sys2Proof.Machine.execConfigMailbox s
  | .clearCounters => Sys2Proof.Machine.execClearCounters s
  | .unknownCommand code => Sys2Proof.Machine.execUnknownCommand code s
  | .cmdWriteLost code => Sys2Proof.Machine.execCmdWriteLost code s
  | .validationDone => Sys2Proof.Machine.execValidationDone s
  | .wdataRead => Sys2Proof.Machine.execWdataRead s
  | .wdataWrite value => Sys2Proof.Machine.execWdataWrite value s
  | .posLRead => Sys2Proof.Machine.execPosLRead s
  | .wptrHWrite value => Sys2Proof.Machine.execWptrHWrite value s
  | .wptrLWrite value => Sys2Proof.Machine.execWptrLWrite value s
  | .iflgWrite register value => Sys2Proof.Machine.execIflgWrite register value s
  | .ienWrite register value => Sys2Proof.Machine.execIenWrite register value s
  | .cmdstatWrite value => Sys2Proof.Machine.execCmdstatWrite value s
  | .registerWrite address value => Sys2Proof.Machine.execRegisterWrite address value s
  | .hardwareReset => Sys2Proof.Machine.execHardwareReset s
  | .startBitConfirmed => Sys2Proof.Machine.execStartBitConfirmed s
  | .characterComplete value => Sys2Proof.Machine.execCharacterComplete value s
  | .stopBitError => Sys2Proof.Machine.execStopBitError s
  | .gapTimerExpires => Sys2Proof.Machine.execGapTimerExpires s
  | .positionReached => Sys2Proof.Machine.execPositionReached s
  | .cycleBoundary => Sys2Proof.Machine.execCycleBoundary s
  | .startupSilenceCompletes => Sys2Proof.Machine.execStartupSilenceCompletes s
  | .backoffElapses => Sys2Proof.Machine.execBackoffElapses s
  | .transmissionCompletes => Sys2Proof.Machine.execTransmissionCompletes s
  | .transmissionCollides => Sys2Proof.Machine.execTransmissionCollides s
  | .lineHighAfterStopBitError => Sys2Proof.Machine.execLineHighAfterStopBitError s

end Sys2Proof.Machine
end

