-- ==== Sys2Proof/Safety.lean ====
section
/-! DEFINITION. What holds of every state the machine passes through, block by block, in the words of the manual's rules.
Each predicate is decidable, so that one state can be judged by `decide`. -/

namespace Sys2Proof.Machine

/-! ## What a command leaves, written out: the states that statements about commands name -/

/-- A command completes: RESULT, DETAIL and DETAIL_IDX are written, none is in flight, and the CMD flag is set (R181). -/
def finishedAs (r : ResultCode) (detail index : Byte) (s : State) : State :=
  { s with
    cmd := { s.cmd with result := r, detail := detail, detailIdx := index, inFlight := none }
    irq := { s.irq with flags := s.irq.flags ||| 0x0080 } }

/-- The command unit records the code and the arguments as they stand (R177). -/
def takenAs (code : Byte) (s : State) : State :=
  { s with cmd := { s.cmd with code := code, takenArg0 := s.cmd.arg0, takenArg1 := s.cmd.arg1 } }

/-- A command taken and completed in one happening (R177, R181). -/
def completedAs (code : Byte) (r : ResultCode) (detail index : Byte) (s : State) : State :=
  finishedAs r detail index (takenAs code s)

/-- A command taken that stays in flight (R178). -/
def inFlightAs (code : Byte) (c : InFlight) (s : State) : State :=
  { takenAs code s with cmd := { (takenAs code s).cmd with
      result := .pending, detail := 0, detailIdx := 0, inFlight := some c } }

/-- Entry to OFF from another link state, block by block (R94). -/
def offState (s : State) : State :=
  { s with
    link := { state := .off, silent := false, silence := 0 }
    timer := { s.timer with position := 0, length := none, csSeen := false }
    seq := { nextIndex := 0, slot := none }
    sched := { s.sched with shadow := if s.sched.shadow = .armed then .idle else s.sched.shadow }
    rx := { assembly := .hunt, buffer := [], count := 0, gap := none }
    line := { level := .idle, idleTime := 0, ctIdle := false }
    queue := { s.queue with wait := none, turnedAway := false }
    irq := { s.irq with flags := s.irq.flags ||| 0x0020 } }

/-- The content a commit installs: the staging, under the next sequence number (R98, R99). -/
def installed (b : TxMailbox) : TxContent :=
  { destination := b.staging.destination, tag := b.staging.tag, sequence := b.content.sequence + 1,
    length := b.staging.length, payload := b.staging.payload }

/-- A mailbox after its pending commit, if it has one: the staging is the content, the mark is clear, and FREE has become
LOADED (R102). -/
def deferred (b : TxMailbox) : TxMailbox :=
  if b.pendingCommit = true then
    { b with content := installed b, pendingCommit := false, state := if b.state = .free then .loaded else b.state }
  else b

/-- One increment of a counter, which stays at 255 (R166). -/
def countedIn (c : Counter) (u : InterruptUnit) : InterruptUnit :=
  { u with counters := put u.counters c.index (if u.counters[c.index] = 255 then 255 else u.counters[c.index] + 1) }

/-- A line error detected: its counter and the LINE_ERR flag (R21). -/
def lineErrorIn (c : Counter) (u : InterruptUnit) : InterruptUnit :=
  { countedIn c u with flags := u.flags ||| 0x0200 }

/-- An open slot after the notice that a frame has opened: a RECEIVE slot goes from AWAITING to RECEIVING (R63). -/
def Slot.opened (sl : Slot) : Slot :=
  { sl with body := match sl.body with
      | .receive .awaiting extended => .receive .receiving extended
      | body => body }

/-- The slot follows a frame in assembly (R63). -/
def Slot.follows (sl : Slot) : Bool :=
  match sl.body with
  | .receive .receiving _ => true
  | _ => false

/-- A closing mark now ends a frame that the checks of R19 pass: the receive side is IN_FRAME with the frame's inner bytes. -/
abbrev ClosingMark (f : Frame) (s : State) : Prop :=
  s.link.state ≠ .off ∧ s.tx = none ∧ s.line.level = .character ∧ s.rx.assembly = .inFrame ∧ s.rx.buffer = f.inner ∧
    f.payload.length ≤ 32 ∧ (f.kind = .cycleStart → f.csFormatOk = true) ∧ s.params.cm ≠ s.params.om

/-- A frame is addressed to this node or to all (R64, R138, R142). -/
abbrev ForThisNode (f : Frame) (s : State) : Prop := f.dst = s.params.address ∨ f.dst = 255

/-- A bank's header names the frame's schedule (R82). -/
abbrev NamesSchedule (b : Bank) (f : Frame) : Prop := b.id = f.csId ∧ b.length = f.csLength

/-- An acceptance entry matches a frame (R139). -/
abbrev EntryMatches (e : AcceptanceEntry) (f : Frame) : Prop :=
  e.valid ≠ 0 ∧ e.tag = f.tag ∧ (e.source = 255 ∨ e.source = f.src)

/-- The entries of the active bank's schedule: those below its entry count, in index order (R40). -/
abbrev scheduleOf (s : State) : List Entry :=
  (bankOf s.sched.active s).entries.toList.take (bankOf s.sched.active s).count.toNat

/-- No frame ends with this CT: none is SENDING, or one that still has a readback to come and has not collided (R14, R57). -/
abbrev FrameGoesOn (s : State) : Prop := ∀ x ∈ s.tx, x.collided = false ∧ x.index < x.chars.length

/-- The next CT brings a follower to 28 with its CS-seen mark clear: a missed start (R29). -/
abbrev startMissed (s : State) : Bool := s.timer.position == 27 && s.params.role != 1 && !s.timer.csSeen

/-- The next CT does not lose sync: it brings no missed start, or one that stays below the limit (R85, R86). -/
abbrev SyncHolds (s : State) : Prop :=
  startMissed s = true → s.sync.missed + 1 < s.params.syncLossLimit.toNat

/-- The state a command leaves, or the same state where it answers no next state. -/
def after (c : Instr) (s : State) : State :=
  match exec c s with
  | .next t => t
  | _ => s

/-- The line brings a run of good characters: for each a start bit is confirmed and the character completes (R1, R16). -/
def hearAll (chars : List Byte) (s : State) : State :=
  chars.foldl (fun s v => after (.characterComplete v) (after .startBitConfirmed s)) s

/-! ## Mailboxes -/

/-- An RX record keeps R126: a next buffer only while HELD, and valid content in FULL and HELD. -/
def RxMailbox.statesOk (r : RxMailbox) : Bool :=
  (!r.nextPresent || r.state == .held) && (r.state == .empty || r.contentValid)

/-- A mailbox configured RX keeps R126. -/
def Mailbox.rxOk : Mailbox → Bool
  | .rx r => r.statesOk
  | .tx _ => true

/-- Every RX mailbox keeps R126. -/
abbrev RxStatesOk (s : State) : Prop := ∀ m : Fin 24, s.boxes[m].rxOk = true

/-- The stored lengths are those of frames: 0 to 32 (R95, R123), and so is the staging a deferred commit will install
(R99, R100). -/
def Mailbox.lengthsOk : Mailbox → Bool
  | .rx r => r.content.length.toNat ≤ 32 && r.next.length.toNat ≤ 32
  | .tx t => t.content.length.toNat ≤ 32 && (!t.pendingCommit || t.staging.length.toNat ≤ 32)

/-- Every content and next buffer holds a length of 0 to 32. -/
abbrev LengthsOk (s : State) : Prop := ∀ m : Fin 24, s.boxes[m].lengthsOk = true

/-- A TX mailbox has a pending commit only while it is LOCKED (R100). -/
def Mailbox.pendingOk : Mailbox → Bool
  | .tx t => !t.pendingCommit || t.state == .locked
  | .rx _ => true

/-- Every TX mailbox keeps R100. -/
abbrev PendingCommitOk (s : State) : Prop := ∀ m : Fin 24, s.boxes[m].pendingOk = true

/-- The mailbox is TX in a given state. -/
def Mailbox.inState (x : TxState) : Mailbox → Bool
  | .tx t => t.state == x
  | .rx _ => false

/-- The mailbox is TX EVENT. -/
def Mailbox.isEvent : Mailbox → Bool
  | .tx t => t.mode == .event
  | .rx _ => false

/-- The configuration of a mailbox: direction, mode or policy, repeat attribute (R117). -/
abbrev configuration (s : State) (m : Fin 24) : Byte := configCode s.boxes[m]

/-! ## Transmitter and event queue -/

/-- The mailbox whose data frame is SENDING. -/
def sendingMailbox (s : State) : Option (Fin 24) :=
  match s.tx with
  | none => none
  | some t => match t.requester with
    | .cycleStart => none
    | .slot m => some m
    | .event m => some m

/-- The event head whose frame is SENDING. -/
def sendingEvent (s : State) : Option (Fin 24) :=
  match s.tx with
  | none => none
  | some t => match t.requester with
    | .event m => some m
    | _ => none

/-- A mailbox is LOCKED exactly while a data frame is SENDING from it (R97). -/
abbrev LocksOk (s : State) : Prop :=
  ∀ m : Fin 24, s.boxes[m].inState .locked = true ↔ sendingMailbox s = some m

/-- The event queue keeps R108: at most eight entries, none twice, each a TX EVENT mailbox that is QUEUED or is the head in
transmission, and every QUEUED mailbox in it. -/
abbrev QueueOk (s : State) : Prop :=
  s.queue.entries.length ≤ 8 ∧ s.queue.entries.Nodup ∧
    (∀ m : Fin 24, m ∈ s.queue.entries →
      s.boxes[m].isEvent = true ∧ (s.boxes[m].inState .queued = true ∨ sendingEvent s = some m)) ∧
    (∀ m : Fin 24, s.boxes[m].inState .queued = true → m ∈ s.queue.entries) ∧
    (∀ m : Fin 24, sendingEvent s = some m → s.queue.entries.head? = some m)

/-- The head waits exactly while the conditions of R111 hold together. -/
abbrev WaitOk (s : State) : Prop := s.queue.wait.isSome = headMayWait s

/-! ## Link, timer and slots -/

/-- The states in which the Cycle Timer runs (R23). -/
def LinkState.timed : LinkState → Bool
  | .align | .running | .stopping => true
  | .off | .starting | .listen => false

/-- A command in flight and the states it belongs to (R43, R73, R90, R178): RESULT reads PENDING exactly while one is in
flight, a shadow is VALIDATING exactly while ARM is, START is in flight in OFF alone, and STOPPING is STOP in flight. -/
abbrev CommandUnitOk (s : State) : Prop :=
  (s.cmd.result = .pending ↔ s.cmd.inFlight.isSome = true) ∧
    (s.sched.shadow = .validating ↔ s.cmd.inFlight = some .arm) ∧
    (s.cmd.inFlight = some .start → s.link.state = .off) ∧
    (s.link.state = .stopping ↔ s.cmd.inFlight = some .stop)

/-- A frame is SENDING only in RUNNING, ALIGN, STOPPING or LISTEN, and always in STOPPING (R69, R91). Of ALIGN and LISTEN: a
frame that a jump to offset 28 began goes on there (log entries 9 and 11). -/
abbrev TransmitterOk (s : State) : Prop :=
  (s.tx.isSome = true → s.link.state.timed = true ∨ s.link.state = .listen) ∧
    (s.link.state = .stopping → s.tx.isSome = true)

/-- The parameters have passed START's checks whenever the link is not OFF or a START is in flight (R71, R72). -/
abbrev ParamsOk (s : State) : Prop :=
  s.link.state ≠ .off ∨ s.cmd.inFlight = some .start → paramFault s.params = none

/-- The role keeps to its link states (R70), and SILENT and the silence count are clear in OFF (R87, R94). -/
abbrev RoleOk (s : State) : Prop :=
  (s.link.state = .starting → isMaster s = true) ∧
    (s.link.state = .listen ∨ s.link.state = .align → isMaster s = false) ∧
    (s.link.state = .off → s.link.silent = false) ∧
    (s.link.state = .starting → s.link.silence < startupLimit s) ∧
    (s.link.state ≠ .starting → s.link.silence = 0)

/-- Whenever the link is not OFF the active bank passes validation, and an ARMED shadow passes it too (R43). -/
abbrev BanksOk (s : State) : Prop :=
  (s.link.state ≠ .off → validate s.boxes (activeBank s) = none) ∧
    (s.sched.shadow = .armed → s.link.state ≠ .off ∧ validate s.boxes (shadowBank s) = none)

/-- The Cycle Timer keeps R23 and R25: it runs in ALIGN and RUNNING, is stopped at position 0 in OFF, STARTING and LISTEN, and
in STOPPING goes on as STOP found it (log entry 21). Its position stays below a length of 64 to 16383 CT, in RUNNING the active
bank's. -/
abbrev TimerOk (s : State) : Prop :=
  (s.link.state = .align ∨ s.link.state = .running → s.timer.length.isSome = true) ∧
    (s.link.state.timed = false → s.timer.length = none) ∧
    (s.timer.length = none → s.timer.position = 0 ∧ s.timer.csSeen = false) ∧
    (∀ length ∈ s.timer.length, s.timer.position < length ∧ 64 ≤ length ∧ length ≤ 16383) ∧
    (s.link.state = .running → s.timer.length = some (activeBank s).length.toNat)

/-- A slot is open only in RUNNING and STOPPING (R23, R58, R59), and the next index is 0 to 32 (R56). -/
abbrev SlotOk (s : State) : Prop :=
  (s.seq.slot.isSome = true → s.link.state = .running ∨ s.link.state = .stopping) ∧ s.seq.nextIndex ≤ 32

/-- The missed count stays within the limits of START, and below the limit in force while a follower counts (R84). -/
abbrev MissedOk (s : State) : Prop :=
  s.sync.missed ≤ 7 ∧
    (isMaster s = false ∧ (s.link.state = .align ∨ s.link.state = .running) →
      s.sync.missed < s.params.syncLossLimit.toNat)

/-- The deviation record stays within -128 to 127 CT (R34). -/
abbrev DeviationOk (s : State) : Prop := -128 ≤ s.sync.deviation ∧ s.sync.deviation ≤ 127

/-! ## Line framer -/

/-- The assembly keeps R16 to R18 and R22: at most 40 bytes, a character count no larger than its bytes can have, the gap timer
only in an assembly, no assembly while SENDING, and the receive side in HUNT and inactive in OFF. -/
abbrev AssemblyOk (s : State) : Prop :=
  s.rx.buffer.length ≤ 40 ∧
    (s.rx.assembly = .inFrame → 1 ≤ s.rx.count ∧ s.rx.count ≤ 1 + 2 * s.rx.buffer.length) ∧
    (s.rx.assembly = .escaped → 2 ≤ s.rx.count ∧ s.rx.count ≤ 2 + 2 * s.rx.buffer.length) ∧
    (s.rx.assembly = .hunt → s.rx.gap = none) ∧
    (s.tx.isSome = true → s.rx.assembly = .hunt) ∧
    (s.link.state = .off → s.rx = Receiver.hunting ∧ s.line.level = .idle)

/-! ## Node presence table -/

/-- A node table entry keeps R144 and R145. -/
def NodeEntry.ok (e : NodeEntry) : Bool :=
  1 ≤ e.threshold && e.threshold ≤ 15 && e.misses ≤ e.threshold &&
    ((e.state == .absent) == (e.misses == e.threshold)) &&
    match e.state with
    | .unseen => e.misses == 0
    | .present => e.misses == 0
    | .late => 1 ≤ e.misses
    | .absent => true

/-- Every node table entry keeps R145. -/
abbrev NodesOk (s : State) : Prop := ∀ n : Fin 16, s.nodes[n].ok = true

end Sys2Proof.Machine
end

