-- ==== Sys2Proof/WellFormed.lean ====
section
/-! DEFINITION. Which commands are what their row says: the operand checks of the rows whose rule names a range.
`exec` gives every term of `Instr` the effect the bus gives that very write, so an ill-formed term is never refused:
it is the same write under another row's name. -/

namespace Sys2Proof

/-- The codes of the command table (R177). -/
def commandCodes : List Byte :=
  [0x01, 0x02, 0x03, 0x04, 0x05, 0x06, 0x10, 0x11,
   0x20, 0x21, 0x22, 0x23, 0x24, 0x25, 0x26, 0x30]

/-- The direct registers whose writes have a row of their own: CMD, WPTR_H, WPTR_L, WDATA, IFLG0, IFLG1, IEN0, IEN1 and
CMDSTAT (R172). -/
def ownRowRegisters : List BusAddress :=
  [0x00, 0x05, 0x06, 0x07, 0x09, 0x0A, 0x0B, 0x0C, 0x11]

/-- A command is well formed when its operand is one its row is about. -/
def Instr.wellFormed : Instr → Bool
  | .unknownCommand code => !commandCodes.contains code
  | .cmdWriteLost code => code != 0x03 && code != 0x06
  | .registerWrite address _ => !ownRowRegisters.contains address
  | _ => true

end Sys2Proof
end

