-- ==== Sys2Proof/Certificates/Slice0/Obligations.lean ====
section
/-! DEFINITION. The statements for the provers: what the commands, the accesses and the happenings of the AJ2416 do, what
every step keeps, and what no command may do. Each docstring says what is stated and names the rules it comes from. -/

open Sys2Proof Sys2Proof.Machine

/-! ### The machine -/

/-- One step takes the command at the front of the queue and is `exec` of it on the state with the rest of the queue. -/
def Obligations.StepRunsFrontCommand : Prop :=
  ∀ (c : Instr) (rest : List Instr) (s : State),
    step { s with pending := c :: rest } = exec c { s with pending := rest }

/-- The model's choices. Log entry 2: with no command waiting, one CT passes on an idle line in STARTING and LISTEN, where the
Cycle Timer is stopped; it adds 1 to the line's idle time, to the gap timer short of its limit and, in STARTING short of the
limit, to the silence count; else the block idles. Log entry 3: a happening that the state says cannot occur now changes
nothing. The receive side takes no characters in OFF, and a stopped Cycle Timer, a link that is not STARTING, a silence or gap
count that its limit does not follow, a head that does not wait, an IDLE transmitter and a command unit without a START or ARM
have no happening of their own. -/
def Obligations.TimeWithoutHappenings : Prop :=
  (∀ s : State, s.pending = [] →
     let limit := (bankOf s.sched.active s).length.toNat + 28
     ∃ t, step s = .next t ∧
       t = { s with line := t.line, link := t.link, rx := t.rx } ∧
       (s.line.level = .idle → s.link.state = .starting → s.link.silence + 1 < limit →
         t.link = { s.link with silence := s.link.silence + 1 } ∧
           t.line = { s.line with idleTime := s.line.idleTime + 1 } ∧
           t.rx = { s.rx with gap := s.rx.gap.map (fun g => min (g + 1) 1) }) ∧
       (s.line.level = .idle → s.link.state = .listen →
         t.link = s.link ∧ t.line = { s.line with idleTime := s.line.idleTime + 1 } ∧
           t.rx = { s.rx with gap := s.rx.gap.map (fun g => min (g + 1) 1) }) ∧
       (s.line.level ≠ .idle ∨ (s.link.state ≠ .starting ∧ s.link.state ≠ .listen) ∨
         (s.link.state = .starting ∧ limit ≤ s.link.silence + 1) → t = s)) ∧
  (∀ s : State,
     (s.link.state = .off ∨ s.line.level ≠ .idle → exec .startBitConfirmed s = .next s) ∧
     (∀ v, s.link.state = .off ∨ s.line.level ≠ .character → exec (.characterComplete v) s = .next s) ∧
     (s.link.state = .off ∨ s.line.level ≠ .character → exec .stopBitError s = .next s) ∧
     (s.link.state = .off ∨ s.line.level ≠ .heldLow → exec .lineHighAfterStopBitError s = .next s) ∧
     ((∀ g ∈ s.rx.gap, g = 0) → exec .gapTimerExpires s = .next s) ∧
     (s.timer.length = none → exec .positionReached s = .next s) ∧
     (s.timer.length ≠ some (s.timer.position + 1) → exec .cycleBoundary s = .next s) ∧
     (s.link.state ≠ .starting ∨ s.line.level ≠ .idle ∨
         s.link.silence + 1 < (bankOf s.sched.active s).length.toNat + 28 →
       exec .startupSilenceCompletes s = .next s) ∧
     ((∀ k ∈ s.queue.wait, k < backoff s) → exec .backoffElapses s = .next s) ∧
     ((∀ x ∈ s.tx, x.allMatched = false) → exec .transmissionCompletes s = .next s) ∧
     ((∀ x ∈ s.tx, x.allMatched = true) → exec .transmissionCollides s = .next s) ∧
     (s.cmd.inFlight = none ∨ s.cmd.inFlight = some .stop → exec .validationDone s = .next s))

/-- Every command of the table completes in every state: no access, no happening and no command code stops the machine. The
commands still waiting are left as they are. The model's choices in this: a happening that cannot occur changes nothing (log
entry 3), an ill-formed term is the same write under another row's name (log entry 12), and a hardware reset leaves the queue
of waiting commands (log entry 16). -/
def Obligations.EveryCommandCompletes : Prop :=
  ∀ (c : Instr) (s : State), ∃ t, exec c s = .next t ∧ t.pending = s.pending

/-- A hardware reset gives every block the values its chapter states, whatever the state before; the state after it has the
outputs inactive and meets every invariant stated below. The model's choices in this: the queue of waiting commands stays (log
entry 16), and the arguments taken, the data lines and the line read as in log entry 7 (R22, R38, R40, R43, R56, R69, R71,
R84, R108, R124, R137, R144, R170, R182, R190). -/
def Obligations.HardwareResetValues : Prop :=
  (∀ s : State, ∃ t, exec .hardwareReset s = .next t ∧ t = { State.reset with pending := s.pending } ∧
     t.params = { role := 0, address := 0, div := 2083, om := 0xC5, cm := 0xD9, es := 0xB1,
                  syncTolerance := 2, syncLossLimit := 3, retryLimit := 3 } ∧
     t.rx = { assembly := .hunt, buffer := [], count := 0, gap := none } ∧ t.tx = none ∧
     t.timer = { position := 0, cycle := 0, length := none, csSeen := false } ∧
     (∀ n : Fin 4, t.points[n] = { enabled := false, repeats := false, offset := 0, fired := false }) ∧
     t.sched.active = .a ∧ t.sched.shadow = .idle ∧ t.sched.bankA = t.sched.bankB ∧
     t.sched.bankA.id = 0 ∧ t.sched.bankA.length = 0 ∧ t.sched.bankA.count = 0 ∧
     (∀ i : Fin 32, t.sched.bankA.entries[i] =
       { start := 0, window := 0, kind := 0, exponent := 0, phase := 0, mailbox := 0, source := 0 }) ∧
     t.seq = { nextIndex := 0, slot := none } ∧ t.link = { state := .off, silent := false, silence := 0 } ∧
     t.sync = { missed := 0, deviation := 0, id := 0, length := 0 } ∧
     (∀ m : Fin 24, ∃ r, t.boxes[m] = .rx r ∧ r.policy = .keep ∧ r.state = .empty ∧ r.contentValid = false ∧
       r.nextPresent = false ∧ r.overrun = false ∧ r.lost = 0 ∧ r.lastHeard = 0 ∧ r.content = r.next ∧
       r.content.source = 0 ∧ r.content.tag = 0 ∧ r.content.sequence = 0 ∧ r.content.length = 0 ∧ r.content.cycle = 0 ∧
       ∀ i : Fin 32, r.content.payload[i] = 0) ∧
     t.queue.entries = [] ∧ t.queue.turnedAway = false ∧
     (∀ n : Fin 16, t.accept[n] = { valid := 0, tag := 0, source := 0, mailbox := 0 }) ∧
     (∀ n : Fin 16, t.nodes[n] =
       { valid := 0, address := 0, threshold := 1, state := .unseen, misses := 0, lastHeard := 0 }) ∧
     t.irq.flags = 0 ∧ t.irq.enables = 0 ∧ t.irq.attention = 0 ∧ t.irq.nodeChange = 0 ∧ t.irq.pointStatus = 0 ∧
     t.irq.causes = { missed := false, tolerance := false, lost := false, numberJump := false, swap := false,
                      mismatch := false, conflict := false, csBlocked := false } ∧
     t.irq.fault = { present := false, multiple := false, address := 0 } ∧ (∀ c : Counter, counterValue c t = 0) ∧
     irqAsserted t = false ∧
     t.cmd = { code := 0, arg0 := 0, arg1 := 0, takenArg0 := 0, takenArg1 := 0, result := .ok, detail := 0, detailIdx := 0,
               inFlight := none, lost := false } ∧
     t.win.pointer = 0 ∧ t.win.snapshotHigh = 0 ∧ t.win.snapshotCycle = 0) ∧
  (RxStatesOk State.reset ∧ LengthsOk State.reset ∧ PendingCommitOk State.reset ∧ NodesOk State.reset ∧
     CommandUnitOk State.reset ∧ TransmitterOk State.reset ∧ LocksOk State.reset ∧ QueueOk State.reset ∧ WaitOk State.reset ∧
     BanksOk State.reset ∧ TimerOk State.reset ∧ AssemblyOk State.reset ∧ ParamsOk State.reset ∧ RoleOk State.reset ∧
     MissedOk State.reset ∧ DeviationOk State.reset ∧ SlotOk State.reset) ∧
  ∀ bus : BusPort, bus.read = false → outputs bus State.reset = { txd := none, de := false, irqLow := false, data := none }

/-! ### Link commands -/

/-- START taken with no command in flight: BAD_STATE outside OFF. In OFF the parameters are checked in the order of R72: the
role is 0 or 1, the node address at most 239, DIV at least 16, each mark differs from the earlier ones and its complement from
all three, the sync tolerance is at most 15, the sync loss limit 1 to 7, the event retry limit at most 15. The first that
fails gives BAD_PARAM with its window offset; when none fails START stays in flight (R5, R71, R72, R73, R178, R185). -/
def Obligations.StartAnswers : Prop :=
  ∀ s : State, s.cmd.inFlight = none →
    let p := s.params
    let marks : List Byte := [p.om, p.cm, p.es]
    let passes (mark : Byte) (earlier : List Byte) : Bool := !earlier.contains mark && !marks.contains (~~~mark)
    let checks : List (Byte × Bool) :=
      [(0x00, p.role == 0 || p.role == 1), (0x01, p.address.toNat ≤ 239), (0x02, 16 ≤ p.div.toNat),
       (0x04, passes p.om []), (0x05, passes p.cm [p.om]), (0x06, passes p.es [p.om, p.cm]),
       (0x07, p.syncTolerance.toNat ≤ 15), (0x08, 1 ≤ p.syncLossLimit.toNat && p.syncLossLimit.toNat ≤ 7),
       (0x09, p.retryLimit.toNat ≤ 15)]
    (s.link.state ≠ .off → exec .start s = .next (completedAs 0x01 .badState 0 0 s)) ∧
    (s.link.state = .off → ∀ c, checks.find? (fun c => !c.2) = some c →
      exec .start s = .next (completedAs 0x01 .badParam c.1 0 s)) ∧
    (s.link.state = .off → (∀ c ∈ checks, c.2 = true) → exec .start s = .next (inFlightAs 0x01 .start s))

/-- STOP taken with no command in flight: BAD_STATE in OFF; with the transmitter IDLE the link enters OFF and STOP completes
with OK; with a frame SENDING the link goes to STOPPING, which sets the LINK flag, STOP stays in flight and the head's wait
ends. The model's choice in this (log entry 21): where the frame is SENDING in ALIGN or LISTEN, which R90 rules out, the Cycle
Timer stays as it stands. GO_SILENT sets SILENT in every link state except OFF, where it answers BAD_STATE. RESUME clears
SILENT when it is set, and answers BAD_STATE when it is clear. Nothing else of the link changes; with SILENT the head's wait
ends, and without it a wait may begin from 0 (R87, R88, R89, R90, R91, R94, R111). -/
def Obligations.StopAndSilentCommands : Prop :=
  (∀ s : State, s.cmd.inFlight = none →
     (s.link.state = .off → exec .stop s = .next (completedAs 0x02 .badState 0 0 s)) ∧
     (s.link.state ≠ .off → s.tx = none → exec .stop s = .next (completedAs 0x02 .ok 0 0 (offState s))) ∧
     (s.link.state ≠ .off → s.link.state ≠ .stopping → s.tx ≠ none →
       exec .stop s = .next { inFlightAs 0x02 .stop s with
         link := { s.link with state := .stopping }
         irq := { s.irq with flags := s.irq.flags ||| 0x0020 }
         queue := { s.queue with wait := none } })) ∧
  (∀ s : State, s.cmd.inFlight = none →
     (s.link.state = .off → exec .goSilent s = .next (completedAs 0x04 .badState 0 0 s)) ∧
     (s.link.state ≠ .off → exec .goSilent s = .next { completedAs 0x04 .ok 0 0 s with
         link := { s.link with silent := true }, queue := { s.queue with wait := none } }) ∧
     (s.link.silent = false → exec .resume s = .next (completedAs 0x05 .badState 0 0 s)) ∧
     (s.link.silent = true → s.queue.wait = none →
       exec .resume s = .next { completedAs 0x05 .ok 0 0 s with
         link := { s.link with silent := false }
         queue := { s.queue with
           wait := if headMayWait { s with link := { s.link with silent := false } } then some 0 else none } }))

/-- HALT, taken whether or not a command is in flight. It abandons the command in flight, an ARM leaving the shadow IDLE; it
cuts a frame that is SENDING, which ends the lock on its mailbox and leaves a slot's mailbox LOADED and an event head QUEUED,
before any deferred commit; and a link that is not OFF enters OFF. It completes with OK (R92, R94, R102, R107, R116, R180). -/
def Obligations.HaltAnswers : Prop :=
  ∀ s : State,
    let abandoned := if s.cmd.inFlight = some .arm then { s with sched := { s.sched with shadow := .idle } } else s
    (s.tx = none → s.link.state = .off → exec .halt s = .next (completedAs 0x03 .ok 0 0 abandoned)) ∧
    (s.tx = none → s.link.state ≠ .off → exec .halt s = .next (completedAs 0x03 .ok 0 0 (offState abandoned))) ∧
    (∀ x, s.tx = some x → s.link.state ≠ .off →
      (x.requester = .cycleStart →
        exec .halt s = .next (completedAs 0x03 .ok 0 0 (offState { abandoned with tx := none }))) ∧
      (∀ m b, x.requester = .slot m → s.boxes[m] = .tx b →
        exec .halt s = .next (completedAs 0x03 .ok 0 0 (offState { abandoned with
          tx := none, boxes := put s.boxes m (.tx (deferred { b with state := .loaded })) }))) ∧
      (∀ m b, x.requester = .event m → s.boxes[m] = .tx b →
        exec .halt s = .next (completedAs 0x03 .ok 0 0 (offState { abandoned with
          tx := none, boxes := put s.boxes m (.tx (deferred { b with state := .queued })) }))))

/-- LINK_RESET: HALT's effect, then the run-time state returns to its starting values and what the host has configured is
kept. The timer stands at position 0 with cycle number 0 and no length, the sequencer at next index 0 with no slot, an ARMED
or VALIDATING shadow is IDLE, the receive side is in HUNT and the line starts afresh. A mailbox whose frame is cut ends its
lock, takes its deferred commit and is LOADED, an event's with retry count 0, as every other QUEUED mailbox is. Of the data
lines and the arguments taken, and of the line and the receive side where the link was OFF, it leaves what it finds (log entry
7 where the rules are silent) (R43, R52, R84, R92, R93, R94, R102, R107, R116, R121, R124, R156, R170, R180, R182). -/
def Obligations.LinkResetRestoresRunTime : Prop :=
  ∀ s : State, (s.link.state = .off → s.tx = none) →
    ∃ t, exec .linkReset s = .next t ∧
      t.link = (if s.link.state = .off then s.link else { state := .off, silent := false, silence := 0 }) ∧
      t.timer = (if s.link.state = .off then { s.timer with cycle := 0 }
        else { position := 0, cycle := 0, length := none, csSeen := false }) ∧
      t.seq = (if s.link.state = .off then s.seq else { nextIndex := 0, slot := none }) ∧
      t.sched = { s.sched with shadow :=
        if s.cmd.inFlight = some .arm ∨ (s.link.state ≠ .off ∧ s.sched.shadow = .armed) then .idle else s.sched.shadow } ∧
      t.rx = (if s.link.state = .off then s.rx else { assembly := .hunt, buffer := [], count := 0, gap := none }) ∧
      t.line = (if s.link.state = .off then s.line else { level := .idle, idleTime := 0, ctIdle := false }) ∧
      t.sync = { missed := 0, deviation := 0, id := 0, length := 0 } ∧
      (∀ n : Fin 4, t.points[n] = { s.points[n] with fired := false }) ∧
      (∀ c : Counter, counterValue c t = 0) ∧
      t.queue = { entries := [], wait := none, turnedAway := false } ∧
      (∀ (m : Fin 24) (b : TxMailbox), s.boxes[m] = .tx b →
        t.boxes[m] = .tx (
          if sendingEvent s = some m then { deferred { b with state := .loaded } with retry := 0 }
          else if sendingMailbox s = some m then deferred { b with state := .loaded }
          else if b.state = .queued then { b with state := .loaded, retry := 0 }
          else b)) ∧
      (∀ (m : Fin 24) (r : RxMailbox), s.boxes[m] = .rx r →
        t.boxes[m] = .rx { r with state := .empty, nextPresent := false, overrun := false, lost := 0, lastHeard := 0 }) ∧
      t.irq.attention = 0 ∧ t.irq.nodeChange = 0 ∧ t.irq.pointStatus = 0 ∧
      (∀ n : Fin 16, t.nodes[n] = { s.nodes[n] with state := .unseen, misses := 0, lastHeard := 0 }) ∧
      t.irq.flags = s.irq.flags ||| (if s.link.state = .off then 0x0080 else 0x00A0) ∧
      t.params = s.params ∧ t.accept = s.accept ∧ t.irq.enables = s.irq.enables ∧
      t.irq.causes = s.irq.causes ∧ t.irq.fault = s.irq.fault ∧ t.win = s.win ∧ t.tx = none ∧
      t.cmd = { s.cmd with code := 0x06, takenArg0 := s.cmd.arg0, takenArg1 := s.cmd.arg1, result := .ok, detail := 0,
                           detailIdx := 0, inFlight := none }

/-! ### Schedule and mailbox commands -/

/-- ARM and DISARM, taken with no command in flight. ARM on an IDLE shadow makes it VALIDATING and stays in flight; on another
shadow it answers BAD_STATE. DISARM on an ARMED shadow makes it IDLE; on another it answers BAD_STATE. Validation done: a bank
that fails completes START or ARM with BAD_BANK, the reason and the index, and leaves ARM's shadow IDLE. A bank that passes
takes START to STARTING or LISTEN by the role, with the receive side in HUNT and the idle time 0; it takes ARM to ARMED
outside OFF, and in OFF to a swap at once (R45, R46, R49, R50, R51, R53, R73). -/
def Obligations.ArmingAndValidation : Prop :=
  (∀ s : State, s.cmd.inFlight = none →
     (s.sched.shadow = .idle →
       exec .arm s = .next { inFlightAs 0x10 .arm s with sched := { s.sched with shadow := .validating } }) ∧
     (s.sched.shadow ≠ .idle → exec .arm s = .next (completedAs 0x10 .badState 0 0 s)) ∧
     (s.sched.shadow = .armed →
       exec .disarm s = .next { completedAs 0x11 .ok 0 0 s with sched := { s.sched with shadow := .idle } }) ∧
     (s.sched.shadow ≠ .armed → exec .disarm s = .next (completedAs 0x11 .badState 0 0 s))) ∧
  (∀ s : State,
     (s.cmd.inFlight = some .start →
       (∀ f, validate s.boxes (activeBank s) = some f →
         exec .validationDone s = .next (finishedAs .badBank (BitVec.ofNat 8 f.reason) f.index s)) ∧
       (validate s.boxes (activeBank s) = none → s.link.state = .off →
         exec .validationDone s = .next (finishedAs .ok 0 0 { s with
           link := { s.link with state := if s.params.role = 1 then .starting else .listen, silence := 0 }
           rx := { assembly := .hunt, buffer := [], count := 0, gap := none }
           line := { level := .idle, idleTime := 0, ctIdle := false }
           irq := { s.irq with flags := s.irq.flags ||| 0x0020 } }))) ∧
     (s.cmd.inFlight = some .arm →
       (∀ f, validate s.boxes (shadowBank s) = some f →
         exec .validationDone s = .next (finishedAs .badBank (BitVec.ofNat 8 f.reason) f.index
           { s with sched := { s.sched with shadow := .idle } })) ∧
       (validate s.boxes (shadowBank s) = none → s.link.state ≠ .off →
         exec .validationDone s = .next (finishedAs .ok 0 0 { s with sched := { s.sched with shadow := .armed } })) ∧
       (validate s.boxes (shadowBank s) = none → s.link.state = .off →
         exec .validationDone s = .next (finishedAs .ok 0 0 { s with
           sched := { s.sched with active := s.sched.active.other, shadow := .idle }
           irq := { s.irq with flags := s.irq.flags ||| 0x0040, causes := { s.irq.causes with swap := true } } }))))

/-- COMMIT and WITHDRAW: BAD_ARG above 23 and on an RX mailbox. On a TX mailbox, COMMIT: IN_FLIGHT with a commit pending, then
BAD_ARG with a staging length above 32; on a LOCKED mailbox the pending-commit mark alone is set; on any other the staging
becomes the content under the next sequence number and FREE becomes LOADED. WITHDRAW: only a LOADED mailbox changes, and it
becomes FREE (R98, R99, R100, R103). -/
def Obligations.CommitAndWithdraw : Prop :=
  ((∀ s : State, s.cmd.inFlight = none →
     23 < s.cmd.arg0.toNat ∨ (∃ (m : Fin 24) (r : RxMailbox), s.cmd.arg0.toNat = m.val ∧ s.boxes[m] = .rx r) →
       exec .commit s = .next (completedAs 0x20 .badArg 0 0 s)) ∧
   ∀ (s : State) (m : Fin 24) (b : TxMailbox), s.cmd.inFlight = none → s.cmd.arg0.toNat = m.val → s.boxes[m] = .tx b →
     (b.pendingCommit = true → exec .commit s = .next (completedAs 0x20 .inFlight 0 0 s)) ∧
     (b.pendingCommit = false → 32 < b.staging.length.toNat → exec .commit s = .next (completedAs 0x20 .badArg 0 0 s)) ∧
     (b.pendingCommit = false → b.staging.length.toNat ≤ 32 → b.state = .locked →
       exec .commit s = .next { completedAs 0x20 .ok 0 0 s with
         boxes := put s.boxes m (.tx { b with pendingCommit := true }) }) ∧
     (b.pendingCommit = false → b.staging.length.toNat ≤ 32 → b.state ≠ .locked →
       exec .commit s = .next { completedAs 0x20 .ok 0 0 s with
         boxes := put s.boxes m (.tx { b with
           content := installed b, state := if b.state = .free then .loaded else b.state }) })) ∧
  ((∀ s : State, s.cmd.inFlight = none →
     23 < s.cmd.arg0.toNat ∨ (∃ (m : Fin 24) (r : RxMailbox), s.cmd.arg0.toNat = m.val ∧ s.boxes[m] = .rx r) →
       exec .withdraw s = .next (completedAs 0x21 .badArg 0 0 s)) ∧
   ∀ (s : State) (m : Fin 24) (b : TxMailbox), s.cmd.inFlight = none → s.cmd.arg0.toNat = m.val → s.boxes[m] = .tx b →
     (b.state = .loaded → exec .withdraw s = .next { completedAs 0x21 .ok 0 0 s with
       boxes := put s.boxes m (.tx { b with state := .free }) }) ∧
     (b.state = .free → exec .withdraw s = .next (completedAs 0x21 .badState 0 0 s)) ∧
     (b.state = .queued → exec .withdraw s = .next (completedAs 0x21 .badState 0 0 s)) ∧
     (b.state = .locked → exec .withdraw s = .next (completedAs 0x21 .inFlight 0 0 s)))

/-- SEND_EVENT and CANCEL_EVENT: BAD_ARG above 23, on an RX mailbox and on a TX mailbox that is not EVENT. On a TX EVENT
mailbox, SEND_EVENT by its state and the room in the queue: a LOADED mailbox joins the tail as QUEUED with retry count 0, and
a head whose conditions then hold begins its wait from 0. CANCEL_EVENT by its state: a QUEUED mailbox leaves the queue from
wherever it stands and becomes LOADED; when it was the head its wait and the turned-away mark end with it, and the new head
begins a wait of its own from 0 when it may wait (R109, R110, R111, R113, R177). -/
def Obligations.EventQueueCommands : Prop :=
  (∀ s : State, s.cmd.inFlight = none →
     ∀ p ∈ [(Instr.sendEvent, 0x22#8), (.cancelEvent, 0x23)],
       (23 < s.cmd.arg0.toNat → exec p.1 s = .next (completedAs p.2 .badArg 0 0 s)) ∧
       (∀ (m : Fin 24) (r : RxMailbox), s.cmd.arg0.toNat = m.val → s.boxes[m] = .rx r →
         exec p.1 s = .next (completedAs p.2 .badArg 0 0 s)) ∧
       (∀ (m : Fin 24) (b : TxMailbox), s.cmd.arg0.toNat = m.val → s.boxes[m] = .tx b → b.mode ≠ .event →
         exec p.1 s = .next (completedAs p.2 .badArg 0 0 s))) ∧
  (∀ (s : State) (m : Fin 24) (b : TxMailbox), s.cmd.inFlight = none → s.cmd.arg0.toNat = m.val → s.boxes[m] = .tx b →
     b.mode = .event →
     (b.state = .free → exec .sendEvent s = .next (completedAs 0x22 .notReady 0 0 s)) ∧
     (b.state = .queued → exec .sendEvent s = .next (completedAs 0x22 .duplicate 0 0 s)) ∧
     (b.state = .locked → exec .sendEvent s = .next (completedAs 0x22 .inFlight 0 0 s)) ∧
     (b.state = .loaded → 8 ≤ s.queue.entries.length →
       exec .sendEvent s = .next (completedAs 0x22 .queueFull 0 0 s)) ∧
     (b.state = .loaded → s.queue.entries.length < 8 →
       exec .sendEvent s = .next (settleWait { completedAs 0x22 .ok 0 0 s with
         boxes := put s.boxes m (.tx { b with state := .queued, retry := 0 })
         queue := { s.queue with entries := s.queue.entries ++ [m] } }))) ∧
  (∀ (s : State) (m : Fin 24) (b : TxMailbox), s.cmd.inFlight = none → s.cmd.arg0.toNat = m.val → s.boxes[m] = .tx b →
     b.mode = .event →
     (b.state = .queued →
       exec .cancelEvent s = .next (settleWait { completedAs 0x23 .ok 0 0 s with
         boxes := put s.boxes m (.tx { b with state := .loaded })
         queue := {
           entries := s.queue.entries.filter (· ≠ m)
           wait := if s.queue.entries.head? = some m then none else s.queue.wait
           turnedAway := if s.queue.entries.head? = some m then false else s.queue.turnedAway } })) ∧
     (b.state = .locked → exec .cancelEvent s = .next (completedAs 0x23 .inFlight 0 0 s)) ∧
     (b.state = .free ∨ b.state = .loaded → exec .cancelEvent s = .next (completedAs 0x23 .badState 0 0 s)))

/-- HOLD and RELEASE: BAD_ARG above 23 and on a TX mailbox. On an RX mailbox HOLD makes a FULL mailbox HELD. RELEASE empties a
FULL mailbox, and a HELD one without a next buffer; a HELD mailbox with one becomes FULL with that frame as its content, and
its attention bit and the MBX flag are set. RELEASE clears the overrun mark and keeps the lost count and the last-heard cycle
(R134, R135, R163). -/
def Obligations.HoldAndRelease : Prop :=
  (∀ s : State, s.cmd.inFlight = none →
    23 < s.cmd.arg0.toNat ∨ (∃ (m : Fin 24) (b : TxMailbox), s.cmd.arg0.toNat = m.val ∧ s.boxes[m] = .tx b) →
      exec .hold s = .next (completedAs 0x24 .badArg 0 0 s)) ∧
  (∀ s : State, s.cmd.inFlight = none →
    23 < s.cmd.arg0.toNat ∨ (∃ (m : Fin 24) (b : TxMailbox), s.cmd.arg0.toNat = m.val ∧ s.boxes[m] = .tx b) →
      exec .release s = .next (completedAs 0x25 .badArg 0 0 s)) ∧
  ∀ (s : State) (m : Fin 24) (r : RxMailbox), s.cmd.inFlight = none → s.cmd.arg0.toNat = m.val → s.boxes[m] = .rx r →
    (r.state = .empty → exec .hold s = .next (completedAs 0x24 .notReady 0 0 s)) ∧
    (r.state = .held → exec .hold s = .next (completedAs 0x24 .badState 0 0 s)) ∧
    (r.state = .full → exec .hold s = .next { completedAs 0x24 .ok 0 0 s with
      boxes := put s.boxes m (.rx { r with state := .held, nextPresent := false }) }) ∧
    (r.state = .empty → exec .release s = .next (completedAs 0x25 .badState 0 0 s)) ∧
    (r.state = .full ∨ (r.state = .held ∧ r.nextPresent = false) →
      exec .release s = .next { completedAs 0x25 .ok 0 0 s with
        boxes := put s.boxes m (.rx { r with state := .empty, overrun := false }) }) ∧
    (r.state = .held → r.nextPresent = true →
      exec .release s = .next { completedAs 0x25 .ok 0 0 s with
        boxes := put s.boxes m (.rx { r with
          state := .full, content := r.next, contentValid := true, nextPresent := false, overrun := false })
        irq := { s.irq with
          flags := s.irq.flags ||| 0x0084
          attention := s.irq.attention ||| BitVec.twoPow 24 m.val } })

/-- CONFIG_MAILBOX: ARG0 above 23 and a code that is not in its table answer BAD_ARG, a link that is not OFF BAD_STATE; else
the mailbox takes the configuration at its starting values and leaves the event queue, with the attention bit as it stood
(R117, R118, R119, R163). -/
def Obligations.ConfigMailboxAnswers : Prop :=
  (∀ s : State, s.cmd.inFlight = none → 23 < s.cmd.arg0.toNat →
     exec .configMailbox s = .next (completedAs 0x26 .badArg 0 0 s)) ∧
  (∀ (s : State) (m : Fin 24), s.cmd.inFlight = none → s.cmd.arg0.toNat = m.val →
     let noBytes : Vector Byte 32 := Vector.replicate 32 0
     let noFrame : RxBuffer := { source := 0, tag := 0, sequence := 0, length := 0, payload := noBytes, cycle := 0 }
     let freshRx (policy : RxPolicy) : Mailbox := .rx
       { policy := policy, state := .empty, contentValid := false, content := noFrame, nextPresent := false, next := noFrame,
         overrun := false, lost := 0, lastHeard := 0 }
     let freshTx (mode : TxMode) : Mailbox := .tx
       { mode := mode, state := .free, staging := { destination := 0, tag := 0, length := 0, payload := noBytes },
         content := { destination := 0, tag := 0, sequence := 0, length := 0, payload := noBytes },
         pendingCommit := false, retry := 0, lastOutcome := .none }
     (s.cmd.arg1 ∉ [0x00#8, 0x01, 0x10, 0x11, 0x12] →
       exec .configMailbox s = .next (completedAs 0x26 .badArg 0 0 s)) ∧
     (s.cmd.arg1 ∈ [0x00#8, 0x01, 0x10, 0x11, 0x12] → s.link.state ≠ .off →
       exec .configMailbox s = .next (completedAs 0x26 .badState 0 0 s)) ∧
     (∀ p ∈ [(0x00#8, freshRx .keep), (0x01, freshRx .overwrite), (0x10, freshTx (.scheduled false)),
         (0x11, freshTx (.scheduled true)), (0x12, freshTx .event)],
       s.cmd.arg1 = p.1 → s.link.state = .off →
         exec .configMailbox s = .next { completedAs 0x26 .ok 0 0 s with
           boxes := put s.boxes m p.2
           queue := {
             entries := s.queue.entries.filter (· ≠ m)
             wait := if s.queue.entries.head? = some m then none else s.queue.wait
             turnedAway := if s.queue.entries.head? = some m then false else s.queue.turnedAway } }))

/-- CLEAR_COUNTERS sets the eleven counters and the lost count of every RX mailbox to 0 and leaves everything else but its own
completion as it stood; while another command is in flight it is not taken and only CMD_LOST is set. A code outside the
command table completes with UNKNOWN_CMD and changes nothing else (R167, R177). -/
def Obligations.ClearCountersAndUnknownCodes : Prop :=
  (∀ s : State, s.cmd.inFlight ≠ none → exec .clearCounters s = .next { s with cmd := { s.cmd with lost := true } }) ∧
  ∀ s : State, s.cmd.inFlight = none →
    (∃ t, exec .clearCounters s = .next t ∧
      t = { completedAs 0x30 .ok 0 0 s with
        boxes := t.boxes
        irq := { (completedAs 0x30 .ok 0 0 s).irq with counters := t.irq.counters } } ∧
      (∀ c : Counter, counterValue c t = 0) ∧
      ∀ m : Fin 24, t.boxes[m] = match s.boxes[m] with
        | .rx r => .rx { r with lost := 0 }
        | .tx b => .tx b) ∧
    (∀ code : Byte, code ∉ [0x01#8, 0x02, 0x03, 0x04, 0x05, 0x06, 0x10, 0x11, 0x20, 0x21, 0x22, 0x23, 0x24, 0x25, 0x26, 0x30] →
      exec (.unknownCommand code) s = .next (completedAs code .unknownCmd 0 0 s))

/-- A write to CMD while a command is in flight is not taken, unless it is HALT or LINK_RESET: only the CMD_LOST mark is set.
The mark is clear after a hardware reset, is cleared by a write to CMDSTAT with bit 1 set and left by one with bit 1 clear;
nothing else clears it; and HALT, LINK_RESET, the completions of START, ARM and STOP, and every command with none in flight
keep it. The clauses also cover an unknown-command or lost-write term whose code belongs to another row, which the model
treats as that very write (log entry 12) (R179, R180). -/
def Obligations.CommandsWhileBusy : Prop :=
  (∀ s : State, s.cmd.inFlight ≠ none →
    let lost := { s with cmd := { s.cmd with lost := true } }
    (∀ c ∈ [Instr.start, .stop, .goSilent, .resume, .arm, .disarm, .commit, .withdraw, .sendEvent, .cancelEvent, .hold,
        .release, .configMailbox, .clearCounters], exec c s = .next lost) ∧
    (∀ code : Byte, code ≠ 0x03 → code ≠ 0x06 →
      exec (.cmdWriteLost code) s = .next lost ∧ exec (.unknownCommand code) s = .next lost)) ∧
  (∀ (s : State) (v : Byte),
    exec (.cmdstatWrite v) s = .next { s with cmd := { s.cmd with lost := s.cmd.lost && !v.getLsbD 1 } }) ∧
  (∀ (c : Instr) (s t : State), c.wellFormed = true → exec c s = .next t → c ≠ .hardwareReset → (∀ v, c ≠ .cmdstatWrite v) →
    (s.cmd.lost = true → t.cmd.lost = true) ∧
      (s.cmd.inFlight = none ∨ c = .halt ∨ c = .linkReset ∨ c = .validationDone ∨ c = .transmissionCompletes ∨
        c = .transmissionCollides ∨ c = .positionReached ∨ c = .cycleBoundary → t.cmd.lost = s.cmd.lost)) ∧
  State.reset.cmd.lost = false

/-! ### The bus port and window space -/

/-- The window pointer: a write to WPTR_H stores its bits 4 to 0 as pointer bits 12 to 8, a write to WPTR_L its byte as
pointer bits 7 to 0, and each leaves the rest; reads of the two registers return the two parts, with 0 above; only these two
writes and the WDATA accesses, which advance it by 1 from 0x1FFF to 0x0000, change it; it is 0 after a hardware reset
(R173). -/
def Obligations.WindowPointer : Prop :=
  (∀ (v : Byte) (s : State),
    exec (.wptrHWrite v) s = .next { s with win := { s.win with
      pointer := v.extractLsb' 0 5 ++ s.win.pointer.extractLsb' 0 8 } } ∧
    exec (.wptrLWrite v) s = .next { s with win := { s.win with pointer := s.win.pointer.extractLsb' 8 5 ++ v } } ∧
    readRegister 0x05 s = 0#3 ++ s.win.pointer.extractLsb' 8 5 ∧
    readRegister 0x06 s = s.win.pointer.extractLsb' 0 8) ∧
  (∀ (c : Instr) (s t : State), c.wellFormed = true → exec c s = .next t →
    (c = .wdataRead ∨ (∃ v, c = .wdataWrite v) → t.win.pointer.toNat = (s.win.pointer.toNat + 1) % 0x2000) ∧
    (c = .hardwareReset → t.win.pointer = 0) ∧
    (c ≠ .wdataRead → (∀ v, c ≠ .wdataWrite v) → (∀ v, c ≠ .wptrHWrite v) → (∀ v, c ≠ .wptrLWrite v) → c ≠ .hardwareReset →
      t.win.pointer = s.win.pointer))

/-- The data port: a read of WDATA returns the window byte at the pointer, changes no byte of window space and advances the
pointer; a write is taken by the collection that owns the address, or refused, in which case only the WIN_FAULT flag and the
fault record change, MULTIPLE being set when the record was present; either way the pointer advances (R165, R174, R175). -/
def Obligations.DataPort : Prop :=
  ∀ s : State,
    exec .wdataRead s = .next { s with win := { s.win with
      pointer := s.win.pointer + 1, readData := some (readWindow s.win.pointer s) } } ∧
    (∀ a : WindowAddress, locate a = .outside → readWindow a s = 0) ∧
    ∀ v : Byte,
      (∀ t, writeByte (locate s.win.pointer) v s = some t →
        exec (.wdataWrite v) s = .next { t with win := { s.win with pointer := s.win.pointer + 1 } }) ∧
      (writeByte (locate s.win.pointer) v s = none →
        exec (.wdataWrite v) s = .next { s with
          win := { s.win with pointer := s.win.pointer + 1 }
          irq := { s.irq with
            flags := s.irq.flags ||| 0x2000
            fault := { present := true, multiple := s.irq.fault.multiple || s.irq.fault.present,
                       address := s.win.pointer } } })

/-- The window map: point n begins at 0x0020 + 4n, acceptance entry n at 0x0080 + 4n, node entry n at 0x0180 + 8n, bank A
entry i at 0x0200 + 16i, bank B entry i at 0x0400 + 16i, mailbox m at 0x0800 + 128m; an address in no range is unmapped. What
window space shows of the records: a mailbox's attention bit and a node entry's change bit by their place; the queue view,
with 0xFF beyond its count; and the mailbox blocks of both directions, field by field, with 0 at every other offset (R108,
R183, R184, R186, R189). -/
def Obligations.WindowLayout : Prop :=
  ((∀ i : Fin 10, locate (BitVec.ofNat 13 i) = .param i) ∧
   (∀ n b : Fin 4, locate (BitVec.ofNat 13 (0x0020 + 4 * n + b)) = .point n b) ∧
   (∀ i : Fin 11, locate (BitVec.ofNat 13 (0x0030 + i)) = .counter i) ∧
   (∀ i : Fin 16, locate (BitVec.ofNat 13 (0x0040 + i)) = .status i) ∧
   (∀ i : Fin 9, locate (BitVec.ofNat 13 (0x0060 + i)) = .queueView i) ∧
   (∀ (n : Fin 16) (b : Fin 4), locate (BitVec.ofNat 13 (0x0080 + 4 * n + b)) = .acceptance n b) ∧
   (∀ b : Fin 4, locate (BitVec.ofNat 13 (0x0100 + b)) = .header .a b ∧
     locate (BitVec.ofNat 13 (0x0108 + b)) = .header .b b) ∧
   (∀ (n : Fin 16) (b : Fin 8), locate (BitVec.ofNat 13 (0x0180 + 8 * n + b)) = .node n b) ∧
   (∀ (i : Fin 32) (b : Fin 16), locate (BitVec.ofNat 13 (0x0200 + 16 * i + b)) = .entry .a i b ∧
     locate (BitVec.ofNat 13 (0x0400 + 16 * i + b)) = .entry .b i b) ∧
   (∀ (m : Fin 24) (b : Fin 128), locate (BitVec.ofNat 13 (0x0800 + 128 * m + b)) = .mailbox m b) ∧
   (∀ a : WindowAddress, locate a = .outside ↔
     ∀ r ∈ [(0x0000, 0x0009), (0x0020, 0x002F), (0x0030, 0x003A), (0x0040, 0x004F), (0x0060, 0x0068), (0x0080, 0x00BF),
         (0x0100, 0x0103), (0x0108, 0x010B), (0x0180, 0x01FF), (0x0200, 0x03FF), (0x0400, 0x05FF), (0x0800, 0x13FF)],
       ¬(r.1 ≤ a.toNat ∧ a.toNat ≤ r.2))) ∧
  (∀ s : State,
     (∀ m : Fin 24, (readByte s (.status ⟨2 - m.val / 8, by omega⟩)).getLsbD (m % 8) = s.irq.attention.getLsbD m) ∧
     (∀ n : Fin 16, (readByte s (.status ⟨4 - n.val / 8, by omega⟩)).getLsbD (n % 8) = s.irq.nodeChange.getLsbD n) ∧
     (readByte s (.queueView 0)).toNat = s.queue.entries.length % 256 ∧
     (∀ i : Fin 8, readByte s (.queueView ⟨i + 1, by omega⟩) =
       if h : i < s.queue.entries.length then BitVec.ofNat 8 s.queue.entries[i] else 0xFF) ∧
     (∀ (m : Fin 24) (x : TxMailbox), s.boxes[m] = .tx x →
       (∀ i : Fin 32, readByte s (.mailbox m ⟨0x20 + i, by omega⟩) = x.content.payload[i] ∧
         readByte s (.mailbox m ⟨0x60 + i, by omega⟩) = x.staging.payload[i]) ∧
       ∀ b : Fin 128, (b < 0x20 ∨ 0x40 ≤ b) → b < 0x60 →
         readByte s (.mailbox m b) =
           ([(0x00, configCode (.tx x)), (0x01, x.state.code), (0x02, if x.pendingCommit then 1 else 0),
             (0x03, BitVec.ofNat 8 x.retry), (0x04, x.lastOutcome.code), (0x10, x.content.destination),
             (0x11, x.content.tag), (0x12, x.content.sequence), (0x13, x.content.length), (0x40, x.staging.destination),
             (0x41, x.staging.tag), (0x43, x.staging.length)].lookup b.val).getD 0) ∧
     (∀ (m : Fin 24) (x : RxMailbox), s.boxes[m] = .rx x →
       (∀ i : Fin 32, readByte s (.mailbox m ⟨0x20 + i, by omega⟩) = x.content.payload[i] ∧
         readByte s (.mailbox m ⟨0x60 + i, by omega⟩) = x.next.payload[i]) ∧
       ∀ b : Fin 128, (b < 0x20 ∨ 0x40 ≤ b) → b < 0x60 →
         readByte s (.mailbox m b) =
           ([(0x00, configCode (.rx x)), (0x01, x.state.code),
             (0x02, (if x.contentValid then 1 else 0) + (if x.nextPresent then 2 else 0) + (if x.overrun then 4 else 0)),
             (0x03, x.lost), (0x04, x.lastHeard.extractLsb' 8 8), (0x05, x.lastHeard.extractLsb' 0 8),
             (0x10, x.content.source), (0x11, x.content.tag), (0x12, x.content.sequence), (0x13, x.content.length),
             (0x14, x.content.cycle.extractLsb' 8 8), (0x15, x.content.cycle.extractLsb' 0 8), (0x40, x.next.source),
             (0x41, x.next.tag), (0x42, x.next.sequence), (0x43, x.next.length), (0x44, x.next.cycle.extractLsb' 8 8),
             (0x45, x.next.cycle.extractLsb' 0 8)].lookup b.val).getD 0))

/-- The record layouts of window space: the ten parameter bytes, the host points, the eleven counters, the point status, the
cause marks, the fault record and the sync record, the acceptance and node entries, the bank headers and entries, each field
by its place, high bytes first, with 0 where there is no field. And the code tables: RESULT, the link state, the shadow state,
the states of TX and RX mailboxes, the last outcomes, the states of a node entry, the configuration codes, the KIND bytes of
frames and entries, and the bits of the fourteen flags (R7, R117, R175, R181, R183, R185 to R189). -/
def Obligations.LayoutsAndCodes : Prop :=
  (∀ s : State,
     let bit (b : Bool) (value : Nat) : Nat := if b then value else 0
     let high (w : Word) : Byte := w.extractLsb' 8 8
     let low (w : Word) : Byte := w.extractLsb' 0 8
     (∀ i : Fin 10, readByte s (.param i) =
       [s.params.role, s.params.address, high s.params.div, low s.params.div, s.params.om, s.params.cm, s.params.es,
         s.params.syncTolerance, s.params.syncLossLimit, s.params.retryLimit][i]) ∧
     (∀ n : Fin 4,
       (readByte s (.point n 0)).toNat = bit s.points[n].enabled 1 ∧
       (readByte s (.point n 1)).toNat = bit s.points[n].repeats 1 ∧
       (readByte s (.point n 2)).toNat = s.points[n].offset.toNat / 256 ∧
       (readByte s (.point n 3)).toNat = s.points[n].offset.toNat % 256) ∧
     (∀ i : Fin 11, readByte s (.counter i) = counterValue
       ([Counter.crcErr, .charErr, .escErr, .truncErr, .lenErr, .formatErr, .csMissed, .slotSkipped, .collisions, .stray,
         .unrouted][i]) s) ∧
     (readByte s (.status 5)).toNat = s.irq.pointStatus.toNat ∧
     (readByte s (.status 6)).toNat =
       bit s.irq.causes.missed 1 + bit s.irq.causes.tolerance 2 + bit s.irq.causes.lost 4 + bit s.irq.causes.numberJump 8 ∧
     (readByte s (.status 7)).toNat =
       bit s.irq.causes.swap 1 + bit s.irq.causes.mismatch 2 + bit s.irq.causes.conflict 16 + bit s.irq.causes.csBlocked 32 ∧
     (readByte s (.status 8)).toNat = bit s.irq.fault.present 1 + bit s.irq.fault.multiple 2 ∧
     (readByte s (.status 9)).toNat = s.irq.fault.address.toNat / 256 ∧
     (readByte s (.status 10)).toNat = s.irq.fault.address.toNat % 256 ∧
     (s.sync.missed < 256 → (readByte s (.status 11)).toNat = s.sync.missed) ∧
     (DeviationOk s → (readByte s (.status 12)).toInt = s.sync.deviation) ∧
     readByte s (.status 13) = s.sync.id ∧ readByte s (.status 14) = high s.sync.length ∧
     readByte s (.status 15) = low s.sync.length ∧
     (∀ (n : Fin 16) (b : Fin 4), readByte s (.acceptance n b) =
       [s.accept[n].valid, s.accept[n].tag, s.accept[n].source, s.accept[n].mailbox][b]) ∧
     (∀ (n : Fin 16) (b : Fin 8), readByte s (.node n b) =
       [s.nodes[n].valid, s.nodes[n].address, BitVec.ofNat 8 s.nodes[n].threshold, s.nodes[n].state.code,
         BitVec.ofNat 8 s.nodes[n].misses, high s.nodes[n].lastHeard, low s.nodes[n].lastHeard, 0][b]) ∧
     (∀ (bank : BankName) (b : Fin 4), readByte s (.header bank b) =
       [(bankOf bank s).id, high (bankOf bank s).length, low (bankOf bank s).length, (bankOf bank s).count][b]) ∧
     (∀ (bank : BankName) (i : Fin 32) (b : Fin 16),
       let e : Entry := (bankOf bank s).entries[i]
       readByte s (.entry bank i b) =
         ([high e.start, low e.start, high e.window, low e.window, e.kind, e.exponent, e.phase, e.mailbox,
           e.source][b.val]?).getD 0)) ∧
  ([ResultCode.ok, .pending, .unknownCmd, .badState, .badArg, .notReady, .duplicate, .queueFull, .inFlight, .badBank,
     .badParam].map ResultCode.code = [0x00, 0x01, 0x02, 0x03, 0x04, 0x05, 0x06, 0x07, 0x08, 0x09, 0x0A] ∧
   [LinkState.off, .starting, .listen, .align, .running, .stopping].map (fun l => l.code.toNat) = [0, 1, 2, 3, 4, 5] ∧
   [ShadowState.idle, .validating, .armed].map (fun x => x.code.toNat) = [0, 1, 2] ∧
   [TxState.free, .loaded, .queued, .locked].map TxState.code = [0, 1, 2, 3] ∧
   [RxState.empty, .full, .held].map RxState.code = [0, 1, 2] ∧
   [LastOutcome.none, .sent, .collided, .blocked, .oversize, .dropped].map LastOutcome.code = [0, 1, 2, 3, 4, 5] ∧
   [NodeState.unseen, .present, .late, .absent].map NodeState.code = [0, 1, 2, 3] ∧
   (∀ r : RxMailbox, configCode (.rx r) = match r.policy with
     | .keep => 0x00
     | .overwrite => 0x01) ∧
   (∀ b : TxMailbox, configCode (.tx b) = match b.mode with
     | .scheduled false => 0x10
     | .scheduled true => 0x11
     | .event => 0x12) ∧
   [FrameKind.cycleStart, .slotData, .eventData].map FrameKind.code = [0x01, 0x02, 0x03] ∧
   (∀ b : Byte, frameKind? b = [none, some .cycleStart, some .slotData, some .eventData].getD b.toNat none) ∧
   (∀ b : Byte, entryKind? b = [none, some .transmit, some .receive, some .openWindow].getD b.toNat none) ∧
   [Flag.cycle, .point, .mbx, .event, .sync, .link, .bank, .cmd, .node, .lineErr, .collision, .slot, .overrun,
     .winFault].map Flag.bit = [0, 1, 2, 3, 4, 5, 6, 7, 8, 9, 10, 11, 12, 13])

/-- Who may write window space: for each collection, when a host write is taken. A write that a collection takes and stores
reads back as the bits its field keeps: the low bit of a point's enable and mode, six bits of its offset's high byte, every
bit elsewhere. Every other byte of window space reads as before. And of the state outside window space nothing changes: a
write to a host point leaves its fired mark, one to a mailbox changes its staging alone, and the selector of the active bank,
the shadow, the timer, the slots, the queue, the flags and the command unit stay (R35, R44, R71, R96, R125, R175, R183). -/
def Obligations.WindowWrites : Prop :=
  (∀ (v : Byte) (s : State),
     (∀ i, (writeByte (.param i) v s).isSome = true ↔ s.link.state = .off ∧ s.cmd.inFlight ≠ some .start) ∧
     (∀ n b, (writeByte (.point n b) v s).isSome = true) ∧
     (∀ i, writeByte (.counter i) v s = none) ∧
     (∀ b, (writeByte (.status b) v s).isSome = true) ∧
     (∀ b, writeByte (.queueView b) v s = none) ∧
     (∀ n b, (writeByte (.acceptance n b) v s).isSome = true) ∧
     (∀ bank b, (writeByte (.header bank b) v s).isSome = true ↔ bank ≠ s.sched.active ∧ s.sched.shadow = .idle) ∧
     (∀ n (b : Fin 8), (writeByte (.node n b) v s).isSome = true ↔ b ≠ 7) ∧
     (∀ bank i (b : Fin 16), (writeByte (.entry bank i b) v s).isSome = true ↔
       bank ≠ s.sched.active ∧ s.sched.shadow = .idle ∧ b.val ≤ 8) ∧
     (∀ (m : Fin 24) (b : Fin 128), (writeByte (.mailbox m b) v s).isSome = true ↔
       ∃ t, s.boxes[m] = .tx t ∧ t.pendingCommit = false ∧ (b = 0x40 ∨ b = 0x41 ∨ b = 0x43 ∨ 0x60 ≤ b.val)) ∧
     writeByte .outside v s = none) ∧
  (∀ (w : WindowByte) (v : Byte) (s t : State), writeByte w v s = some t →
     (∀ b, w ≠ .status b) → (∀ n b, w ≠ .node n b) →
     readByte t w = v &&& (match w with
       | .point _ b => if b.val ≤ 1 then 0x01 else if b.val = 2 then 0x3F else 0xFF
       | _ => 0xFF) ∧
     ∀ other, other ≠ w → readByte t other = readByte s other) ∧
  (∀ (w : WindowByte) (v : Byte) (s t : State), writeByte w v s = some t → (∀ b, w ≠ .status b) →
     t = { s with
       params := t.params, points := t.points, sched := { s.sched with bankA := t.sched.bankA, bankB := t.sched.bankB }
       boxes := t.boxes, accept := t.accept, nodes := t.nodes } ∧
     (∀ n : Fin 4, t.points[n].fired = s.points[n].fired) ∧
     (∀ (m : Fin 24) (b : TxMailbox), s.boxes[m] = .tx b → ∃ staging, t.boxes[m] = .tx { b with staging := staging }) ∧
     (∀ (m : Fin 24) (x : RxMailbox), s.boxes[m] = .rx x → t.boxes[m] = .rx x))

/-- A write to a status byte clears the marks whose written bit is 1 and leaves the others; bit 0 of the fault record's byte
clears the whole record; the value bytes do not change; nothing else of window space changes, and no flag. A write to any of
the seven field bytes of a node entry returns it to UNSEEN with miss count 0 and keeps its last-heard cycle; the valid byte,
the address and the threshold also store their value, a threshold of 0 as 1 and above 15 as 15 (R144, R146, R162, R165,
R186). -/
def Obligations.StatusAndNodeTableWrites : Prop :=
  (∀ (b : Fin 16) (v : Byte) (s : State), ∃ t, writeByte (.status b) v s = some t ∧
     t = { s with irq := t.irq } ∧ t.irq.flags = s.irq.flags ∧ t.irq.enables = s.irq.enables ∧
     (b.val < 8 ∨ (b = 8 ∧ v.getLsbD 0 = false) →
       readByte t (.status b) = readByte s (.status b) &&& ~~~v ∧
       ∀ other, other ≠ .status b → readByte t other = readByte s other) ∧
     (b = 8 → v.getLsbD 0 = true →
       t.irq = { s.irq with fault := { present := false, multiple := false, address := 0 } }) ∧
     (9 ≤ b.val → t = s)) ∧
  (∀ (n : Fin 16) (b : Fin 8) (v : Byte) (s : State), b ≠ 7 →
     writeByte (.node n b) v s = some { s with nodes := put s.nodes n { s.nodes[n] with
       valid := if b = 0 then v else s.nodes[n].valid
       address := if b = 1 then v else s.nodes[n].address
       threshold := if b = 2 then (if v = 0 then 1 else if 15 < v.toNat then 15 else v.toNat) else s.nodes[n].threshold
       state := .unseen
       misses := 0 } })

/-- A write to IFLG0 or IFLG1 clears each flag of that register whose written bit is 1 and changes nothing else. A write to
IEN0 or IEN1 stores that register's enables and changes nothing else; a read returns them; no other command but a hardware
reset, which clears them, changes one. The request line is asserted exactly when some flag and its enable are both set (R158,
R160, R161). -/
def Obligations.FlagsEnablesAndRequestLine : Prop :=
  (∀ (r : FlagRegister) (v : Byte) (s : State), ∃ t, exec (.iflgWrite r v) s = .next t ∧
     t = { s with irq := { s.irq with flags := t.irq.flags } } ∧
     ∀ f : Flag, flagSet f t = (flagSet f s && !((f.bit < 8 ↔ r = .reg0) && v.getLsbD (f.bit % 8)))) ∧
  ((∀ (r : FlagRegister) (v : Byte) (s : State), ∃ t, exec (.ienWrite r v) s = .next t ∧
     t = { s with irq := { s.irq with enables := t.irq.enables } } ∧
     ∀ f : Flag, t.irq.enables.getLsbD f.bit =
       if f.bit < 8 ↔ r = .reg0 then v.getLsbD (f.bit % 8) else s.irq.enables.getLsbD f.bit) ∧
   (∀ s : State, readRegister 0x0B s = s.irq.enables.extractLsb' 0 8 ∧
     readRegister 0x0C s = 0#2 ++ s.irq.enables.extractLsb' 8 6) ∧
   (∀ (c : Instr) (s t : State), c.wellFormed = true → exec c s = .next t → (∀ r v, c ≠ .ienWrite r v) →
     (c = .hardwareReset → t.irq.enables = 0) ∧ (c ≠ .hardwareReset → t.irq.enables = s.irq.enables))) ∧
  (∀ s : State, irqAsserted s = true ↔ ∃ f : Flag, flagSet f s = true ∧ s.irq.enables.getLsbD f.bit = true)

/-- Reads and writes of the direct registers. A read of POS_L returns the position's low byte and latches bits 13 to 8 of the
position and the cycle number; POS_H, CYC_L and CYC_H then read the latched values; no other command but a hardware reset,
which leaves 0, changes the snapshot. ARG0 and ARG1 store any value, in flight or not; a register whose access is read, and an
address that holds no register, take no effect. Live reads: LSTAT by its fields, CMDSTAT's BUSY and CMD_LOST, the flags, the
result of the last completion, and 0 at an address that holds no register (R171, R172, R176, R183). -/
def Obligations.DirectRegisters : Prop :=
  ((∀ s : State, s.timer.position < 0x4000 → ∃ t, exec .posLRead s = .next t ∧
     t = { s with win := { s.win with
       readData := some (BitVec.ofNat 8 s.timer.position)
       snapshotHigh := BitVec.ofNat 6 (s.timer.position / 256)
       snapshotCycle := s.timer.cycle } } ∧
     (readRegister 0x0E t).toNat = s.timer.position / 256 ∧
     readRegister 0x10 t ++ readRegister 0x0F t = s.timer.cycle) ∧
   (∀ (c : Instr) (s t : State), exec c s = .next t → c ≠ .posLRead →
     (c = .hardwareReset → t.win.snapshotHigh = 0 ∧ t.win.snapshotCycle = 0) ∧
     (c ≠ .hardwareReset → t.win.snapshotHigh = s.win.snapshotHigh ∧ t.win.snapshotCycle = s.win.snapshotCycle))) ∧
  (∀ (v : Byte) (s : State),
     exec (.registerWrite 0x01 v) s = .next { s with cmd := { s.cmd with arg0 := v } } ∧
     exec (.registerWrite 0x02 v) s = .next { s with cmd := { s.cmd with arg1 := v } } ∧
     (∀ a : BusAddress, a ∈ [0x03#5, 0x04, 0x08, 0x0D, 0x0E, 0x0F, 0x10, 0x12] ∨ 0x13 ≤ a.toNat →
       exec (.registerWrite a v) s = .next s) ∧
     (∀ a : BusAddress, 0x13 ≤ a.toNat → readRegister a s = 0) ∧
     readRegister 0x00 s = s.cmd.code ∧ readRegister 0x01 s = s.cmd.arg0 ∧ readRegister 0x02 s = s.cmd.arg1 ∧
     readRegister 0x03 s = s.cmd.result.code ∧ readRegister 0x04 s = s.cmd.detail ∧
     readRegister 0x12 s = s.cmd.detailIdx ∧
     (readRegister 0x08 s).toNat = s.link.state.code.toNat + (if s.params.role = 1 then 8 else 0) +
       (if s.link.silent then 16 else 0) + (if s.sched.active = .b then 32 else 0) + 64 * s.sched.shadow.code.toNat ∧
     readRegister 0x09 s = s.irq.flags.extractLsb' 0 8 ∧ readRegister 0x0A s = 0#2 ++ s.irq.flags.extractLsb' 8 6 ∧
     readRegister 0x0D s = BitVec.ofNat 8 s.timer.position ∧
     (readRegister 0x11 s).toNat = (if s.cmd.inFlight.isSome then 1 else 0) + (if s.cmd.lost then 2 else 0))

/-! ### The line and the frame assembly -/

/-- The line outside OFF: a start bit confirmed on an idle line makes it busy, stops the gap timer and returns the idle time,
the silence count and the head's backoff count to 0; a line held low after a stop-bit error becomes idle when it is high
again. While SENDING, a character heard is judged as readback alone: the value sent lets the next character begin, another
value or a stop-bit error is a collision, and the frame assembly and the counters stay. The outputs: driver enable is asserted
exactly while SENDING, transmit data is high otherwise, IRQ is low exactly while a flag and its enable are set; the data lines
carry the register read while an access is a read, which is the byte that the model records of a WDATA or POS_L read (log
entry 7), and are undriven while chip select or the read strobe is deasserted or both strobes are asserted; and held in reset
all are inactive and the data lines undriven (R1, R3, R4, R12, R13, R18, R74, R112, R161, R171, R190). -/
def Obligations.LineAndOutputs : Prop :=
  (∀ s : State, s.link.state ≠ .off →
     (s.line.level = .idle → exec .startBitConfirmed s = .next { s with
       line := { level := .character, idleTime := 0, ctIdle := false }
       link := { s.link with silence := 0 }
       rx := { s.rx with gap := none }
       queue := { s.queue with wait := s.queue.wait.map (fun _ => 0) } }) ∧
     (s.line.level = .heldLow →
       exec .lineHighAfterStopBitError s = .next { s with line := { s.line with level := .idle, idleTime := 0 } })) ∧
  (∀ (s : State) (x : Transmission) (sent : Byte), s.tx = some x → s.link.state ≠ .off → s.line.level = .character →
     x.collided = false → x.chars[x.index]? = some sent →
     let heard (y : Transmission) : State :=
       { s with line := { s.line with level := .idle, idleTime := 0 }, tx := some y }
     exec (.characterComplete sent) s = .next (heard { x with index := x.index + 1 }) ∧
     (∀ v, v ≠ sent → exec (.characterComplete v) s = .next (heard { x with collided := true })) ∧
     exec .stopBitError s = .next
       { s with line := { s.line with level := .heldLow }, tx := some { x with collided := true } }) ∧
  (∀ (bus : BusPort) (s : State),
     ((outputs bus s).de = true ↔ s.tx ≠ none) ∧ (s.tx = none → (outputs bus s).txd = none) ∧
     (∀ x ∈ s.tx, ∀ c, x.chars[x.index]? = some c → (outputs bus s).txd = some c) ∧
     ((outputs bus s).irqLow = true ↔ ∃ f : Flag, flagSet f s = true ∧ s.irq.enables.getLsbD f.bit = true) ∧
     (bus.select = true ∧ bus.read = true ∧ bus.write = false →
       (outputs bus s).data = some (if bus.address = 0x07 then readWindow s.win.pointer s else readRegister bus.address s)) ∧
     (bus.select = false ∨ bus.read = false ∨ bus.write = true → (outputs bus s).data = none)) ∧
  (∀ s : State,
     let read (a : BusAddress) : BusPort := { select := true, read := true, write := false, address := a }
     (after .wdataRead s).win.readData = (outputs (read 0x07) s).data ∧
       (after .posLRead s).win.readData = (outputs (read 0x0D) s).data) ∧
  Outputs.inReset = { txd := none, de := false, irqLow := false, data := none }

/-- A good character in the frame assembly. In HUNT all but OM are discarded and OM starts an assembly, of which a RECEIVE
slot that awaits is told. In IN_FRAME a plain byte is appended, ES leads to ESCAPED, OM abandons the frame with TRUNC_ERR and
starts a new one, and CM ends a frame that fails a check with that check's error. In ESCAPED a mark's complement appends that
mark, OM abandons with ESC_ERR and starts anew, and any other value abandons with ESC_ERR. A byte beyond 40 abandons with
LEN_ERR. Each character counts and starts the gap timer; the line becomes idle (R3, R15, R16, R17, R19, R21). -/
def Obligations.CharacterByAssemblyState : Prop :=
  (∀ (v : Byte) (s : State), WaitOk s → s.link.state ≠ .off → s.line.level = .character → s.tx = none →
     let heard (r : Receiver) : State :=
       { s with line := { s.line with level := .idle, idleTime := 0 }, rx := r }
     (s.rx.assembly = .hunt → v ≠ s.params.om → exec (.characterComplete v) s = .next (heard s.rx)) ∧
     (s.rx.assembly = .hunt → v = s.params.om → exec (.characterComplete v) s = .next
       { heard { assembly := .inFrame, buffer := [], count := 1, gap := some 0 } with
         seq := { s.seq with slot := s.seq.slot.map Slot.opened } }) ∧
     (s.rx.assembly = .inFrame → isMark s.params v = false → s.rx.buffer.length < 40 →
       exec (.characterComplete v) s = .next (heard
         { assembly := .inFrame, buffer := s.rx.buffer ++ [v], count := s.rx.count + 1, gap := some 0 })) ∧
     (s.rx.assembly = .inFrame → v = s.params.es → v ≠ s.params.om → v ≠ s.params.cm →
       exec (.characterComplete v) s = .next (heard
         { assembly := .escaped, buffer := s.rx.buffer, count := s.rx.count + 1, gap := some 0 })) ∧
     (∀ mark, isMark s.params mark = true → s.rx.assembly = .escaped → v = ~~~mark → s.rx.buffer.length < 40 →
       exec (.characterComplete v) s = .next (heard
         { assembly := .inFrame, buffer := s.rx.buffer ++ [mark], count := s.rx.count + 1, gap := some 0 }))) ∧
  (∀ (v : Byte) (s : State), WaitOk s → s.link.state ≠ .off → s.line.level = .character → s.tx = none →
     (∀ sl ∈ s.seq.slot, sl.follows = false) →
     let lost (k : Counter) : State := { s with
       line := { s.line with level := .idle, idleTime := 0 }
       rx := { assembly := .hunt, buffer := [], count := 0, gap := none }
       irq := lineErrorIn k s.irq }
     let reopened (k : Counter) : State := { lost k with
       rx := { assembly := .inFrame, buffer := [], count := 1, gap := some 0 }
       seq := { s.seq with slot := s.seq.slot.map Slot.opened } }
     (s.rx.assembly = .inFrame → isMark s.params v = false → 40 ≤ s.rx.buffer.length →
       exec (.characterComplete v) s = .next (lost .lenErr)) ∧
     (s.rx.assembly = .inFrame → v = s.params.om → exec (.characterComplete v) s = .next (reopened .truncErr)) ∧
     (s.rx.assembly = .inFrame → v = s.params.cm → v ≠ s.params.om → ∀ k, checkFrame s.rx.buffer = .invalid k →
       exec (.characterComplete v) s = .next (lost k)) ∧
     (s.rx.assembly = .escaped → isMark s.params (~~~v) = true → 40 ≤ s.rx.buffer.length →
       exec (.characterComplete v) s = .next (lost .lenErr)) ∧
     (s.rx.assembly = .escaped → isMark s.params (~~~v) = false → v ≠ s.params.om →
       exec (.characterComplete v) s = .next (lost .escErr)) ∧
     (s.rx.assembly = .escaped → isMark s.params (~~~v) = false → v = s.params.om →
       exec (.characterComplete v) s = .next (reopened .escErr)))

/-- An assembly abandoned, by a stop-bit error with CHAR_ERR, which holds the line busy; by the gap timer's second CT with
TRUNC_ERR; or, while a RECEIVE slot follows the frame, by a good character: a byte beyond 40, a closing mark on a frame that
fails a check, a character after ES that is no mark's complement, or an opening mark, which starts a new assembly. A RECEIVE
slot that follows the frame goes back to AWAITING, and to RECEIVING again with the new assembly, or, when extended, closes
with MISSED. In HUNT a stop-bit error is discarded (R1, R3, R15 to R19, R21, R63, R66). -/
def Obligations.AssemblyAbandoned : Prop :=
  (∀ s : State, s.link.state ≠ .off → s.tx = none →
    let abandons (c : Instr) (k : Counter) (l : LineState) : Prop :=
      let lost : State := { s with
        line := l
        rx := { assembly := .hunt, buffer := [], count := 0, gap := none }
        irq := lineErrorIn k s.irq }
      ((∀ sl ∈ s.seq.slot, sl.follows = false) → exec c s = .next lost) ∧
      (∀ sl, s.seq.slot = some sl → sl.body = .receive .receiving false →
        exec c s = .next { lost with seq := { s.seq with slot := some { sl with body := .receive .awaiting false } } }) ∧
      (∀ sl, s.seq.slot = some sl → sl.body = .receive .receiving true →
        exec c s = .next (nodeMissed sl.source { lost with
          seq := { s.seq with slot := none }, queue := { s.queue with wait := none, turnedAway := false } }))
    (s.line.level = .character → s.rx.assembly ≠ .hunt →
      abandons .stopBitError .charErr { s.line with level := .heldLow }) ∧
    (s.line.level = .character → s.rx.assembly = .hunt →
      exec .stopBitError s = .next { s with line := { s.line with level := .heldLow } }) ∧
    (s.rx.gap = some 1 → s.rx.assembly ≠ .hunt → abandons .gapTimerExpires .truncErr s.line)) ∧
  (∀ (v : Byte) (s : State) (sl : Slot) (extended : Bool), WaitOk s → s.link.state ≠ .off → s.line.level = .character →
     s.tx = none → s.seq.slot = some sl → sl.body = .receive .receiving extended →
     let lost (k : Counter) : State := { s with
       line := { s.line with level := .idle, idleTime := 0 }
       rx := { assembly := .hunt, buffer := [], count := 0, gap := none }
       irq := lineErrorIn k s.irq }
     let ended (k : Counter) : State :=
       if extended then nodeMissed sl.source { lost k with
         seq := { s.seq with slot := none }, queue := { s.queue with wait := none, turnedAway := false } }
       else { lost k with seq := { s.seq with slot := some { sl with body := .receive .awaiting false } } }
     let reopened (k : Counter) : State := { ended k with
       rx := { assembly := .inFrame, buffer := [], count := 1, gap := some 0 }
       seq := { s.seq with slot := if extended then none else some sl } }
     (s.rx.assembly = .inFrame → isMark s.params v = false → 40 ≤ s.rx.buffer.length →
       exec (.characterComplete v) s = .next (ended .lenErr)) ∧
     (s.rx.assembly = .inFrame → v = s.params.om → exec (.characterComplete v) s = .next (reopened .truncErr)) ∧
     (s.rx.assembly = .inFrame → v = s.params.cm → v ≠ s.params.om → ∀ k, checkFrame s.rx.buffer = .invalid k →
       exec (.characterComplete v) s = .next (ended k)) ∧
     (s.rx.assembly = .escaped → isMark s.params (~~~v) = true → 40 ≤ s.rx.buffer.length →
       exec (.characterComplete v) s = .next (ended .lenErr)) ∧
     (s.rx.assembly = .escaped → isMark s.params (~~~v) = false → v ≠ s.params.om →
       exec (.characterComplete v) s = .next (ended .escErr)) ∧
     (s.rx.assembly = .escaped → isMark s.params (~~~v) = false → v = s.params.om →
       exec (.characterComplete v) s = .next (reopened .escErr)))

/-- The end-of-frame checks pass exactly the inner bytes of frames: a run of bytes is a valid frame f when, and only when, it
is f's header, payload and CRC, the payload is at most 32 bytes, and a cycle-start frame has its form (R7, R10, R19). -/
def Obligations.ChecksPassExactlyFrames : Prop :=
  ∀ (bytes : List Byte) (f : Frame),
    checkFrame bytes = .valid f ↔
      bytes = f.inner ∧ f.payload.length ≤ 32 ∧
        (f.kind = .cycleStart → f.payload.length = 5 ∧ f.dst = 255 ∧ f.csId ≠ 0 ∧
          64 ≤ f.csLength.toNat ∧ f.csLength.toNat ≤ 16383)

/-- What a closing mark counts, by the first check of R19 that fails: LEN_ERR below 8 bytes and where LEN is above 32 or does
not agree with the number of bytes; then CRC_ERR where the CRC of header and payload is not the two last bytes; then
FORMAT_ERR where KIND is not 1 to 3, and where a cycle-start frame has another LEN than 5, another DST than 255, schedule id
0, or a cycle length outside 64 to 16383. The CRC is that of R10: a register of 16 bits from 0xFFFF, each bit of each byte
shifted in from the most significant, with 0x1021; the nine bytes 0x31 to 0x39 give 0x29B1 (R10, R19). -/
def Obligations.FailedFrameCounted : Prop :=
  (∀ bytes : List Byte,
     let byte (i : Nat) : Byte := bytes.getD i 0
     let len := (byte 5).toNat
     let crcMatches := crc (bytes.take (6 + len)) = byte (6 + len) ++ byte (7 + len)
     let cycleLength : Word := byte 9 ++ byte 10
     (bytes.length < 8 → checkFrame bytes = .invalid .lenErr) ∧
     (8 ≤ bytes.length → 32 < len ∨ bytes.length ≠ 8 + len → checkFrame bytes = .invalid .lenErr) ∧
     (len ≤ 32 → bytes.length = 8 + len → ¬crcMatches → checkFrame bytes = .invalid .crcErr) ∧
     (len ≤ 32 → bytes.length = 8 + len → crcMatches → byte 2 ∉ [0x01#8, 0x02, 0x03] →
       checkFrame bytes = .invalid .formatErr) ∧
     (len ≤ 32 → bytes.length = 8 + len → crcMatches → byte 2 = 0x01 →
       len ≠ 5 ∨ byte 0 ≠ 255 ∨ byte 8 = 0 ∨ cycleLength.toNat < 64 ∨ 16383 < cycleLength.toNat →
       checkFrame bytes = .invalid .formatErr)) ∧
  (crc [] = 0xFFFF ∧
   (∀ (bytes : List Byte) (b : Byte), crc (bytes ++ [b]) =
     (List.range 8).foldl (fun (c : Word) i =>
       if c.getLsbD 15 != b.getLsbD (7 - i) then (c <<< 1) ^^^ 0x1021 else c <<< 1) (crc bytes)) ∧
   crc [0x31, 0x32, 0x33, 0x34, 0x35, 0x36, 0x37, 0x38, 0x39] = 0x29B1)

/-- What one node sends another hears: with marks that START accepts, a receiver in HUNT on an idle line that takes the
characters of a frame up to its closing mark holds the frame's inner bytes, and has counted all its characters but that mark.
The stuffed length is the number of characters of the frame; it runs from 10 + LEN to 18 + 2 × LEN, and for a cycle-start
frame from 15 to 28 (R6, R7, R9, R11, R15, R16, R17). -/
def Obligations.SentFrameIsHeard : Prop :=
  (∀ (f : Frame) (s : State), paramFault s.params = none → f.payload.length ≤ 32 → s.link.state ≠ .off → s.tx = none →
     s.line.level = .idle → s.rx.assembly = .hunt →
     let t := hearAll (f.characters s.params).dropLast s
     t.rx = { assembly := .inFrame, buffer := f.inner, count := f.stuffedLength s.params - 1, gap := some 0 } ∧
       t.line.level = .idle ∧ t.irq.counters = s.irq.counters ∧ (f.characters s.params).getLast? = some s.params.cm) ∧
  (∀ (p : Params) (f : Frame),
     (f.characters p).length = f.stuffedLength p ∧ 10 + f.payload.length ≤ f.stuffedLength p ∧
       f.stuffedLength p ≤ 18 + 2 * f.payload.length ∧
       (f.payload.length = 5 → 15 ≤ f.stuffedLength p ∧ f.stuffedLength p ≤ 28))

/-! ### What a valid frame does -/

/-- A RECEIVE slot takes a valid frame: a SLOT_DATA frame from the expected source before the outcome is decided gives HEARD,
with delivery when it is addressed here, which raises the attention bit with MBX, or OVERRUN, as the delivery says, and NODE
with its change bit as HEARD says; any other counts STRAY, is not delivered, and decides MISSED in a slot extended on it (R60,
R63, R64, R66, R67, R127, R133, R151, R163). -/
def Obligations.ReceiveSlotTakesFrame : Prop :=
  ∀ (f : Frame) (s : State) (sl : Slot) (sub : ReceiveSub) (extended : Bool),
    ClosingMark f s → WaitOk s → s.link.state = .running → f.kind ≠ .cycleStart → s.seq.slot = some sl →
    sl.body = .receive sub extended →
    ∃ t, exec (.characterComplete s.params.cm) s = .next t ∧
      t.rx = { assembly := .hunt, buffer := [], count := 0, gap := none } ∧ t.line.level = .idle ∧ t.timer = s.timer ∧
      t.link = s.link ∧ t.sync = s.sync ∧ t.sched = s.sched ∧ t.accept = s.accept ∧ t.queue.entries = s.queue.entries ∧
      (sub ≠ .done ∧ f.kind = .slotData ∧ f.src = sl.source →
        t.seq = { s.seq with slot := if extended then none else some { sl with body := .receive .done false } } ∧
        t.irq.counters = s.irq.counters ∧ t.nodes = (nodeHeard sl.source s).nodes ∧
        t.irq.nodeChange = (nodeHeard sl.source s).irq.nodeChange ∧
        flagSet .node t = flagSet .node (nodeHeard sl.source s) ∧
        (¬ForThisNode f s → t.boxes = s.boxes ∧ t.irq.attention = s.irq.attention ∧
          flagSet .mbx t = flagSet .mbx s ∧ flagSet .overrun t = flagSet .overrun s) ∧
        (ForThisNode f s → ∀ m r, sl.mailbox.toNat = m.val → s.boxes[m] = .rx r →
          let out := r.take s.timer.cycle f
          t.boxes = put s.boxes m (.rx out.1) ∧
          t.irq.attention = s.irq.attention ||| (if out.2.attention then BitVec.twoPow 24 m.val else 0) ∧
          flagSet .mbx t = (flagSet .mbx s || out.2.attention) ∧
          flagSet .overrun t = (flagSet .overrun s || out.2.overrun))) ∧
      (¬(sub ≠ .done ∧ f.kind = .slotData ∧ f.src = sl.source) →
        t.boxes = s.boxes ∧ t.irq.counters = (countedIn .stray s.irq).counters ∧ t.irq.attention = s.irq.attention ∧
        flagSet .mbx t = flagSet .mbx s ∧ flagSet .overrun t = flagSet .overrun s ∧
        (sub = .receiving → extended = true → t.seq.slot = none ∧ t.nodes = (nodeMissed sl.source s).nodes ∧
          t.irq.nodeChange = (nodeMissed sl.source s).irq.nodeChange ∧
          flagSet .node t = flagSet .node (nodeMissed sl.source s)) ∧
        (sub = .receiving → extended = false →
          t.seq.slot = some { sl with body := .receive .awaiting false } ∧ t.nodes = s.nodes ∧
          flagSet .node t = flagSet .node s) ∧
        (sub ≠ .receiving → t.seq = s.seq ∧ t.nodes = s.nodes ∧ flagSet .node t = flagSet .node s))

/-- A delivery to an RX mailbox: a repeat of the latest stored frame changes the last-heard cycle alone; any other frame is
stored, replaces, or is discarded by state and policy, and tells the host by the attention bit, OVERRUN, the overrun mark or
the lost count (R128 to R133). -/
def Obligations.DeliveryByStateAndPolicy : Prop :=
  ∀ (cycle : Word) (f : Frame) (r : RxMailbox),
    let heard := { r with lastHeard := cycle }
    let new : RxBuffer := { source := f.src, tag := f.tag, sequence := f.seq, length := BitVec.ofNat 8 f.payload.length,
                            payload := Vector.ofFn (fun i => f.payload.getD i.val 0), cycle := cycle }
    let again (b : RxBuffer) : Prop := b.source = f.src ∧ b.sequence = f.seq
    let discarded := { heard with lost := if r.lost = 255 then 255 else r.lost + 1 }
    (r.nextPresent = true ∧ again r.next ∨ r.nextPresent = false ∧ r.contentValid = true ∧ again r.content →
      r.take cycle f = (heard, { attention := false, overrun := false })) ∧
    (¬(r.nextPresent = true ∧ again r.next ∨ r.nextPresent = false ∧ r.contentValid = true ∧ again r.content) →
      (r.state = .empty → r.take cycle f =
        ({ heard with content := new, contentValid := true, state := .full }, { attention := true, overrun := false })) ∧
      (r.state = .full → r.policy = .keep → r.take cycle f = (discarded, { attention := false, overrun := true })) ∧
      (r.state = .full → r.policy = .overwrite → r.take cycle f =
        ({ heard with content := new, contentValid := true, overrun := true }, { attention := true, overrun := true })) ∧
      (r.state = .held → r.nextPresent = false → r.take cycle f =
        ({ heard with next := new, nextPresent := true }, { attention := true, overrun := false })) ∧
      (r.state = .held → r.nextPresent = true → r.policy = .keep →
        r.take cycle f = (discarded, { attention := false, overrun := true })) ∧
      (r.state = .held → r.nextPresent = true → r.policy = .overwrite → r.take cycle f =
        ({ heard with next := new, overrun := true }, { attention := false, overrun := true })))

/-- Frames outside RECEIVE slots. In RUNNING, with an open window, an EVENT_DATA frame addressed here goes to the mailbox of
the lowest matching acceptance entry when that is an RX mailbox, and else counts UNROUTED; one addressed elsewhere is ignored.
Every other frame there, and every frame in a TRANSMIT slot or with no slot, is stray, counted when addressed here. Outside
RUNNING a frame that is no cycle-start frame is neither routed nor counted (R60, R74, R80, R83, R138, R139, R140, R142). -/
def Obligations.FramesOutsideReceiveSlots : Prop :=
  ∀ (f : Frame) (s : State), ClosingMark f s → WaitOk s → f.kind ≠ .cycleStart →
    (∀ sl ∈ s.seq.slot, ∀ sub extended, sl.body ≠ .receive sub extended) →
    let ended (boxes : Vector Mailbox 24) (irq : InterruptUnit) : State := { s with
      line := { s.line with level := .idle, idleTime := 0 }
      rx := { assembly := .hunt, buffer := [], count := 0, gap := none }
      boxes := boxes
      irq := irq }
    let answers (t : State) : Prop := exec (.characterComplete s.params.cm) s = .next t
    let inWindow := openWindowOpen s = true ∧ f.kind = .eventData
    (s.link.state ≠ .running → answers (ended s.boxes s.irq)) ∧
    (s.link.state = .running → ¬inWindow →
      answers (ended s.boxes (if ForThisNode f s then countedIn .stray s.irq else s.irq))) ∧
    (s.link.state = .running → inWindow → ¬ForThisNode f s → answers (ended s.boxes s.irq)) ∧
    (s.link.state = .running → inWindow → ForThisNode f s → (∀ n : Fin 16, ¬EntryMatches s.accept[n] f) →
      answers (ended s.boxes (countedIn .unrouted s.irq))) ∧
    (s.link.state = .running → inWindow → ForThisNode f s →
      ∀ n : Fin 16, EntryMatches s.accept[n] f → (∀ k : Fin 16, k < n → ¬EntryMatches s.accept[k] f) →
        ((∀ m : Fin 24, s.accept[n].mailbox.toNat = m.val → ∀ r, s.boxes[m] ≠ .rx r) →
          answers (ended s.boxes (countedIn .unrouted s.irq))) ∧
        (∀ (m : Fin 24) (r : RxMailbox), s.accept[n].mailbox.toNat = m.val → s.boxes[m] = .rx r →
          let out := r.take s.timer.cycle f
          answers (ended (put s.boxes m (.rx out.1)) { s.irq with
            flags := (s.irq.flags ||| (if out.2.overrun then 0x1000 else 0)) ||| (if out.2.attention then 0x0004 else 0)
            attention := s.irq.attention ||| (if out.2.attention then BitVec.twoPow 24 m.val else 0) })))

/-- A master that hears a valid cycle-start frame records a conflict: in RUNNING it sets SILENT, in STARTING the silence count
returns to 0; its timer, its banks, its link state and the rest of the sync record stay (R20, R74, R78, R84). -/
def Obligations.MasterConflict : Prop :=
  ∀ (f : Frame) (s : State), ClosingMark f s → f.kind = .cycleStart → s.params.role = 1 →
    s.link.state = .starting ∨ s.link.state = .running →
    ∃ t, exec (.characterComplete s.params.cm) s = .next t ∧
      t.link = { s.link with
        silent := s.link.state = .running || s.link.silent
        silence := if s.link.state = .starting then 0 else s.link.silence } ∧
      t.sync = { s.sync with id := f.csId, length := f.csLength } ∧ t.irq.causes = { s.irq.causes with conflict := true } ∧
      flagSet .link t = true ∧ t.timer = s.timer ∧ t.sched = s.sched ∧ t.tx = none ∧ t.boxes = s.boxes ∧
      t.irq.counters = s.irq.counters

/-- A follower in LISTEN starts its timer from a valid cycle-start frame: the position becomes the frame's character count,
the number and length become the frame's, the points at offsets 0 to N fire, with their status bits and POINT, the deviation
is 0, and the bank comparison sets the link state. Neither SYNC nor CYCLE is set, and no entry opens (R24, R30, R36, R37, R58,
R79, R80, R82, R84). -/
def Obligations.FollowerStartsFromListen : Prop :=
  ∀ (f : Frame) (s : State), ClosingMark f s → f.kind = .cycleStart → s.params.role ≠ 1 → s.link.state = .listen →
    s.seq.slot = none →
    let n := s.rx.count + 1
    let active := bankOf s.sched.active s
    let shadow := bankOf s.sched.active.other s
    let fires (k : Fin 4) : Bool := s.points[k].enabled && s.points[k].offset.toNat ≤ n
    ∃ t, exec (.characterComplete s.params.cm) s = .next t ∧
      t.timer = { position := n, cycle := f.csCycle, length := some f.csLength.toNat, csSeen := true } ∧
      t.sync = { missed := 0, deviation := 0, id := f.csId, length := f.csLength } ∧
      (∀ k : Fin 4, t.points[k] =
        if fires k then { s.points[k] with fired := true, enabled := s.points[k].repeats }
        else { s.points[k] with fired := false }) ∧
      (∀ k : Fin 4, t.irq.pointStatus.getLsbD k = (s.irq.pointStatus.getLsbD k || fires k)) ∧
      flagSet .point t = (flagSet .point s || (fires 0 || fires 1 || fires 2 || fires 3)) ∧
      t.seq.slot = none ∧ t.tx = none ∧ t.link.silent = s.link.silent ∧ flagSet .link t = true ∧
      flagSet .sync t = flagSet .sync s ∧ flagSet .cycle t = flagSet .cycle s ∧
      (NamesSchedule active f → t.link.state = .running ∧ t.sched = s.sched ∧ t.irq.causes = s.irq.causes) ∧
      (¬NamesSchedule active f → s.sched.shadow = .armed → NamesSchedule shadow f →
        t.link.state = .running ∧ t.sched = { s.sched with active := s.sched.active.other, shadow := .idle } ∧
        t.irq.causes = { s.irq.causes with swap := true } ∧ flagSet .bank t = true) ∧
      (¬NamesSchedule active f → ¬(s.sched.shadow = .armed ∧ NamesSchedule shadow f) →
        t.link.state = .align ∧ t.sched = s.sched ∧ t.irq.causes = { s.irq.causes with mismatch := true } ∧
        flagSet .bank t = true)

/-- A follower in ALIGN or RUNNING accepts a valid cycle-start frame: with N its character count, p the position and L the
length in force, an early boundary is taken when twice (p − N) is at least L; the position becomes N, the number and length
the frame's; the points of the offsets that the jump reaches fire, 0 to N after an early boundary and p + 1 to N without one,
with their status bits and POINT; the deviation is recorded within −128 to 127; a number other than the timer's sets
NUMBER_JUMP, a deviation beyond the tolerance TOLERANCE, and either sets SYNC; the missed count becomes 0; the bank comparison
sets the link state (R30 to R34, R36, R37, R79, R81 to R84). -/
def Obligations.FollowerResynchronises : Prop :=
  ∀ (f : Frame) (s : State) (length : Nat), ClosingMark f s → f.kind = .cycleStart → s.params.role ≠ 1 →
    s.link.state = .align ∨ s.link.state = .running → s.timer.length = some length →
    let n := s.rx.count + 1
    let p := s.timer.position
    let early : Bool := n ≤ p && length ≤ 2 * (p - n)
    let d : Int := if early then (p : Int) - length - n else (p : Int) - n
    let jump : Bool := f.csCycle != if early then s.timer.cycle + 1 else s.timer.cycle
    let beyond : Bool := s.params.syncTolerance.toNat < d.natAbs
    let active := bankOf s.sched.active s
    let shadow := bankOf s.sched.active.other s
    let fires (k : Fin 4) : Bool := s.points[k].enabled && s.points[k].offset.toNat ≤ n &&
      (early || !s.points[k].fired && p < s.points[k].offset.toNat)
    ∃ t, exec (.characterComplete s.params.cm) s = .next t ∧
      t.timer = { position := n, cycle := f.csCycle, length := some f.csLength.toNat, csSeen := true } ∧
      t.sync = { missed := 0, deviation := max (-128) (min 127 d), id := f.csId, length := f.csLength } ∧
      (∀ k : Fin 4, t.points[k] =
        if fires k then { s.points[k] with fired := true, enabled := s.points[k].repeats }
        else { s.points[k] with fired := !early && s.points[k].fired }) ∧
      (∀ k : Fin 4, t.irq.pointStatus.getLsbD k = (s.irq.pointStatus.getLsbD k || fires k)) ∧
      flagSet .point t = (flagSet .point s || (fires 0 || fires 1 || fires 2 || fires 3)) ∧
      t.irq.causes.numberJump = (s.irq.causes.numberJump || jump) ∧
      t.irq.causes.tolerance = (s.irq.causes.tolerance || beyond) ∧
      flagSet .sync t = (flagSet .sync s || jump || beyond) ∧ flagSet .cycle t = (flagSet .cycle s || early) ∧
      flagSet .link t = (flagSet .link s || t.link.state != s.link.state) ∧ t.link.silent = s.link.silent ∧
      (NamesSchedule active f → t.link.state = .running ∧ t.sched = s.sched) ∧
      (¬NamesSchedule active f → s.sched.shadow = .armed → NamesSchedule shadow f →
        t.link.state = .running ∧ t.sched = { s.sched with active := s.sched.active.other, shadow := .idle } ∧
        t.irq.causes.swap = true ∧ flagSet .bank t = true) ∧
      (¬NamesSchedule active f → ¬(s.sched.shadow = .armed ∧ NamesSchedule shadow f) →
        t.link.state = .align ∧ t.sched = s.sched ∧ (s.link.state = .running → t.seq.slot = none ∧
          t.irq.causes.mismatch = true ∧ flagSet .bank t = true))

/-- What a cycle-start frame that a follower accepts does to the schedule. After an early boundary in RUNNING with SILENT
clear, each TRANSMIT entry not yet reached, active in the ending cycle and with a LOADED mailbox, leaves that mailbox BLOCKED
with its attention bit, and counts SLOT_SKIPPED with SLOT and MBX; else nothing is accounted; and the open slot ends, a
RECEIVE slot undecided with MISSED. An entry that the jump then reaches at 28 may add its own slot, and as a TRANSMIT entry
what it does to its mailbox: that is stated apart. After a swap the next index is that of the first entry of the new bank
beyond N; with a slot still open, of the first from that slot's end on; a slot whose end the new length does not reach closes
with its window-end effect. The premise that entries start at 28 or later is a check of validation (R31, R46, R55, R57, R59,
R65). -/
def Obligations.EarlyBoundaryAndSwap : Prop :=
  (∀ (f : Frame) (s : State) (length : Nat), ClosingMark f s → f.kind = .cycleStart → s.params.role ≠ 1 →
     s.link.state = .align ∨ s.link.state = .running → s.timer.length = some length →
     let n := s.rx.count + 1
     n ≤ 28 → n ≤ s.timer.position → length ≤ 2 * (s.timer.position - n) → (∀ e ∈ scheduleOf s, 28 ≤ e.start.toNat) →
     let reached : Option Entry := (scheduleOf s).head?.filter (fun e => e.start.toNat == n)
     let mayOpen (m : Fin 24) : Bool := reached.any (fun e => e.kind == 0x01 && e.mailbox.toNat == m.val)
     let maySend : Bool := reached.any (fun e => e.kind == 0x01)
     let loaded (m : Nat) : Bool := match s.boxes.toList[m]? with
       | some (.tx b) => b.state == .loaded
       | _ => false
     let refused : List Entry :=
       if s.link.state = .running ∧ s.link.silent = false then
         ((scheduleOf s).drop s.seq.nextIndex).filter (fun e => s.timer.position < e.start.toNat && e.kind == 0x01 &&
           s.timer.cycle.toNat % 2 ^ e.exponent.toNat == e.phase.toNat && loaded e.mailbox.toNat)
       else []
     let names (m : Fin 24) : Bool := refused.any (fun e => e.mailbox.toNat == m.val)
     ∃ t, exec (.characterComplete s.params.cm) s = .next t ∧
       (reached = none → t.seq.slot = none ∧ t.tx = none) ∧
       (∀ (m : Fin 24) (b : TxMailbox), mayOpen m = false → s.boxes[m] = .tx b →
         t.boxes[m] = .tx (if names m then { b with lastOutcome := .blocked } else b)) ∧
       (∀ (m : Fin 24) (r : RxMailbox), s.boxes[m] = .rx r → t.boxes[m] = .rx r) ∧
       (∀ m : Fin 24, mayOpen m = false → t.irq.attention.getLsbD m = (s.irq.attention.getLsbD m || names m)) ∧
       (maySend = false →
         (counterValue .slotSkipped t).toNat = min 255 ((counterValue .slotSkipped s).toNat + refused.length) ∧
         flagSet .slot t = (flagSet .slot s || !refused.isEmpty) ∧ flagSet .mbx t = (flagSet .mbx s || !refused.isEmpty)) ∧
       (s.seq.slot = none → t.nodes = s.nodes) ∧
       (∀ sl, s.seq.slot = some sl →
         (sl.body = .transmit ∨ sl.body = .openWindow ∨ sl.body = .receive .done false → t.nodes = s.nodes) ∧
         (sl.body = .receive .awaiting false ∨ (∃ extended, sl.body = .receive .receiving extended) →
           t.nodes = (nodeMissed sl.source s).nodes))) ∧
  (∀ (f : Frame) (s : State), ClosingMark f s → f.kind = .cycleStart → s.params.role ≠ 1 →
     s.link.state = .listen ∨ (s.link.state = .align ∨ s.link.state = .running) ∧ s.timer.length ≠ none →
     let n := s.rx.count + 1
     let p := s.timer.position
     let active := bankOf s.sched.active s
     let shadow := bankOf s.sched.active.other s
     let fresh : List Entry := shadow.entries.toList.take shadow.count.toNat
     (∀ e ∈ scheduleOf s, 28 ≤ e.start.toNat) →
     ¬NamesSchedule active f → s.sched.shadow = .armed → NamesSchedule shadow f →
     ∃ t, exec (.characterComplete s.params.cm) s = .next t ∧
       (s.seq.slot = none →
         t.seq = { nextIndex := fresh.findIdx (fun e => n < e.start.toNat), slot := none } ∧ t.nodes = s.nodes) ∧
       (∀ sl, s.seq.slot = some sl → s.link.state ≠ .listen → ∀ length, s.timer.length = some length → n < sl.finish →
         p < n ∨ 2 * (p - n) < length →
         sl.body = .transmit ∨ sl.body = .openWindow ∨ sl.body = .receive .awaiting false ∨ sl.body = .receive .done false →
         (sl.finish < shadow.length.toNat →
           t.seq = { nextIndex := fresh.findIdx (fun e => sl.finish ≤ e.start.toNat), slot := some sl } ∧
             t.nodes = s.nodes) ∧
         (shadow.length.toNat ≤ sl.finish →
           t.seq = { nextIndex := fresh.findIdx (fun e => n < e.start.toNat), slot := none } ∧
             t.nodes = (if sl.body = .receive .awaiting false then nodeMissed sl.source s else s).nodes)))

/-- What an open slot does in RUNNING at the closing mark of a valid cycle-start frame, on a master and on a follower: it is
told before the frame acts. A RECEIVE slot in RECEIVING goes back to AWAITING, or, when extended, closes with MISSED, and the
frame then acts as on a slot that stood so before. Where the frame brings a master's conflict, or a resync without an early
boundary that reaches neither 28 nor the slot's end, that is all it does to the slot: any other slot stays, no mailbox and no
counter changes, and the node table hears the MISSED alone (R20, R63, R66, R78). -/
def Obligations.CycleStartInSlot : Prop :=
  ∀ (f : Frame) (s : State) (sl : Slot), ClosingMark f s → f.kind = .cycleStart → s.link.state = .running →
    s.seq.slot = some sl →
    let mark := Instr.characterComplete s.params.cm
    let closed : State := { s with
      seq := { s.seq with slot := none }, queue := { s.queue with wait := none, turnedAway := false } }
    (sl.body = .receive .receiving false →
      exec mark s = exec mark { s with seq := { s.seq with slot := some { sl with body := .receive .awaiting false } } }) ∧
    (sl.body = .receive .receiving true → exec mark s = exec mark (nodeMissed sl.source closed)) ∧
    (∀ length, s.timer.length = some length →
      let n := s.rx.count + 1
      let p := s.timer.position
      s.params.role = 1 ∨ NamesSchedule (bankOf s.sched.active s) f ∧ (p < n ∨ 2 * (p - n) < length) ∧ n < 28 ∧
        n < sl.finish ∧ (∀ e ∈ scheduleOf s, 28 ≤ e.start.toNat) →
      ∃ t, exec mark s = .next t ∧ t.link.state = .running ∧ t.boxes = s.boxes ∧ t.sched = s.sched ∧ t.tx = none ∧
        t.irq.counters = s.irq.counters ∧ t.irq.attention = s.irq.attention ∧ t.queue.entries = s.queue.entries ∧
        t.seq.nextIndex = s.seq.nextIndex ∧
        (sl.body = .receive .receiving false →
          t.seq.slot = some { sl with body := .receive .awaiting false } ∧ t.nodes = s.nodes ∧
            flagSet .node t = flagSet .node s) ∧
        (sl.body = .receive .receiving true →
          t.seq.slot = none ∧ t.nodes = (nodeMissed sl.source s).nodes ∧
            t.irq.nodeChange = (nodeMissed sl.source s).irq.nodeChange ∧
            flagSet .node t = flagSet .node (nodeMissed sl.source s)) ∧
        ((∀ extended, sl.body ≠ .receive .receiving extended) →
          t.seq.slot = some sl ∧ t.nodes = s.nodes ∧ flagSet .node t = flagSet .node s))

/-- A jump that reaches 28: a follower accepts a cycle-start frame of 28 characters, from LISTEN, by an early boundary, or
from a position below 28, with an entry at 28 at the next index and no slot open but one that the early boundary ends. In
RUNNING, with the entry active in the cycle that the resync gives and no swap, the entry opens: a RECEIVE slot, an open
window, or a TRANSMIT slot, which begins the frame of a LOADED mailbox when SILENT is clear and the frame fits, and gives
OVERSIZE when it does not. Else it is passed over: no slot and no frame. The next index is past it, but after a swap, which
places it anew. Where no ready bank matches, the opened slot closes again with the change to ALIGN while a frame that it began
goes on (log entry 11) (R31, R32, R55, R57, R58, R59, R61, R62, R82). -/
def Obligations.JumpReaches28 : Prop :=
  ∀ (f : Frame) (s : State) (length : Nat) (e : Entry), ClosingMark f s → f.kind = .cycleStart → s.params.role ≠ 1 →
    s.link.state = .listen ∨ (s.link.state = .align ∨ s.link.state = .running) ∧ s.timer.length = some length →
    s.rx.count + 1 = 28 →
    let p := s.timer.position
    let early : Bool := s.link.state != .listen && decide (28 ≤ p) && decide (length ≤ 2 * (p - 28))
    let first := if s.link.state = .listen ∨ early = true then 0 else s.seq.nextIndex
    let cycle := if early then s.timer.cycle + 1 else s.timer.cycle
    let active := bankOf s.sched.active s
    let shadow := bankOf s.sched.active.other s
    let swaps : Prop := ¬NamesSchedule active f ∧ s.sched.shadow = .armed ∧ NamesSchedule shadow f
    let opens : Prop := s.link.state = .running ∧ ¬swaps ∧ cycle.toNat % 2 ^ e.exponent.toNat = e.phase.toNat
    let slot (body : SlotBody) : Slot :=
      { index := first, start := 28, finish := 28 + e.window.toNat, mailbox := e.mailbox, source := e.source, body := body }
    s.link.state = .listen ∨ early = true ∨ p < 28 → s.seq.slot = none ∨ early = true →
    (scheduleOf s)[first]? = some e → e.start = 28 → e.kind = 0x01 ∨ e.kind = 0x02 ∨ e.kind = 0x03 →
    ∃ t, exec (.characterComplete s.params.cm) s = .next t ∧ t.timer.position = 28 ∧
      (¬swaps → t.seq.nextIndex = first + 1) ∧
      (¬opens → t.seq.slot = none ∧ t.tx = none ∧ (early = false → t.boxes = s.boxes ∧ t.nodes = s.nodes)) ∧
      (opens → NamesSchedule active f → t.link.state = .running ∧ t.seq.slot = some (slot (
        if e.kind = 0x01 then .transmit else if e.kind = 0x02 then .receive .awaiting false else .openWindow))) ∧
      (opens → ¬NamesSchedule active f → t.link.state = .align ∧ t.seq.slot = none) ∧
      (e.kind ≠ 0x01 → t.tx = none) ∧
      (opens → e.kind = 0x01 → ∀ (m : Fin 24) (b : TxMailbox), e.mailbox.toNat = m.val → s.boxes[m] = .tx b →
        let frame : Frame :=
          { dst := b.content.destination, src := s.params.address, kind := .slotData, tag := b.content.tag,
            seq := b.content.sequence, payload := b.content.payload.toList.take b.content.length.toNat }
        (s.link.silent = true ∨ b.state ≠ .loaded → t.tx = none) ∧
        (s.link.silent = false → b.state = .loaded → frame.stuffedLength s.params ≤ e.window.toNat →
          t.tx = some { requester := .slot m, chars := frame.characters s.params, index := 0, collided := false } ∧
          (early = false → t.boxes = put s.boxes m (.tx { b with state := .locked }))) ∧
        (s.link.silent = false → b.state = .loaded → e.window.toNat < frame.stuffedLength s.params →
          t.tx = none ∧ t.irq.attention.getLsbD m = true ∧ flagSet .slot t = true ∧ flagSet .mbx t = true ∧
          (early = false → t.boxes = put s.boxes m (.tx { b with lastOutcome := .oversize }))))

/-! ### The Cycle Timer, the slots and transmissions -/

/-- The end of a CT inside a cycle, away from a missed start at 28: the position advances by 1, and every enabled point there
whose fired mark is clear fires, losing its enable in ONE_SHOT mode, with its status bit and POINT; the cycle number, the
link, the sync record, the banks and the parameters stay. The end of a frame in STOPPING is left to its own statement (R26,
R29, R35, R36). -/
def Obligations.PositionAdvances : Prop :=
  ∀ (s : State) (length : Nat), s.timer.length = some length → s.timer.position + 1 < length →
    s.timer.position ≠ 27 ∨ s.params.role = 1 ∨ s.timer.csSeen = true → s.link.state ≠ .stopping ∨ FrameGoesOn s →
    let q := s.timer.position + 1
    let fires (k : Fin 4) : Bool := s.points[k].enabled && !s.points[k].fired && s.points[k].offset.toNat == q
    ∃ t, exec .positionReached s = .next t ∧ t.timer = { s.timer with position := q } ∧
      (∀ k : Fin 4, t.points[k] =
        if fires k then { s.points[k] with fired := true, enabled := s.points[k].repeats } else s.points[k]) ∧
      (∀ k : Fin 4, t.irq.pointStatus.getLsbD k = (s.irq.pointStatus.getLsbD k || fires k)) ∧
      (flagSet .point t = (flagSet .point s || (fires 0 || fires 1 || fires 2 || fires 3))) ∧
      t.link = s.link ∧ t.sync = s.sync ∧ t.sched = s.sched ∧ t.params = s.params ∧ t.accept = s.accept ∧
      t.irq.enables = s.irq.enables ∧ t.cmd = s.cmd ∧ t.win = s.win

/-- The counted reaching of 28. On a follower that has not seen a cycle start CS_MISSED and the missed count, up to its limit
(log entry 9), advance, MISSED and SYNC are set, and at the sync loss limit in ALIGN or RUNNING the link goes to LISTEN, the
timer stops, LOST and LINK are set, the open slot closes unaccounted, no entry opens and no point fires; short of it the
points and the entry at offset 28 are reached. With the mark set, or in the MASTER role, nothing is reported (R26, R29, R36,
R57, R85, R86). -/
def Obligations.WindowEndCheck : Prop :=
  (∀ (s : State) (length : Nat), s.timer.length = some length → 28 < length → s.timer.position = 27 →
     s.params.role ≠ 1 → s.timer.csSeen = false → FrameGoesOn s →
     let limit := s.params.syncLossLimit.toNat
     let missed := if s.sync.missed < limit then s.sync.missed + 1 else s.sync.missed
     let lost : Bool := missed == limit && (s.link.state == .align || s.link.state == .running)
     let fires (k : Fin 4) : Bool := s.points[k].enabled && !s.points[k].fired && s.points[k].offset.toNat == 28
     ∃ t, exec .positionReached s = .next t ∧ t.sync = { s.sync with missed := missed } ∧
       (∀ c : Counter, counterValue c s = 255 → counterValue c t = 255) ∧
       (counterValue .csMissed t).toNat = min 255 ((counterValue .csMissed s).toNat + 1) ∧
       t.irq.causes = { s.irq.causes with missed := true, lost := s.irq.causes.lost || lost } ∧ flagSet .sync t = true ∧
       (lost = true → t.link = { s.link with state := .listen } ∧ flagSet .link t = true ∧
         t.timer = { position := 0, cycle := s.timer.cycle, length := none, csSeen := false } ∧
         t.seq = { nextIndex := 0, slot := none } ∧ t.queue.wait = none ∧ t.points = s.points ∧ t.boxes = s.boxes ∧
         t.nodes = s.nodes ∧ t.sched = s.sched ∧ t.tx = s.tx ∧ t.irq.pointStatus = s.irq.pointStatus) ∧
       (lost = false → t.link = s.link ∧ t.timer = { s.timer with position := 28 } ∧
         (∀ k : Fin 4, t.points[k] =
           if fires k then { s.points[k] with fired := true, enabled := s.points[k].repeats } else s.points[k]) ∧
         (∀ k : Fin 4, t.irq.pointStatus.getLsbD k = (s.irq.pointStatus.getLsbD k || fires k)) ∧
         (flagSet .point t = (flagSet .point s || (fires 0 || fires 1 || fires 2 || fires 3))) ∧
         (∀ e, (scheduleOf s)[s.seq.nextIndex]? = some e →
           t.seq.nextIndex = if e.start = 28 then s.seq.nextIndex + 1 else s.seq.nextIndex))) ∧
  (∀ (s : State) (length : Nat), s.timer.length = some length → 28 < length → s.timer.position = 27 →
     s.params.role = 1 ∨ s.timer.csSeen = true → s.link.state ≠ .stopping ∨ FrameGoesOn s →
     ∃ t, exec .positionReached s = .next t ∧ t.timer = { s.timer with position := 28 } ∧ t.sync = s.sync ∧ t.link = s.link ∧
       t.irq.causes = s.irq.causes ∧ counterValue .csMissed t = counterValue .csMissed s)

/-- The cycle boundary by counting: the position returns to 0, the number advances, from 65535 to 0, CS-seen clears, the fired
marks clear and points at offset 0 fire, with their status bits and POINT, and CYCLE is set. On a master in RUNNING an ARMED
shadow is swapped in, with SWAP and BANK, and then the cycle-start frame of the new cycle is launched on an idle line, blocked
with CS_BLOCKED and SLOT on a busy one, and withheld by SILENT (R9, R27, R28, R36, R53, R54, R76). -/
def Obligations.CycleBoundary : Prop :=
  ∀ s : State, s.timer.length = some (s.timer.position + 1) →
    validate s.boxes (bankOf s.sched.active s) = none → FrameGoesOn s →
    let master : Bool := s.params.role == 1 && s.link.state == .running
    let swaps : Bool := master && s.sched.shadow == .armed
    let blocked : Bool := master && !s.link.silent && s.line.level != .idle
    let bank := bankOf (if swaps then s.sched.active.other else s.sched.active) s
    let cycle := s.timer.cycle + 1
    let frame : Frame :=
      { dst := 255, src := s.params.address, kind := .cycleStart, tag := 0, seq := cycle.extractLsb' 0 8,
        payload := [cycle.extractLsb' 8 8, cycle.extractLsb' 0 8, bank.id, bank.length.extractLsb' 8 8,
          bank.length.extractLsb' 0 8] }
    let fires (k : Fin 4) : Bool := s.points[k].enabled && s.points[k].offset == 0
    ∃ t, exec .cycleBoundary s = .next t ∧ exec .positionReached s = .next t ∧
      t.timer = { position := 0, cycle := cycle,
                  length := if swaps then some bank.length.toNat else s.timer.length, csSeen := false } ∧
      (∀ k : Fin 4, t.points[k] =
        if fires k then { s.points[k] with fired := true, enabled := s.points[k].repeats }
        else { s.points[k] with fired := false }) ∧
      (∀ k : Fin 4, t.irq.pointStatus.getLsbD k = (s.irq.pointStatus.getLsbD k || fires k)) ∧
      flagSet .point t = (flagSet .point s || (fires 0 || fires 1 || fires 2 || fires 3)) ∧
      flagSet .cycle t = true ∧ t.seq.nextIndex = 0 ∧ t.link = s.link ∧ t.sync = s.sync ∧
      t.sched = (if swaps then { s.sched with active := s.sched.active.other, shadow := .idle } else s.sched) ∧
      flagSet .bank t = (flagSet .bank s || swaps) ∧ flagSet .slot t = (flagSet .slot s || blocked) ∧
      t.irq.causes = { s.irq.causes with
        swap := s.irq.causes.swap || swaps
        csBlocked := s.irq.causes.csBlocked || blocked } ∧
      t.tx = (if master = true ∧ s.link.silent = false ∧ s.line.level = .idle ∧ s.tx = none then
          some { requester := .cycleStart, chars := frame.characters s.params, index := 0, collided := false }
        else s.tx)

/-- The master's startup silence completes with the CT that brings the count to the active bank's cycle length plus 28:
RUNNING, with LINK; the timer starts at position 0 with cycle number 0 and the active bank's length, without CYCLE; points at
offset 0 fire, with their status bits and POINT; and the first cycle-start frame is launched unless SILENT is set (R24, R36,
R74, R75). -/
def Obligations.StartupSilenceCompletes : Prop :=
  ∀ s : State, s.link.state = .starting → s.line.level = .idle → s.tx = none →
    validate s.boxes (bankOf s.sched.active s) = none →
    (bankOf s.sched.active s).length.toNat + 28 ≤ s.link.silence + 1 →
    let bank := bankOf s.sched.active s
    let frame : Frame :=
      { dst := 255, src := s.params.address, kind := .cycleStart, tag := 0, seq := 0,
        payload := [0, 0, bank.id, bank.length.extractLsb' 8 8, bank.length.extractLsb' 0 8] }
    let fires (k : Fin 4) : Bool := s.points[k].enabled && s.points[k].offset == 0
    ∃ t, exec .startupSilenceCompletes s = .next t ∧
      t.link = { state := .running, silent := s.link.silent, silence := 0 } ∧
      t.timer = { position := 0, cycle := 0, length := some bank.length.toNat, csSeen := false } ∧ t.seq.nextIndex = 0 ∧
      (∀ k : Fin 4, t.points[k] =
        if fires k then { s.points[k] with fired := true, enabled := s.points[k].repeats }
        else { s.points[k] with fired := false }) ∧
      (∀ k : Fin 4, t.irq.pointStatus.getLsbD k = (s.irq.pointStatus.getLsbD k || fires k)) ∧
      flagSet .point t = (flagSet .point s || (fires 0 || fires 1 || fires 2 || fires 3)) ∧
      flagSet .link t = true ∧ flagSet .cycle t = flagSet .cycle s ∧ t.irq.causes = s.irq.causes ∧ t.sched = s.sched ∧
      t.tx = (if s.link.silent then none else
        some { requester := .cycleStart, chars := frame.characters s.params, index := 0, collided := false })

/-- A TRANSMIT entry opens: with SILENT set or its mailbox FREE nothing is sent and nothing noted; a busy line gives BLOCKED
and a frame longer than the window OVERSIZE, each with SLOT_SKIPPED, SLOT, the attention bit and MBX; else the mailbox is
LOCKED and its SLOT_DATA frame begins. So it is at offset 28 too, beside a missed start that does not lose sync (R8, R29, R57,
R61, R62, R104, R106, R163). -/
def Obligations.TransmitSlotOpens : Prop :=
  ∀ (s : State) (length : Nat) (e : Entry) (m : Fin 24) (b : TxMailbox),
    s.timer.length = some length → s.timer.position + 1 < length → s.timer.position + 1 = e.start.toNat →
    SyncHolds s → s.link.state = .running → s.tx = none → s.seq.slot = none →
    (scheduleOf s)[s.seq.nextIndex]? = some e →
    e.kind = 0x01 → s.timer.cycle.toNat % 2 ^ e.exponent.toNat = e.phase.toNat → e.mailbox.toNat = m.val →
    s.boxes[m] = .tx b →
    let counted : InterruptUnit := if startMissed s then countedIn .csMissed s.irq else s.irq
    let frame : Frame :=
      { dst := b.content.destination, src := s.params.address, kind := .slotData, tag := b.content.tag,
        seq := b.content.sequence, payload := b.content.payload.toList.take b.content.length.toNat }
    ∃ t, exec .positionReached s = .next t ∧ t.seq.nextIndex = s.seq.nextIndex + 1 ∧
      (∃ sl, t.seq.slot = some sl ∧ sl.index = s.seq.nextIndex ∧ sl.start = e.start.toNat ∧
        sl.finish = e.start.toNat + e.window.toNat ∧ sl.body = .transmit) ∧
      (s.link.silent = true ∨ b.state = .free →
        t.tx = none ∧ t.boxes = s.boxes ∧ t.irq.counters = counted.counters ∧ t.irq.attention = s.irq.attention ∧
          flagSet .slot t = flagSet .slot s) ∧
      (s.link.silent = false → b.state = .loaded →
        (s.line.level ≠ .idle ∨ e.window.toNat < frame.stuffedLength s.params →
          t.tx = none ∧ t.boxes = put s.boxes m (.tx { b with
            lastOutcome := if s.line.level ≠ .idle then .blocked else .oversize }) ∧
          t.irq.counters = (countedIn .slotSkipped counted).counters ∧
          t.irq.attention = s.irq.attention ||| BitVec.twoPow 24 m.val ∧ flagSet .slot t = true ∧ flagSet .mbx t = true) ∧
        (s.line.level = .idle → frame.stuffedLength s.params ≤ e.window.toNat →
          t.tx = some { requester := .slot m, chars := frame.characters s.params, index := 0, collided := false } ∧
          t.boxes = put s.boxes m (.tx { b with state := .locked }) ∧ t.irq.attention = s.irq.attention))

/-- A RECEIVE or OPEN entry reached by counting, at offset 28 too where a missed start does not lose sync. Outside RUNNING, or
not active in the cycle, it is passed over: no slot, no outcome, no flag, and the next index advances. Else it opens, SILENT
or not: a RECEIVE slot in AWAITING, an open window, each with the entry's fields; a RECEIVE slot that is extended closes
first, with MISSED. No mailbox changes and no frame begins. And a frame that ends as an offset is reached has ended first: the
offset is reached as if the frame's end had been a happening of its own just before (R41, R42, R57, R63, R66, R68). -/
def Obligations.EntryReached : Prop :=
  (∀ (s : State) (length : Nat) (e : Entry),
     s.timer.length = some length → s.timer.position + 1 < length → s.timer.position + 1 = e.start.toNat →
     SyncHolds s → FrameGoesOn s → (scheduleOf s)[s.seq.nextIndex]? = some e →
     (∀ sl ∈ s.seq.slot, ∃ sub, sl.body = .receive sub true) →
     let active := s.timer.cycle.toNat % 2 ^ e.exponent.toNat = e.phase.toNat
     let opened (body : SlotBody) : Slot :=
       { index := s.seq.nextIndex, start := e.start.toNat, finish := e.start.toNat + e.window.toNat, mailbox := e.mailbox,
         source := e.source, body := body }
     let closed : State := match s.seq.slot with
       | some sl => nodeMissed sl.source s
       | none => s
     ∃ t, exec .positionReached s = .next t ∧ t.seq.nextIndex = s.seq.nextIndex + 1 ∧ t.timer.position = e.start.toNat ∧
       (s.link.state ≠ .running ∨ ¬active →
         t.seq.slot = s.seq.slot ∧ t.boxes = s.boxes ∧ t.nodes = s.nodes ∧ t.tx = s.tx ∧ t.link = s.link ∧
         t.irq.attention = s.irq.attention ∧ t.irq.nodeChange = s.irq.nodeChange ∧
         t.irq.counters = (if startMissed s then countedIn .csMissed s.irq else s.irq).counters ∧
         ∀ flag : Flag, flag ≠ .point → flag ≠ .sync → flagSet flag t = flagSet flag s) ∧
       (s.link.state = .running → active → e.kind = 0x02 ∨ e.kind = 0x03 →
         t.seq.slot = some (opened (if e.kind = 0x02 then .receive .awaiting false else .openWindow)) ∧
         t.boxes = s.boxes ∧ t.tx = s.tx ∧ t.link = s.link ∧ t.queue.entries = s.queue.entries ∧
         t.nodes = closed.nodes ∧ t.irq.nodeChange = closed.irq.nodeChange ∧
         t.irq.attention = s.irq.attention ∧ flagSet .node t = flagSet .node closed)) ∧
  (∀ (s u : State) (x : Transmission), s.tx = some x → s.link.state ≠ .stopping → s.timer.length ≠ none →
     s.line.ctIdle = false →
     (x.collided = false ∧ x.chars.length ≤ x.index ∧ exec .transmissionCompletes s = .next u ∨
       x.collided = true ∧ exec .transmissionCollides s = .next u) →
     exec .positionReached s = exec .positionReached u)

/-- The open slot's end reached by counting: a TRANSMIT slot and a RECEIVE slot in DONE close with nothing further; an open
window closes and the head's wait and the turned-away mark end with it; a RECEIVE slot in AWAITING closes with MISSED; in
RECEIVING it stays open, extended. An extended slot does not act on its end. No mailbox and no counter changes. And where the
slot meets the next entry, at the entry's start or before it: the offset is reached as if the slot had closed before. So it is
of a slot whose end is the offset, with MISSED in AWAITING, whether or not an entry starts there; and of a RECEIVE slot that
is extended, or whose end in RECEIVING the offset is, with MISSED, when an active entry of any kind opens there (R57, R59,
R65, R66, R111, R113). -/
def Obligations.SlotEnds : Prop :=
  (∀ (s : State) (length : Nat) (sl : Slot),
     s.timer.length = some length → s.timer.position + 1 < length → s.timer.position ≠ 27 → FrameGoesOn s →
     s.seq.slot = some sl → sl.finish = s.timer.position + 1 →
     (∀ e, (scheduleOf s)[s.seq.nextIndex]? = some e → e.start.toNat ≠ s.timer.position + 1) →
     ∃ t, exec .positionReached s = .next t ∧ t.boxes = s.boxes ∧ t.tx = s.tx ∧ t.link = s.link ∧
       t.irq.counters = s.irq.counters ∧ t.irq.attention = s.irq.attention ∧ t.queue.entries = s.queue.entries ∧
       t.seq.nextIndex = s.seq.nextIndex ∧ t.timer.position = sl.finish ∧
       (sl.body = .transmit ∨ sl.body = .openWindow ∨ sl.body = .receive .done false →
         t.seq.slot = none ∧ t.nodes = s.nodes ∧ flagSet .node t = flagSet .node s) ∧
       (sl.body = .openWindow → t.queue = { s.queue with wait := none, turnedAway := false }) ∧
       (sl.body = .receive .awaiting false →
         t.seq.slot = none ∧ t.nodes = (nodeMissed sl.source s).nodes ∧
         t.irq.nodeChange = (nodeMissed sl.source s).irq.nodeChange ∧
         flagSet .node t = flagSet .node (nodeMissed sl.source s)) ∧
       (sl.body = .receive .receiving false →
         t.seq.slot = some { sl with body := .receive .receiving true } ∧ t.nodes = s.nodes ∧
         flagSet .node t = flagSet .node s) ∧
       (∀ sub, sl.body = .receive sub true → t.seq.slot = some sl ∧ t.nodes = s.nodes ∧ flagSet .node t = flagSet .node s)) ∧
  (∀ (s : State) (length : Nat) (sl : Slot),
     s.timer.length = some length → s.timer.position + 1 < length → SyncHolds s → FrameGoesOn s →
     s.seq.slot = some sl →
     let q := s.timer.position + 1
     let closed : State := { s with
       seq := { s.seq with slot := none }, queue := { s.queue with wait := none, turnedAway := false } }
     (sl.finish = q → sl.body = .transmit ∨ sl.body = .openWindow ∨ sl.body = .receive .done false →
       exec .positionReached s = exec .positionReached closed) ∧
     (sl.finish = q → sl.body = .receive .awaiting false →
       exec .positionReached s = exec .positionReached (nodeMissed sl.source closed)) ∧
     (∀ e, (scheduleOf s)[s.seq.nextIndex]? = some e → e.start.toNat = q → e.kind = 0x01 ∨ e.kind = 0x02 ∨ e.kind = 0x03 →
       s.link.state = .running → s.timer.cycle.toNat % 2 ^ e.exponent.toNat = e.phase.toNat →
       sl.finish = q ∧ sl.body = .receive .receiving false ∨ (∃ sub, sl.body = .receive sub true) →
       exec .positionReached s = exec .positionReached (nodeMissed sl.source closed)))

/-- When the head waits. The model's test for it is R111's conditions together: an OPEN slot is open, the link is RUNNING,
SILENT is clear, the transmitter is IDLE, the head is QUEUED and not turned away. Settled, it waits exactly then, and goes on
with the count it has. And in every command a wait that begins, or that finds another head or another slot than before, begins
from 0 (R111, R113). -/
def Obligations.HeadWaits : Prop :=
  let conditions (s : State) : Prop :=
    (∃ sl, s.seq.slot = some sl ∧ sl.body = .openWindow) ∧ s.link.state = .running ∧ s.link.silent = false ∧
      s.tx = none ∧ (∃ m, s.queue.entries.head? = some m ∧ ∃ b, s.boxes[m] = .tx b ∧ b.state = .queued) ∧
      s.queue.turnedAway = false
  (∀ s : State, headMayWait s = true ↔ conditions s) ∧
  (∀ s : State,
    (conditions s → settleWait s = { s with queue := { s.queue with wait := some (s.queue.wait.getD 0) } }) ∧
    (¬conditions s → settleWait s = { s with queue := { s.queue with wait := none } })) ∧
  (∀ (c : Instr) (s t : State), WaitOk s → exec c s = .next t →
    s.queue.wait = none ∨ t.queue.entries.head? ≠ s.queue.entries.head? ∨ t.seq.slot ≠ s.seq.slot →
    t.queue.wait = none ∨ t.queue.wait = some 0)

/-- A waiting head counts the CT of line idle: the end of a CT throughout which the line was idle adds 1, up to the backoff of
2 + (address mod 16) + 16 × (retry count); another CT adds nothing. When it elapses, and the position plus the frame's stuffed
length is at most the open window's end, the head becomes LOCKED and its EVENT_DATA frame begins; else no frame begins and the
head is turned away from this window, with its mailbox as it stood. Either way the wait is over (R8, R11, R112, R113,
R114). -/
def Obligations.HeadBackoff : Prop :=
  (∀ (s : State) (length k : Nat) (m : Fin 24) (b : TxMailbox) (sl : Slot),
     s.timer.length = some length → s.timer.position + 1 < length → s.timer.position ≠ 27 → WaitOk s →
     s.queue.wait = some k → s.queue.entries.head? = some m → s.boxes[m] = .tx b → s.seq.slot = some sl →
     s.timer.position + 1 < sl.finish → (∀ e ∈ (bankOf s.sched.active s).entries.toList, e.start.toNat ≠ s.timer.position + 1) →
     ∃ t, exec .positionReached s = .next t ∧
       t.queue = { s.queue with wait := some (
         if s.line.ctIdle = true then
           min (k + 1) (2 + s.params.address.toNat % 16 + 16 * b.retry)
         else k) }) ∧
  (∀ (s : State) (m : Fin 24) (b : TxMailbox) (sl : Slot) (k : Nat),
     WaitOk s → s.queue.wait = some k → 2 + s.params.address.toNat % 16 + 16 * b.retry ≤ k →
     s.queue.entries.head? = some m → s.boxes[m] = .tx b → s.seq.slot = some sl →
     let frame : Frame :=
       { dst := b.content.destination, src := s.params.address, kind := .eventData, tag := b.content.tag,
         seq := b.content.sequence, payload := b.content.payload.toList.take b.content.length.toNat }
     (s.timer.position + frame.stuffedLength s.params ≤ sl.finish →
       ∃ t, exec .backoffElapses s = .next t ∧
         t.tx = some { requester := .event m, chars := frame.characters s.params, index := 0, collided := false } ∧
         t.boxes = put s.boxes m (.tx { b with state := .locked }) ∧ t.queue = { s.queue with wait := none } ∧
         t.rx.assembly = .hunt ∧ t.seq.slot = some sl ∧ t.timer = s.timer) ∧
     (sl.finish < s.timer.position + frame.stuffedLength s.params →
       exec .backoffElapses s = .next { s with queue := { s.queue with wait := none, turnedAway := true } }))

/-- A frame whose every readback matched ends: the transmitter is IDLE and the receive side in HUNT. A slot's mailbox becomes
LOADED with the repeat attribute and FREE without it; an event leaves the queue FREE, with EVENT; each has outcome SENT, its
attention bit and MBX set, and then its pending commit applied. A cycle-start frame changes nothing more. Nothing is counted
(R14, R77, R102, R104, R114, R163). -/
def Obligations.TransmissionCompletes : Prop :=
  ∀ (s : State) (x : Transmission), s.tx = some x → x.collided = false → x.chars.length ≤ x.index →
    s.link.state ≠ .stopping →
    let idle : State := { s with tx := none, rx := { assembly := .hunt, buffer := [], count := 0, gap := none } }
    let noted (m : Fin 24) (b : TxMailbox) (flags : BitVec 14) (u : State) : State := { u with
      boxes := put s.boxes m (.tx (deferred b))
      irq := { s.irq with
        flags := s.irq.flags ||| flags, attention := s.irq.attention ||| BitVec.twoPow 24 m.val } }
    (x.requester = .cycleStart → exec .transmissionCompletes s = .next (settleWait idle)) ∧
    (∀ m b r, x.requester = .slot m → s.boxes[m] = .tx b → b.mode = .scheduled r →
      exec .transmissionCompletes s = .next (settleWait
        (noted m { b with lastOutcome := .sent, state := if r then .loaded else .free } 0x0004 idle))) ∧
    (∀ m b rest, x.requester = .event m → s.boxes[m] = .tx b → s.queue.entries = m :: rest → m ∉ rest →
      exec .transmissionCompletes s = .next (settleWait
        (noted m { b with lastOutcome := .sent, state := .free } 0x000C
          { idle with queue := { entries := rest, wait := none, turnedAway := false } })))

/-- A collided frame is released: COLLISIONS and COLLISION, then a slot's mailbox is LOADED with outcome COLLIDED and its
attention bit; an event below the retry limit is QUEUED at the head with its retry count up by 1 and outcome COLLIDED; one at
or above the limit is dropped from the queue LOADED with outcome DROPPED, its retry count up to 15, its attention bit and
EVENT; and then a pending commit is applied. A cycle-start frame changes nothing more (R13, R14, R77, R102, R105, R115,
R163). -/
def Obligations.TransmissionCollides : Prop :=
  ∀ (s : State) (x : Transmission), s.tx = some x → x.collided = true ∨ x.index < x.chars.length →
    s.link.state ≠ .stopping →
    let idle : State := { s with tx := none, rx := { assembly := .hunt, buffer := [], count := 0, gap := none } }
    let ended (irq : InterruptUnit) (flags : BitVec 14) (u : State) : State :=
      { u with irq := { irq with flags := irq.flags ||| flags } }
    let counted := countedIn .collisions s.irq
    let marked (m : Fin 24) : InterruptUnit := { counted with attention := s.irq.attention ||| BitVec.twoPow 24 m.val }
    (x.requester = .cycleStart → exec .transmissionCollides s = .next (settleWait (ended counted 0x0400 idle))) ∧
    (∀ m b, x.requester = .slot m → s.boxes[m] = .tx b →
      exec .transmissionCollides s = .next (settleWait (ended (marked m) 0x0404
        { idle with boxes := put s.boxes m (.tx (deferred { b with lastOutcome := .collided, state := .loaded })) }))) ∧
    (∀ m b, x.requester = .event m → s.boxes[m] = .tx b → b.retry < s.params.retryLimit.toNat →
      exec .transmissionCollides s = .next (settleWait (ended counted 0x0400 { idle with
        boxes := put s.boxes m (.tx (deferred
          { b with lastOutcome := .collided, state := .queued, retry := b.retry + 1 })) }))) ∧
    (∀ m b rest, x.requester = .event m → s.boxes[m] = .tx b → s.params.retryLimit.toNat ≤ b.retry →
      s.queue.entries = m :: rest → m ∉ rest →
      exec .transmissionCollides s = .next (settleWait (ended (marked m) 0x040C { idle with
        boxes := put s.boxes m (.tx (deferred
          { b with lastOutcome := .dropped, state := .loaded, retry := min 15 (b.retry + 1) }))
        queue := { entries := rest, wait := none, turnedAway := false } })))

/-- The end of a transmission in STOPPING, as a happening of its own or with the end of a CT: the outcome is applied first,
with any deferred commit after it, then the link enters OFF and STOP completes with OK. Of a completed frame a slot's mailbox
is SENT, LOADED with the repeat attribute and FREE without it, and an event leaves the queue SENT and FREE, with EVENT; of a
collided one, which counts COLLISIONS with COLLISION, a slot's mailbox is COLLIDED and LOADED, an event below the retry limit
COLLIDED and QUEUED with its retry count up by 1, and one at or above it leaves the queue DROPPED and LOADED, with EVENT;
attention bits and MBX as outside STOPPING (R14, R91, R94, R102, R104, R105, R114, R115). -/
def Obligations.StoppingEnds : Prop :=
  ∀ (s : State) (x : Transmission) (c : Instr), s.tx = some x → s.link.state = .stopping →
    let sent : Bool := !x.collided && x.chars.length ≤ x.index
    (c = .transmissionCompletes ∧ sent = true) ∨ (c = .transmissionCollides ∧ sent = false) ∨
      (c = .positionReached ∧ s.timer.length ≠ none ∧ (sent = true ∨ x.collided = true)) →
    let irq : InterruptUnit :=
      if sent then s.irq else { countedIn .collisions s.irq with flags := s.irq.flags ||| 0x0400 }
    let ends (u : State) : Prop := exec c s = .next (finishedAs .ok 0 0 (offState { u with tx := none }))
    let noted (m : Fin 24) (flags : BitVec 14) : InterruptUnit := { irq with
      flags := irq.flags ||| flags, attention := s.irq.attention ||| BitVec.twoPow 24 m.val }
    (x.requester = .cycleStart → ends { s with irq := irq }) ∧
    (∀ m b r, x.requester = .slot m → s.boxes[m] = .tx b → b.mode = .scheduled r →
      ends { s with
        irq := noted m 0x0004
        boxes := put s.boxes m (.tx (deferred (
          if sent then { b with lastOutcome := .sent, state := if r then .loaded else .free }
          else { b with lastOutcome := .collided, state := .loaded }))) }) ∧
    (∀ m b rest, x.requester = .event m → s.boxes[m] = .tx b → s.queue.entries = m :: rest → m ∉ rest →
      (sent = true → ends { s with
        irq := noted m 0x000C
        boxes := put s.boxes m (.tx (deferred { b with lastOutcome := .sent, state := .free }))
        queue := { s.queue with entries := rest } }) ∧
      (sent = false → b.retry < s.params.retryLimit.toNat → ends { s with
        irq := irq
        boxes := put s.boxes m (.tx (deferred
          { b with lastOutcome := .collided, state := .queued, retry := b.retry + 1 })) }) ∧
      (sent = false → s.params.retryLimit.toNat ≤ b.retry → ends { s with
        irq := noted m 0x000C
        boxes := put s.boxes m (.tx (deferred
          { b with lastOutcome := .dropped, state := .loaded, retry := min 15 (b.retry + 1) }))
        queue := { s.queue with entries := rest } }))

/-- What validation passes: an id that is not 0, a length of 64 to 16383 CT, at most 32 entries; every entry of a known kind,
from 28 on, with its kind's least window, an exponent to 6 and a phase below its period, a mailbox that fits, and an expected
source to 239; no entry before the end of the one before it; and the last end at most the length minus 4 (R46, R47, R48). -/
def Obligations.ValidationPasses : Prop :=
  ∀ (boxes : Vector Mailbox 24) (b : Bank),
    let entry (i : Nat) (h : i < 32) : Entry := b.entries[i]
    let finish (e : Entry) : Nat := e.start.toNat + e.window.toNat
    validate boxes b = none ↔
      b.id ≠ 0 ∧ 64 ≤ b.length.toNat ∧ b.length.toNat ≤ 16383 ∧ b.count.toNat ≤ 32 ∧
      ∀ (i : Nat) (h : i < 32), i < b.count.toNat →
        let e := entry i h
        28 ≤ e.start.toNat ∧ e.exponent.toNat ≤ 6 ∧ e.phase.toNat < 2 ^ e.exponent.toNat ∧
        (e.kind = 0x01 ∧ 10 ≤ e.window.toNat ∧
            (∃ (m : Fin 24) (t : TxMailbox), e.mailbox.toNat = m.val ∧ boxes[m] = .tx t ∧ t.mode ≠ .event) ∨
          e.kind = 0x02 ∧ 10 ≤ e.window.toNat ∧ e.source.toNat ≤ 239 ∧
            (∃ (m : Fin 24) (r : RxMailbox), e.mailbox.toNat = m.val ∧ boxes[m] = .rx r) ∨
          e.kind = 0x03 ∧ 16 ≤ e.window.toNat) ∧
        (∀ h' : i + 1 < 32, i + 1 < b.count.toNat → finish e ≤ (entry (i + 1) h').start.toNat) ∧
        (i + 1 = b.count.toNat → finish e + 4 ≤ b.length.toNat)

/-- What a failed validation records: the reason and the index of the first check, in the order of R46, that does not succeed.
Header: reason 1 an id of 0, 2 a cycle length outside 64 to 16383, 3 an entry count above 32, with index 0xFF. Then, entry by
entry and with the entry's index: 4 the kind, 5 a start below 28, 6 a window below the kind's least, 7 the exponent and the
phase, 8 the mailbox, 9 the expected source, 10 a start before the previous entry's end. Last, 11 an end beyond the cycle
length minus 4, with index 0xFF (R46, R47, R48). -/
def Obligations.ValidationReason : Prop :=
  ∀ (boxes : Vector Mailbox 24) (b : Bank),
    let entry (i : Nat) : Entry := b.entries.toList.getD i
      { start := 0, window := 0, kind := 0, exponent := 0, phase := 0, mailbox := 0, source := 0 }
    let finish (i : Nat) : Nat := (entry i).start.toNat + (entry i).window.toNat
    let fits (e : Entry) : Bool := match boxes.toList[e.mailbox.toNat]? with
      | some (.tx t) => e.kind == 0x01 && t.mode != .event
      | some (.rx _) => e.kind == 0x02
      | none => false
    let checks (i : Nat) : List (Nat × Bool) :=
      let e := entry i
      [(4, e.kind == 0x01 || e.kind == 0x02 || e.kind == 0x03), (5, 28 ≤ e.start.toNat),
       (6, (if e.kind = 0x03 then 16 else 10) ≤ e.window.toNat),
       (7, e.exponent.toNat ≤ 6 && e.phase.toNat < 2 ^ e.exponent.toNat), (8, e.kind == 0x03 || fits e),
       (9, e.kind != 0x02 || e.source.toNat ≤ 239), (10, i == 0 || finish (i - 1) ≤ (entry i).start.toNat)]
    let passes (i : Nat) : Prop := ∀ c ∈ checks i, c.2 = true
    let header : Prop := b.id ≠ 0 ∧ 64 ≤ b.length.toNat ∧ b.length.toNat ≤ 16383 ∧ b.count.toNat ≤ 32
    (b.id = 0 → validate boxes b = some { reason := 1, index := 0xFF }) ∧
    (b.id ≠ 0 → b.length.toNat < 64 ∨ 16383 < b.length.toNat →
      validate boxes b = some { reason := 2, index := 0xFF }) ∧
    (b.id ≠ 0 → 64 ≤ b.length.toNat → b.length.toNat ≤ 16383 → 32 < b.count.toNat →
      validate boxes b = some { reason := 3, index := 0xFF }) ∧
    (header → ∀ i, i < b.count.toNat → (∀ k, k < i → passes k) → ∀ c, (checks i).find? (fun c => !c.2) = some c →
      validate boxes b = some { reason := c.1, index := BitVec.ofNat 8 i }) ∧
    (header → 1 ≤ b.count.toNat → (∀ k, k < b.count.toNat → passes k) → b.length.toNat < finish (b.count.toNat - 1) + 4 →
      validate boxes b = some { reason := 11, index := 0xFF })

/-- An outcome updates the lowest-numbered valid entry with the peer's address and no other. HEARD makes it PRESENT with count
0 in the present cycle and raises its change bit and NODE unless it was PRESENT; MISSED adds 1 below the threshold, LATE, or
reaches it, ABSENT, with the bit and NODE; an ABSENT entry stays. With no such entry nothing changes (R147 to R151). -/
def Obligations.NodeOutcomes : Prop :=
  ∀ (source : Byte) (s : State),
    let follows (n : Fin 16) : Prop := s.nodes[n].valid ≠ 0 ∧ s.nodes[n].address = source
    let noticed (n : Fin 16) : InterruptUnit := { s.irq with
      flags := s.irq.flags ||| 0x0100, nodeChange := s.irq.nodeChange ||| BitVec.twoPow 16 n.val }
    ((∀ n, ¬follows n) → nodeHeard source s = s ∧ nodeMissed source s = s) ∧
    ∀ n : Fin 16, follows n → (∀ k, k < n → ¬follows k) →
      let e := s.nodes[n]
      let heard := { e with state := .present, misses := 0, lastHeard := s.timer.cycle }
      nodeHeard source s = { s with
        nodes := put s.nodes n heard, irq := if e.state = .present then s.irq else noticed n } ∧
      (e.state = .absent → nodeMissed source s = s) ∧
      (e.state ≠ .absent → e.misses + 1 < e.threshold →
        nodeMissed source s = { s with nodes := put s.nodes n { e with state := .late, misses := e.misses + 1 } }) ∧
      (e.state ≠ .absent → e.misses + 1 = e.threshold →
        nodeMissed source s = { s with
          nodes := put s.nodes n { e with state := .absent, misses := e.threshold }, irq := noticed n })

/-! ### What every step keeps -/

/-- Every step keeps the mailbox records as the manual says they stand: a next buffer only while HELD, valid content in FULL
and HELD, lengths of 0 to 32, and a pending commit only while LOCKED. And it keeps the node presence table: thresholds of 1 to
15, a miss count that never exceeds its threshold, ABSENT exactly when they are equal (R95, R99, R100, R123, R126, R144,
R145). -/
def Obligations.MailboxesAndNodesKept : Prop :=
  ∀ s t : State, RxStatesOk s → LengthsOk s → PendingCommitOk s → NodesOk s → step s = .next t →
    RxStatesOk t ∧ LengthsOk t ∧ PendingCommitOk t ∧ NodesOk t

/-- Every step keeps the command unit and the Link Controller: RESULT reads PENDING exactly while a command is in flight, a
shadow is VALIDATING exactly while ARM is, START is in flight in OFF alone, the link is STOPPING exactly while STOP is in
flight; the parameters pass START's checks outside OFF, STARTING is a master's and LISTEN and ALIGN are a follower's, SILENT
is clear in OFF, the missed count stays below the limit in force while a follower counts, and the deviation within −128 to 127
(R34, R43, R70, R71, R73, R74, R84, R87, R90, R178). -/
def Obligations.ControllerKept : Prop :=
  ∀ s t : State, CommandUnitOk s → TransmitterOk s → TimerOk s → ParamsOk s → RoleOk s → MissedOk s → DeviationOk s →
    step s = .next t → CommandUnitOk t ∧ ParamsOk t ∧ RoleOk t ∧ MissedOk t ∧ DeviationOk t

/-- Every step keeps what the transmit path promises: a mailbox is LOCKED exactly while a data frame is SENDING from it; the
event queue holds at most eight TX EVENT mailboxes, none twice, each QUEUED or its head in transmission, and every QUEUED one;
the head waits exactly while the conditions of R111 hold; and a frame is SENDING always in STOPPING and else in RUNNING, or in
ALIGN or LISTEN where a jump to 28 began it (log entries 9 and 11) (R69, R91, R97, R108, R111). -/
def Obligations.LocksAndQueueKept : Prop :=
  ∀ s t : State, CommandUnitOk s → TransmitterOk s → LocksOk s → QueueOk s → WaitOk s → step s = .next t →
    TransmitterOk t ∧ LocksOk t ∧ QueueOk t ∧ WaitOk t

/-- Every step keeps the banks, the time base, the open slot and the frame assembly: outside OFF the active bank passes
validation, and so does an ARMED shadow, which there is in no other state; the timer runs in ALIGN and RUNNING with its
position below a length of 64 to 16383, in RUNNING the active bank's, and is stopped at position 0 in OFF, STARTING and
LISTEN; a slot is open in RUNNING and STOPPING alone, with the next index at most 32; the assembly holds at most 40 bytes with
a character count its bytes can have, none while SENDING, and the receive side is inactive in OFF (R16, R17, R18, R22, R23,
R25, R43, R52, R56, R58, R59). -/
def Obligations.BanksTimerAndAssemblyKept : Prop :=
  ∀ s t : State, CommandUnitOk s → TransmitterOk s → AssemblyOk s → BanksOk s → TimerOk s → SlotOk s → step s = .next t →
    AssemblyOk t ∧ BanksOk t ∧ TimerOk t ∧ SlotOk t

/-! ### Rules of the whole machine -/

/-- A flag that is set stays set through every command but a write of 1 to it and a hardware reset (R157, R158). -/
def Obligations.FlagsStayUntilCleared : Prop :=
  ∀ (c : Instr) (s t : State) (f : Flag), c.wellFormed = true → exec c s = .next t → c ≠ .hardwareReset →
    (∀ r v, c = .iflgWrite r v → v.getLsbD (f.bit % 8) = false ∨ ¬(f.bit < 8 ↔ r = .reg0)) →
    flagSet f s = true → flagSet f t = true

/-- A frame begins only with SILENT clear and the link RUNNING, or in the happening that takes a master from STARTING to
RUNNING (R12, R87). The premise is the invariant that the head waits exactly while the conditions of R111 hold. -/
def Obligations.FramesBeginOnlyInRunning : Prop :=
  ∀ (c : Instr) (s t : State), WaitOk s → exec c s = .next t → s.tx = none → t.tx ≠ none →
    s.link.silent = false ∧
      (s.link.state = .running ∨ s.link.state = .starting ∧ t.link.state = .running ∧ c = .startupSilenceCompletes)

/-- Outside OFF nothing but a hardware reset changes a link parameter or the configuration of a mailbox; in every state a bank
that is active, or a shadow that is VALIDATING or ARMED, keeps its contents; and no delivery, frame, timer happening or access
changes the content of a HELD mailbox: only RELEASE naming it, CONFIG_MAILBOX and the two resets end its hold, and LINK_RESET
keeps its content (R43, R44, R70, R71, R117, R124, R125, R131). A write of CMD that is lost comes with a command in flight:
without one it is that command itself (log entry 12). -/
def Obligations.HeldAndConfiguredStateStays : Prop :=
  (∀ (c : Instr) (s t : State), c ≠ .hardwareReset → exec c s = .next t →
     (s.link.state ≠ .off → t.params = s.params ∧ ∀ m : Fin 24, configuration t m = configuration s m) ∧
     (∀ n : BankName, n = s.sched.active ∨ s.sched.shadow ≠ .idle → bankOf n t = bankOf n s)) ∧
  (∀ (c : Instr) (s t : State) (m : Fin 24) (r : RxMailbox), c.wellFormed = true →
     (∀ code, c = .cmdWriteLost code → s.cmd.inFlight ≠ none) → exec c s = .next t → s.boxes[m] = .rx r →
     r.state = .held → c ≠ .hardwareReset → c ≠ .configMailbox →
     ∃ r', t.boxes[m] = .rx r' ∧ (c ≠ .release → r'.content = r.content ∧ (c ≠ .linkReset → r'.state = .held)) ∧
       (c = .release → s.cmd.arg0.toNat ≠ m.val → r' = r))
end

