-- ==== Sys2Proof/Laws/State.lean ====
section
/-! SUPPORT. What each plain update of the state leaves as it was: one lemma per field, true by `rfl`, so that no later proof
unfolds a record update. -/

namespace Sys2Proof.Machine

/-! ### setFlag -/

@[simp] theorem setFlag_params (f : Flag) (s : State) : (setFlag f s).params = s.params := rfl
@[simp] theorem setFlag_line (f : Flag) (s : State) : (setFlag f s).line = s.line := rfl
@[simp] theorem setFlag_rx (f : Flag) (s : State) : (setFlag f s).rx = s.rx := rfl
@[simp] theorem setFlag_tx (f : Flag) (s : State) : (setFlag f s).tx = s.tx := rfl
@[simp] theorem setFlag_timer (f : Flag) (s : State) : (setFlag f s).timer = s.timer := rfl
@[simp] theorem setFlag_points (f : Flag) (s : State) : (setFlag f s).points = s.points := rfl
@[simp] theorem setFlag_sched (f : Flag) (s : State) : (setFlag f s).sched = s.sched := rfl
@[simp] theorem setFlag_seq (f : Flag) (s : State) : (setFlag f s).seq = s.seq := rfl
@[simp] theorem setFlag_link (f : Flag) (s : State) : (setFlag f s).link = s.link := rfl
@[simp] theorem setFlag_sync (f : Flag) (s : State) : (setFlag f s).sync = s.sync := rfl
@[simp] theorem setFlag_boxes (f : Flag) (s : State) : (setFlag f s).boxes = s.boxes := rfl
@[simp] theorem setFlag_queue (f : Flag) (s : State) : (setFlag f s).queue = s.queue := rfl
@[simp] theorem setFlag_accept (f : Flag) (s : State) : (setFlag f s).accept = s.accept := rfl
@[simp] theorem setFlag_nodes (f : Flag) (s : State) : (setFlag f s).nodes = s.nodes := rfl
@[simp] theorem setFlag_irq_enables (f : Flag) (s : State) : (setFlag f s).irq.enables = s.irq.enables := rfl
@[simp] theorem setFlag_irq_fault (f : Flag) (s : State) : (setFlag f s).irq.fault = s.irq.fault := rfl
@[simp] theorem setFlag_irq_causes (f : Flag) (s : State) : (setFlag f s).irq.causes = s.irq.causes := rfl
@[simp] theorem setFlag_irq_attention (f : Flag) (s : State) : (setFlag f s).irq.attention = s.irq.attention := rfl
@[simp] theorem setFlag_irq_nodeChange (f : Flag) (s : State) : (setFlag f s).irq.nodeChange = s.irq.nodeChange := rfl
@[simp] theorem setFlag_irq_pointStatus (f : Flag) (s : State) : (setFlag f s).irq.pointStatus = s.irq.pointStatus := rfl
@[simp] theorem setFlag_irq_counters (f : Flag) (s : State) : (setFlag f s).irq.counters = s.irq.counters := rfl
@[simp] theorem setFlag_cmd (f : Flag) (s : State) : (setFlag f s).cmd = s.cmd := rfl
@[simp] theorem setFlag_win (f : Flag) (s : State) : (setFlag f s).win = s.win := rfl
@[simp] theorem setFlag_pending (f : Flag) (s : State) : (setFlag f s).pending = s.pending := rfl

/-! ### clearFlags -/

@[simp] theorem clearFlags_params (r : FlagRegister) (v : Byte) (s : State) : (clearFlags r v s).params = s.params := rfl
@[simp] theorem clearFlags_line (r : FlagRegister) (v : Byte) (s : State) : (clearFlags r v s).line = s.line := rfl
@[simp] theorem clearFlags_rx (r : FlagRegister) (v : Byte) (s : State) : (clearFlags r v s).rx = s.rx := rfl
@[simp] theorem clearFlags_tx (r : FlagRegister) (v : Byte) (s : State) : (clearFlags r v s).tx = s.tx := rfl
@[simp] theorem clearFlags_timer (r : FlagRegister) (v : Byte) (s : State) : (clearFlags r v s).timer = s.timer := rfl
@[simp] theorem clearFlags_points (r : FlagRegister) (v : Byte) (s : State) : (clearFlags r v s).points = s.points := rfl
@[simp] theorem clearFlags_sched (r : FlagRegister) (v : Byte) (s : State) : (clearFlags r v s).sched = s.sched := rfl
@[simp] theorem clearFlags_seq (r : FlagRegister) (v : Byte) (s : State) : (clearFlags r v s).seq = s.seq := rfl
@[simp] theorem clearFlags_link (r : FlagRegister) (v : Byte) (s : State) : (clearFlags r v s).link = s.link := rfl
@[simp] theorem clearFlags_sync (r : FlagRegister) (v : Byte) (s : State) : (clearFlags r v s).sync = s.sync := rfl
@[simp] theorem clearFlags_boxes (r : FlagRegister) (v : Byte) (s : State) : (clearFlags r v s).boxes = s.boxes := rfl
@[simp] theorem clearFlags_queue (r : FlagRegister) (v : Byte) (s : State) : (clearFlags r v s).queue = s.queue := rfl
@[simp] theorem clearFlags_accept (r : FlagRegister) (v : Byte) (s : State) : (clearFlags r v s).accept = s.accept := rfl
@[simp] theorem clearFlags_nodes (r : FlagRegister) (v : Byte) (s : State) : (clearFlags r v s).nodes = s.nodes := rfl
@[simp] theorem clearFlags_irq_enables (r : FlagRegister) (v : Byte) (s : State) : (clearFlags r v s).irq.enables = s.irq.enables := rfl
@[simp] theorem clearFlags_irq_fault (r : FlagRegister) (v : Byte) (s : State) : (clearFlags r v s).irq.fault = s.irq.fault := rfl
@[simp] theorem clearFlags_irq_causes (r : FlagRegister) (v : Byte) (s : State) : (clearFlags r v s).irq.causes = s.irq.causes := rfl
@[simp] theorem clearFlags_irq_attention (r : FlagRegister) (v : Byte) (s : State) : (clearFlags r v s).irq.attention = s.irq.attention := rfl
@[simp] theorem clearFlags_irq_nodeChange (r : FlagRegister) (v : Byte) (s : State) : (clearFlags r v s).irq.nodeChange = s.irq.nodeChange := rfl
@[simp] theorem clearFlags_irq_pointStatus (r : FlagRegister) (v : Byte) (s : State) : (clearFlags r v s).irq.pointStatus = s.irq.pointStatus := rfl
@[simp] theorem clearFlags_irq_counters (r : FlagRegister) (v : Byte) (s : State) : (clearFlags r v s).irq.counters = s.irq.counters := rfl
@[simp] theorem clearFlags_cmd (r : FlagRegister) (v : Byte) (s : State) : (clearFlags r v s).cmd = s.cmd := rfl
@[simp] theorem clearFlags_win (r : FlagRegister) (v : Byte) (s : State) : (clearFlags r v s).win = s.win := rfl
@[simp] theorem clearFlags_pending (r : FlagRegister) (v : Byte) (s : State) : (clearFlags r v s).pending = s.pending := rfl

/-! ### writeEnables -/

@[simp] theorem writeEnables_params (r : FlagRegister) (v : Byte) (s : State) : (writeEnables r v s).params = s.params := rfl
@[simp] theorem writeEnables_line (r : FlagRegister) (v : Byte) (s : State) : (writeEnables r v s).line = s.line := rfl
@[simp] theorem writeEnables_rx (r : FlagRegister) (v : Byte) (s : State) : (writeEnables r v s).rx = s.rx := rfl
@[simp] theorem writeEnables_tx (r : FlagRegister) (v : Byte) (s : State) : (writeEnables r v s).tx = s.tx := rfl
@[simp] theorem writeEnables_timer (r : FlagRegister) (v : Byte) (s : State) : (writeEnables r v s).timer = s.timer := rfl
@[simp] theorem writeEnables_points (r : FlagRegister) (v : Byte) (s : State) : (writeEnables r v s).points = s.points := rfl
@[simp] theorem writeEnables_sched (r : FlagRegister) (v : Byte) (s : State) : (writeEnables r v s).sched = s.sched := rfl
@[simp] theorem writeEnables_seq (r : FlagRegister) (v : Byte) (s : State) : (writeEnables r v s).seq = s.seq := rfl
@[simp] theorem writeEnables_link (r : FlagRegister) (v : Byte) (s : State) : (writeEnables r v s).link = s.link := rfl
@[simp] theorem writeEnables_sync (r : FlagRegister) (v : Byte) (s : State) : (writeEnables r v s).sync = s.sync := rfl
@[simp] theorem writeEnables_boxes (r : FlagRegister) (v : Byte) (s : State) : (writeEnables r v s).boxes = s.boxes := rfl
@[simp] theorem writeEnables_queue (r : FlagRegister) (v : Byte) (s : State) : (writeEnables r v s).queue = s.queue := rfl
@[simp] theorem writeEnables_accept (r : FlagRegister) (v : Byte) (s : State) : (writeEnables r v s).accept = s.accept := rfl
@[simp] theorem writeEnables_nodes (r : FlagRegister) (v : Byte) (s : State) : (writeEnables r v s).nodes = s.nodes := rfl
@[simp] theorem writeEnables_irq_fault (r : FlagRegister) (v : Byte) (s : State) : (writeEnables r v s).irq.fault = s.irq.fault := rfl
@[simp] theorem writeEnables_irq_flags (r : FlagRegister) (v : Byte) (s : State) : (writeEnables r v s).irq.flags = s.irq.flags := rfl
@[simp] theorem writeEnables_irq_causes (r : FlagRegister) (v : Byte) (s : State) : (writeEnables r v s).irq.causes = s.irq.causes := rfl
@[simp] theorem writeEnables_irq_attention (r : FlagRegister) (v : Byte) (s : State) : (writeEnables r v s).irq.attention = s.irq.attention := rfl
@[simp] theorem writeEnables_irq_nodeChange (r : FlagRegister) (v : Byte) (s : State) : (writeEnables r v s).irq.nodeChange = s.irq.nodeChange := rfl
@[simp] theorem writeEnables_irq_pointStatus (r : FlagRegister) (v : Byte) (s : State) : (writeEnables r v s).irq.pointStatus = s.irq.pointStatus := rfl
@[simp] theorem writeEnables_irq_counters (r : FlagRegister) (v : Byte) (s : State) : (writeEnables r v s).irq.counters = s.irq.counters := rfl
@[simp] theorem writeEnables_cmd (r : FlagRegister) (v : Byte) (s : State) : (writeEnables r v s).cmd = s.cmd := rfl
@[simp] theorem writeEnables_win (r : FlagRegister) (v : Byte) (s : State) : (writeEnables r v s).win = s.win := rfl
@[simp] theorem writeEnables_pending (r : FlagRegister) (v : Byte) (s : State) : (writeEnables r v s).pending = s.pending := rfl

/-! ### bump -/

@[simp] theorem bump_params (c : Counter) (s : State) : (bump c s).params = s.params := rfl
@[simp] theorem bump_line (c : Counter) (s : State) : (bump c s).line = s.line := rfl
@[simp] theorem bump_rx (c : Counter) (s : State) : (bump c s).rx = s.rx := rfl
@[simp] theorem bump_tx (c : Counter) (s : State) : (bump c s).tx = s.tx := rfl
@[simp] theorem bump_timer (c : Counter) (s : State) : (bump c s).timer = s.timer := rfl
@[simp] theorem bump_points (c : Counter) (s : State) : (bump c s).points = s.points := rfl
@[simp] theorem bump_sched (c : Counter) (s : State) : (bump c s).sched = s.sched := rfl
@[simp] theorem bump_seq (c : Counter) (s : State) : (bump c s).seq = s.seq := rfl
@[simp] theorem bump_link (c : Counter) (s : State) : (bump c s).link = s.link := rfl
@[simp] theorem bump_sync (c : Counter) (s : State) : (bump c s).sync = s.sync := rfl
@[simp] theorem bump_boxes (c : Counter) (s : State) : (bump c s).boxes = s.boxes := rfl
@[simp] theorem bump_queue (c : Counter) (s : State) : (bump c s).queue = s.queue := rfl
@[simp] theorem bump_accept (c : Counter) (s : State) : (bump c s).accept = s.accept := rfl
@[simp] theorem bump_nodes (c : Counter) (s : State) : (bump c s).nodes = s.nodes := rfl
@[simp] theorem bump_irq_enables (c : Counter) (s : State) : (bump c s).irq.enables = s.irq.enables := rfl
@[simp] theorem bump_irq_fault (c : Counter) (s : State) : (bump c s).irq.fault = s.irq.fault := rfl
@[simp] theorem bump_irq_flags (c : Counter) (s : State) : (bump c s).irq.flags = s.irq.flags := rfl
@[simp] theorem bump_irq_causes (c : Counter) (s : State) : (bump c s).irq.causes = s.irq.causes := rfl
@[simp] theorem bump_irq_attention (c : Counter) (s : State) : (bump c s).irq.attention = s.irq.attention := rfl
@[simp] theorem bump_irq_nodeChange (c : Counter) (s : State) : (bump c s).irq.nodeChange = s.irq.nodeChange := rfl
@[simp] theorem bump_irq_pointStatus (c : Counter) (s : State) : (bump c s).irq.pointStatus = s.irq.pointStatus := rfl
@[simp] theorem bump_cmd (c : Counter) (s : State) : (bump c s).cmd = s.cmd := rfl
@[simp] theorem bump_win (c : Counter) (s : State) : (bump c s).win = s.win := rfl
@[simp] theorem bump_pending (c : Counter) (s : State) : (bump c s).pending = s.pending := rfl

/-! ### lineError -/

@[simp] theorem lineError_params (c : Counter) (s : State) : (lineError c s).params = s.params := rfl
@[simp] theorem lineError_line (c : Counter) (s : State) : (lineError c s).line = s.line := rfl
@[simp] theorem lineError_rx (c : Counter) (s : State) : (lineError c s).rx = s.rx := rfl
@[simp] theorem lineError_tx (c : Counter) (s : State) : (lineError c s).tx = s.tx := rfl
@[simp] theorem lineError_timer (c : Counter) (s : State) : (lineError c s).timer = s.timer := rfl
@[simp] theorem lineError_points (c : Counter) (s : State) : (lineError c s).points = s.points := rfl
@[simp] theorem lineError_sched (c : Counter) (s : State) : (lineError c s).sched = s.sched := rfl
@[simp] theorem lineError_seq (c : Counter) (s : State) : (lineError c s).seq = s.seq := rfl
@[simp] theorem lineError_link (c : Counter) (s : State) : (lineError c s).link = s.link := rfl
@[simp] theorem lineError_sync (c : Counter) (s : State) : (lineError c s).sync = s.sync := rfl
@[simp] theorem lineError_boxes (c : Counter) (s : State) : (lineError c s).boxes = s.boxes := rfl
@[simp] theorem lineError_queue (c : Counter) (s : State) : (lineError c s).queue = s.queue := rfl
@[simp] theorem lineError_accept (c : Counter) (s : State) : (lineError c s).accept = s.accept := rfl
@[simp] theorem lineError_nodes (c : Counter) (s : State) : (lineError c s).nodes = s.nodes := rfl
@[simp] theorem lineError_irq_enables (c : Counter) (s : State) : (lineError c s).irq.enables = s.irq.enables := rfl
@[simp] theorem lineError_irq_fault (c : Counter) (s : State) : (lineError c s).irq.fault = s.irq.fault := rfl
@[simp] theorem lineError_irq_causes (c : Counter) (s : State) : (lineError c s).irq.causes = s.irq.causes := rfl
@[simp] theorem lineError_irq_attention (c : Counter) (s : State) : (lineError c s).irq.attention = s.irq.attention := rfl
@[simp] theorem lineError_irq_nodeChange (c : Counter) (s : State) : (lineError c s).irq.nodeChange = s.irq.nodeChange := rfl
@[simp] theorem lineError_irq_pointStatus (c : Counter) (s : State) : (lineError c s).irq.pointStatus = s.irq.pointStatus := rfl
@[simp] theorem lineError_cmd (c : Counter) (s : State) : (lineError c s).cmd = s.cmd := rfl
@[simp] theorem lineError_win (c : Counter) (s : State) : (lineError c s).win = s.win := rfl
@[simp] theorem lineError_pending (c : Counter) (s : State) : (lineError c s).pending = s.pending := rfl

/-! ### raiseAttention -/

@[simp] theorem raiseAttention_params (m : Fin 24) (s : State) : (raiseAttention m s).params = s.params := rfl
@[simp] theorem raiseAttention_line (m : Fin 24) (s : State) : (raiseAttention m s).line = s.line := rfl
@[simp] theorem raiseAttention_rx (m : Fin 24) (s : State) : (raiseAttention m s).rx = s.rx := rfl
@[simp] theorem raiseAttention_tx (m : Fin 24) (s : State) : (raiseAttention m s).tx = s.tx := rfl
@[simp] theorem raiseAttention_timer (m : Fin 24) (s : State) : (raiseAttention m s).timer = s.timer := rfl
@[simp] theorem raiseAttention_points (m : Fin 24) (s : State) : (raiseAttention m s).points = s.points := rfl
@[simp] theorem raiseAttention_sched (m : Fin 24) (s : State) : (raiseAttention m s).sched = s.sched := rfl
@[simp] theorem raiseAttention_seq (m : Fin 24) (s : State) : (raiseAttention m s).seq = s.seq := rfl
@[simp] theorem raiseAttention_link (m : Fin 24) (s : State) : (raiseAttention m s).link = s.link := rfl
@[simp] theorem raiseAttention_sync (m : Fin 24) (s : State) : (raiseAttention m s).sync = s.sync := rfl
@[simp] theorem raiseAttention_boxes (m : Fin 24) (s : State) : (raiseAttention m s).boxes = s.boxes := rfl
@[simp] theorem raiseAttention_queue (m : Fin 24) (s : State) : (raiseAttention m s).queue = s.queue := rfl
@[simp] theorem raiseAttention_accept (m : Fin 24) (s : State) : (raiseAttention m s).accept = s.accept := rfl
@[simp] theorem raiseAttention_nodes (m : Fin 24) (s : State) : (raiseAttention m s).nodes = s.nodes := rfl
@[simp] theorem raiseAttention_irq_enables (m : Fin 24) (s : State) : (raiseAttention m s).irq.enables = s.irq.enables := rfl
@[simp] theorem raiseAttention_irq_fault (m : Fin 24) (s : State) : (raiseAttention m s).irq.fault = s.irq.fault := rfl
@[simp] theorem raiseAttention_irq_causes (m : Fin 24) (s : State) : (raiseAttention m s).irq.causes = s.irq.causes := rfl
@[simp] theorem raiseAttention_irq_nodeChange (m : Fin 24) (s : State) : (raiseAttention m s).irq.nodeChange = s.irq.nodeChange := rfl
@[simp] theorem raiseAttention_irq_pointStatus (m : Fin 24) (s : State) : (raiseAttention m s).irq.pointStatus = s.irq.pointStatus := rfl
@[simp] theorem raiseAttention_irq_counters (m : Fin 24) (s : State) : (raiseAttention m s).irq.counters = s.irq.counters := rfl
@[simp] theorem raiseAttention_cmd (m : Fin 24) (s : State) : (raiseAttention m s).cmd = s.cmd := rfl
@[simp] theorem raiseAttention_win (m : Fin 24) (s : State) : (raiseAttention m s).win = s.win := rfl
@[simp] theorem raiseAttention_pending (m : Fin 24) (s : State) : (raiseAttention m s).pending = s.pending := rfl

/-! ### raiseNodeChange -/

@[simp] theorem raiseNodeChange_params (n : Fin 16) (s : State) : (raiseNodeChange n s).params = s.params := rfl
@[simp] theorem raiseNodeChange_line (n : Fin 16) (s : State) : (raiseNodeChange n s).line = s.line := rfl
@[simp] theorem raiseNodeChange_rx (n : Fin 16) (s : State) : (raiseNodeChange n s).rx = s.rx := rfl
@[simp] theorem raiseNodeChange_tx (n : Fin 16) (s : State) : (raiseNodeChange n s).tx = s.tx := rfl
@[simp] theorem raiseNodeChange_timer (n : Fin 16) (s : State) : (raiseNodeChange n s).timer = s.timer := rfl
@[simp] theorem raiseNodeChange_points (n : Fin 16) (s : State) : (raiseNodeChange n s).points = s.points := rfl
@[simp] theorem raiseNodeChange_sched (n : Fin 16) (s : State) : (raiseNodeChange n s).sched = s.sched := rfl
@[simp] theorem raiseNodeChange_seq (n : Fin 16) (s : State) : (raiseNodeChange n s).seq = s.seq := rfl
@[simp] theorem raiseNodeChange_link (n : Fin 16) (s : State) : (raiseNodeChange n s).link = s.link := rfl
@[simp] theorem raiseNodeChange_sync (n : Fin 16) (s : State) : (raiseNodeChange n s).sync = s.sync := rfl
@[simp] theorem raiseNodeChange_boxes (n : Fin 16) (s : State) : (raiseNodeChange n s).boxes = s.boxes := rfl
@[simp] theorem raiseNodeChange_queue (n : Fin 16) (s : State) : (raiseNodeChange n s).queue = s.queue := rfl
@[simp] theorem raiseNodeChange_accept (n : Fin 16) (s : State) : (raiseNodeChange n s).accept = s.accept := rfl
@[simp] theorem raiseNodeChange_nodes (n : Fin 16) (s : State) : (raiseNodeChange n s).nodes = s.nodes := rfl
@[simp] theorem raiseNodeChange_irq_enables (n : Fin 16) (s : State) : (raiseNodeChange n s).irq.enables = s.irq.enables := rfl
@[simp] theorem raiseNodeChange_irq_fault (n : Fin 16) (s : State) : (raiseNodeChange n s).irq.fault = s.irq.fault := rfl
@[simp] theorem raiseNodeChange_irq_causes (n : Fin 16) (s : State) : (raiseNodeChange n s).irq.causes = s.irq.causes := rfl
@[simp] theorem raiseNodeChange_irq_attention (n : Fin 16) (s : State) : (raiseNodeChange n s).irq.attention = s.irq.attention := rfl
@[simp] theorem raiseNodeChange_irq_pointStatus (n : Fin 16) (s : State) : (raiseNodeChange n s).irq.pointStatus = s.irq.pointStatus := rfl
@[simp] theorem raiseNodeChange_irq_counters (n : Fin 16) (s : State) : (raiseNodeChange n s).irq.counters = s.irq.counters := rfl
@[simp] theorem raiseNodeChange_cmd (n : Fin 16) (s : State) : (raiseNodeChange n s).cmd = s.cmd := rfl
@[simp] theorem raiseNodeChange_win (n : Fin 16) (s : State) : (raiseNodeChange n s).win = s.win := rfl
@[simp] theorem raiseNodeChange_pending (n : Fin 16) (s : State) : (raiseNodeChange n s).pending = s.pending := rfl

/-! ### updateCauses -/

@[simp] theorem updateCauses_params (f : Causes → Causes) (s : State) : (updateCauses f s).params = s.params := rfl
@[simp] theorem updateCauses_line (f : Causes → Causes) (s : State) : (updateCauses f s).line = s.line := rfl
@[simp] theorem updateCauses_rx (f : Causes → Causes) (s : State) : (updateCauses f s).rx = s.rx := rfl
@[simp] theorem updateCauses_tx (f : Causes → Causes) (s : State) : (updateCauses f s).tx = s.tx := rfl
@[simp] theorem updateCauses_timer (f : Causes → Causes) (s : State) : (updateCauses f s).timer = s.timer := rfl
@[simp] theorem updateCauses_points (f : Causes → Causes) (s : State) : (updateCauses f s).points = s.points := rfl
@[simp] theorem updateCauses_sched (f : Causes → Causes) (s : State) : (updateCauses f s).sched = s.sched := rfl
@[simp] theorem updateCauses_seq (f : Causes → Causes) (s : State) : (updateCauses f s).seq = s.seq := rfl
@[simp] theorem updateCauses_link (f : Causes → Causes) (s : State) : (updateCauses f s).link = s.link := rfl
@[simp] theorem updateCauses_sync (f : Causes → Causes) (s : State) : (updateCauses f s).sync = s.sync := rfl
@[simp] theorem updateCauses_boxes (f : Causes → Causes) (s : State) : (updateCauses f s).boxes = s.boxes := rfl
@[simp] theorem updateCauses_queue (f : Causes → Causes) (s : State) : (updateCauses f s).queue = s.queue := rfl
@[simp] theorem updateCauses_accept (f : Causes → Causes) (s : State) : (updateCauses f s).accept = s.accept := rfl
@[simp] theorem updateCauses_nodes (f : Causes → Causes) (s : State) : (updateCauses f s).nodes = s.nodes := rfl
@[simp] theorem updateCauses_irq_enables (f : Causes → Causes) (s : State) : (updateCauses f s).irq.enables = s.irq.enables := rfl
@[simp] theorem updateCauses_irq_fault (f : Causes → Causes) (s : State) : (updateCauses f s).irq.fault = s.irq.fault := rfl
@[simp] theorem updateCauses_irq_flags (f : Causes → Causes) (s : State) : (updateCauses f s).irq.flags = s.irq.flags := rfl
@[simp] theorem updateCauses_irq_attention (f : Causes → Causes) (s : State) : (updateCauses f s).irq.attention = s.irq.attention := rfl
@[simp] theorem updateCauses_irq_nodeChange (f : Causes → Causes) (s : State) : (updateCauses f s).irq.nodeChange = s.irq.nodeChange := rfl
@[simp] theorem updateCauses_irq_pointStatus (f : Causes → Causes) (s : State) : (updateCauses f s).irq.pointStatus = s.irq.pointStatus := rfl
@[simp] theorem updateCauses_irq_counters (f : Causes → Causes) (s : State) : (updateCauses f s).irq.counters = s.irq.counters := rfl
@[simp] theorem updateCauses_cmd (f : Causes → Causes) (s : State) : (updateCauses f s).cmd = s.cmd := rfl
@[simp] theorem updateCauses_win (f : Causes → Causes) (s : State) : (updateCauses f s).win = s.win := rfl
@[simp] theorem updateCauses_pending (f : Causes → Causes) (s : State) : (updateCauses f s).pending = s.pending := rfl

/-! ### recordRefusal -/

@[simp] theorem recordRefusal_params (a : WindowAddress) (s : State) : (recordRefusal a s).params = s.params := rfl
@[simp] theorem recordRefusal_line (a : WindowAddress) (s : State) : (recordRefusal a s).line = s.line := rfl
@[simp] theorem recordRefusal_rx (a : WindowAddress) (s : State) : (recordRefusal a s).rx = s.rx := rfl
@[simp] theorem recordRefusal_tx (a : WindowAddress) (s : State) : (recordRefusal a s).tx = s.tx := rfl
@[simp] theorem recordRefusal_timer (a : WindowAddress) (s : State) : (recordRefusal a s).timer = s.timer := rfl
@[simp] theorem recordRefusal_points (a : WindowAddress) (s : State) : (recordRefusal a s).points = s.points := rfl
@[simp] theorem recordRefusal_sched (a : WindowAddress) (s : State) : (recordRefusal a s).sched = s.sched := rfl
@[simp] theorem recordRefusal_seq (a : WindowAddress) (s : State) : (recordRefusal a s).seq = s.seq := rfl
@[simp] theorem recordRefusal_link (a : WindowAddress) (s : State) : (recordRefusal a s).link = s.link := rfl
@[simp] theorem recordRefusal_sync (a : WindowAddress) (s : State) : (recordRefusal a s).sync = s.sync := rfl
@[simp] theorem recordRefusal_boxes (a : WindowAddress) (s : State) : (recordRefusal a s).boxes = s.boxes := rfl
@[simp] theorem recordRefusal_queue (a : WindowAddress) (s : State) : (recordRefusal a s).queue = s.queue := rfl
@[simp] theorem recordRefusal_accept (a : WindowAddress) (s : State) : (recordRefusal a s).accept = s.accept := rfl
@[simp] theorem recordRefusal_nodes (a : WindowAddress) (s : State) : (recordRefusal a s).nodes = s.nodes := rfl
@[simp] theorem recordRefusal_irq_enables (a : WindowAddress) (s : State) : (recordRefusal a s).irq.enables = s.irq.enables := rfl
@[simp] theorem recordRefusal_irq_causes (a : WindowAddress) (s : State) : (recordRefusal a s).irq.causes = s.irq.causes := rfl
@[simp] theorem recordRefusal_irq_attention (a : WindowAddress) (s : State) : (recordRefusal a s).irq.attention = s.irq.attention := rfl
@[simp] theorem recordRefusal_irq_nodeChange (a : WindowAddress) (s : State) : (recordRefusal a s).irq.nodeChange = s.irq.nodeChange := rfl
@[simp] theorem recordRefusal_irq_pointStatus (a : WindowAddress) (s : State) : (recordRefusal a s).irq.pointStatus = s.irq.pointStatus := rfl
@[simp] theorem recordRefusal_irq_counters (a : WindowAddress) (s : State) : (recordRefusal a s).irq.counters = s.irq.counters := rfl
@[simp] theorem recordRefusal_cmd (a : WindowAddress) (s : State) : (recordRefusal a s).cmd = s.cmd := rfl
@[simp] theorem recordRefusal_win (a : WindowAddress) (s : State) : (recordRefusal a s).win = s.win := rfl
@[simp] theorem recordRefusal_pending (a : WindowAddress) (s : State) : (recordRefusal a s).pending = s.pending := rfl

/-! ### zeroCounters -/

@[simp] theorem zeroCounters_params (s : State) : (zeroCounters s).params = s.params := rfl
@[simp] theorem zeroCounters_line (s : State) : (zeroCounters s).line = s.line := rfl
@[simp] theorem zeroCounters_rx (s : State) : (zeroCounters s).rx = s.rx := rfl
@[simp] theorem zeroCounters_tx (s : State) : (zeroCounters s).tx = s.tx := rfl
@[simp] theorem zeroCounters_timer (s : State) : (zeroCounters s).timer = s.timer := rfl
@[simp] theorem zeroCounters_points (s : State) : (zeroCounters s).points = s.points := rfl
@[simp] theorem zeroCounters_sched (s : State) : (zeroCounters s).sched = s.sched := rfl
@[simp] theorem zeroCounters_seq (s : State) : (zeroCounters s).seq = s.seq := rfl
@[simp] theorem zeroCounters_link (s : State) : (zeroCounters s).link = s.link := rfl
@[simp] theorem zeroCounters_sync (s : State) : (zeroCounters s).sync = s.sync := rfl
@[simp] theorem zeroCounters_boxes (s : State) : (zeroCounters s).boxes = s.boxes := rfl
@[simp] theorem zeroCounters_queue (s : State) : (zeroCounters s).queue = s.queue := rfl
@[simp] theorem zeroCounters_accept (s : State) : (zeroCounters s).accept = s.accept := rfl
@[simp] theorem zeroCounters_nodes (s : State) : (zeroCounters s).nodes = s.nodes := rfl
@[simp] theorem zeroCounters_irq_enables (s : State) : (zeroCounters s).irq.enables = s.irq.enables := rfl
@[simp] theorem zeroCounters_irq_fault (s : State) : (zeroCounters s).irq.fault = s.irq.fault := rfl
@[simp] theorem zeroCounters_irq_flags (s : State) : (zeroCounters s).irq.flags = s.irq.flags := rfl
@[simp] theorem zeroCounters_irq_causes (s : State) : (zeroCounters s).irq.causes = s.irq.causes := rfl
@[simp] theorem zeroCounters_irq_attention (s : State) : (zeroCounters s).irq.attention = s.irq.attention := rfl
@[simp] theorem zeroCounters_irq_nodeChange (s : State) : (zeroCounters s).irq.nodeChange = s.irq.nodeChange := rfl
@[simp] theorem zeroCounters_irq_pointStatus (s : State) : (zeroCounters s).irq.pointStatus = s.irq.pointStatus := rfl
@[simp] theorem zeroCounters_cmd (s : State) : (zeroCounters s).cmd = s.cmd := rfl
@[simp] theorem zeroCounters_win (s : State) : (zeroCounters s).win = s.win := rfl
@[simp] theorem zeroCounters_pending (s : State) : (zeroCounters s).pending = s.pending := rfl

/-! ### resetNodes -/

@[simp] theorem resetNodes_params (s : State) : (resetNodes s).params = s.params := rfl
@[simp] theorem resetNodes_line (s : State) : (resetNodes s).line = s.line := rfl
@[simp] theorem resetNodes_rx (s : State) : (resetNodes s).rx = s.rx := rfl
@[simp] theorem resetNodes_tx (s : State) : (resetNodes s).tx = s.tx := rfl
@[simp] theorem resetNodes_timer (s : State) : (resetNodes s).timer = s.timer := rfl
@[simp] theorem resetNodes_points (s : State) : (resetNodes s).points = s.points := rfl
@[simp] theorem resetNodes_sched (s : State) : (resetNodes s).sched = s.sched := rfl
@[simp] theorem resetNodes_seq (s : State) : (resetNodes s).seq = s.seq := rfl
@[simp] theorem resetNodes_link (s : State) : (resetNodes s).link = s.link := rfl
@[simp] theorem resetNodes_sync (s : State) : (resetNodes s).sync = s.sync := rfl
@[simp] theorem resetNodes_boxes (s : State) : (resetNodes s).boxes = s.boxes := rfl
@[simp] theorem resetNodes_queue (s : State) : (resetNodes s).queue = s.queue := rfl
@[simp] theorem resetNodes_accept (s : State) : (resetNodes s).accept = s.accept := rfl
@[simp] theorem resetNodes_irq (s : State) : (resetNodes s).irq = s.irq := rfl
@[simp] theorem resetNodes_cmd (s : State) : (resetNodes s).cmd = s.cmd := rfl
@[simp] theorem resetNodes_win (s : State) : (resetNodes s).win = s.win := rfl
@[simp] theorem resetNodes_pending (s : State) : (resetNodes s).pending = s.pending := rfl

/-! ### clearFired -/

@[simp] theorem clearFired_params (s : State) : (clearFired s).params = s.params := rfl
@[simp] theorem clearFired_line (s : State) : (clearFired s).line = s.line := rfl
@[simp] theorem clearFired_rx (s : State) : (clearFired s).rx = s.rx := rfl
@[simp] theorem clearFired_tx (s : State) : (clearFired s).tx = s.tx := rfl
@[simp] theorem clearFired_timer (s : State) : (clearFired s).timer = s.timer := rfl
@[simp] theorem clearFired_sched (s : State) : (clearFired s).sched = s.sched := rfl
@[simp] theorem clearFired_seq (s : State) : (clearFired s).seq = s.seq := rfl
@[simp] theorem clearFired_link (s : State) : (clearFired s).link = s.link := rfl
@[simp] theorem clearFired_sync (s : State) : (clearFired s).sync = s.sync := rfl
@[simp] theorem clearFired_boxes (s : State) : (clearFired s).boxes = s.boxes := rfl
@[simp] theorem clearFired_queue (s : State) : (clearFired s).queue = s.queue := rfl
@[simp] theorem clearFired_accept (s : State) : (clearFired s).accept = s.accept := rfl
@[simp] theorem clearFired_nodes (s : State) : (clearFired s).nodes = s.nodes := rfl
@[simp] theorem clearFired_irq (s : State) : (clearFired s).irq = s.irq := rfl
@[simp] theorem clearFired_cmd (s : State) : (clearFired s).cmd = s.cmd := rfl
@[simp] theorem clearFired_win (s : State) : (clearFired s).win = s.win := rfl
@[simp] theorem clearFired_pending (s : State) : (clearFired s).pending = s.pending := rfl

/-! ### leaveQueue -/

@[simp] theorem leaveQueue_params (m : Fin 24) (s : State) : (leaveQueue m s).params = s.params := rfl
@[simp] theorem leaveQueue_line (m : Fin 24) (s : State) : (leaveQueue m s).line = s.line := rfl
@[simp] theorem leaveQueue_rx (m : Fin 24) (s : State) : (leaveQueue m s).rx = s.rx := rfl
@[simp] theorem leaveQueue_tx (m : Fin 24) (s : State) : (leaveQueue m s).tx = s.tx := rfl
@[simp] theorem leaveQueue_timer (m : Fin 24) (s : State) : (leaveQueue m s).timer = s.timer := rfl
@[simp] theorem leaveQueue_points (m : Fin 24) (s : State) : (leaveQueue m s).points = s.points := rfl
@[simp] theorem leaveQueue_sched (m : Fin 24) (s : State) : (leaveQueue m s).sched = s.sched := rfl
@[simp] theorem leaveQueue_seq (m : Fin 24) (s : State) : (leaveQueue m s).seq = s.seq := rfl
@[simp] theorem leaveQueue_link (m : Fin 24) (s : State) : (leaveQueue m s).link = s.link := rfl
@[simp] theorem leaveQueue_sync (m : Fin 24) (s : State) : (leaveQueue m s).sync = s.sync := rfl
@[simp] theorem leaveQueue_boxes (m : Fin 24) (s : State) : (leaveQueue m s).boxes = s.boxes := rfl
@[simp] theorem leaveQueue_accept (m : Fin 24) (s : State) : (leaveQueue m s).accept = s.accept := rfl
@[simp] theorem leaveQueue_nodes (m : Fin 24) (s : State) : (leaveQueue m s).nodes = s.nodes := rfl
@[simp] theorem leaveQueue_irq (m : Fin 24) (s : State) : (leaveQueue m s).irq = s.irq := rfl
@[simp] theorem leaveQueue_cmd (m : Fin 24) (s : State) : (leaveQueue m s).cmd = s.cmd := rfl
@[simp] theorem leaveQueue_win (m : Fin 24) (s : State) : (leaveQueue m s).win = s.win := rfl
@[simp] theorem leaveQueue_pending (m : Fin 24) (s : State) : (leaveQueue m s).pending = s.pending := rfl

/-! ### settleWait -/

@[simp] theorem settleWait_params (s : State) : (settleWait s).params = s.params := rfl
@[simp] theorem settleWait_line (s : State) : (settleWait s).line = s.line := rfl
@[simp] theorem settleWait_rx (s : State) : (settleWait s).rx = s.rx := rfl
@[simp] theorem settleWait_tx (s : State) : (settleWait s).tx = s.tx := rfl
@[simp] theorem settleWait_timer (s : State) : (settleWait s).timer = s.timer := rfl
@[simp] theorem settleWait_points (s : State) : (settleWait s).points = s.points := rfl
@[simp] theorem settleWait_sched (s : State) : (settleWait s).sched = s.sched := rfl
@[simp] theorem settleWait_seq (s : State) : (settleWait s).seq = s.seq := rfl
@[simp] theorem settleWait_link (s : State) : (settleWait s).link = s.link := rfl
@[simp] theorem settleWait_sync (s : State) : (settleWait s).sync = s.sync := rfl
@[simp] theorem settleWait_boxes (s : State) : (settleWait s).boxes = s.boxes := rfl
@[simp] theorem settleWait_queue_entries (s : State) : (settleWait s).queue.entries = s.queue.entries := rfl
@[simp] theorem settleWait_queue_turnedAway (s : State) : (settleWait s).queue.turnedAway = s.queue.turnedAway := rfl
@[simp] theorem settleWait_accept (s : State) : (settleWait s).accept = s.accept := rfl
@[simp] theorem settleWait_nodes (s : State) : (settleWait s).nodes = s.nodes := rfl
@[simp] theorem settleWait_irq (s : State) : (settleWait s).irq = s.irq := rfl
@[simp] theorem settleWait_cmd (s : State) : (settleWait s).cmd = s.cmd := rfl
@[simp] theorem settleWait_win (s : State) : (settleWait s).win = s.win := rfl
@[simp] theorem settleWait_pending (s : State) : (settleWait s).pending = s.pending := rfl

/-! ### transmitterIdle -/

@[simp] theorem transmitterIdle_params (s : State) : (transmitterIdle s).params = s.params := rfl
@[simp] theorem transmitterIdle_line (s : State) : (transmitterIdle s).line = s.line := rfl
@[simp] theorem transmitterIdle_timer (s : State) : (transmitterIdle s).timer = s.timer := rfl
@[simp] theorem transmitterIdle_points (s : State) : (transmitterIdle s).points = s.points := rfl
@[simp] theorem transmitterIdle_sched (s : State) : (transmitterIdle s).sched = s.sched := rfl
@[simp] theorem transmitterIdle_seq (s : State) : (transmitterIdle s).seq = s.seq := rfl
@[simp] theorem transmitterIdle_link (s : State) : (transmitterIdle s).link = s.link := rfl
@[simp] theorem transmitterIdle_sync (s : State) : (transmitterIdle s).sync = s.sync := rfl
@[simp] theorem transmitterIdle_boxes (s : State) : (transmitterIdle s).boxes = s.boxes := rfl
@[simp] theorem transmitterIdle_queue (s : State) : (transmitterIdle s).queue = s.queue := rfl
@[simp] theorem transmitterIdle_accept (s : State) : (transmitterIdle s).accept = s.accept := rfl
@[simp] theorem transmitterIdle_nodes (s : State) : (transmitterIdle s).nodes = s.nodes := rfl
@[simp] theorem transmitterIdle_irq (s : State) : (transmitterIdle s).irq = s.irq := rfl
@[simp] theorem transmitterIdle_cmd (s : State) : (transmitterIdle s).cmd = s.cmd := rfl
@[simp] theorem transmitterIdle_win (s : State) : (transmitterIdle s).win = s.win := rfl
@[simp] theorem transmitterIdle_pending (s : State) : (transmitterIdle s).pending = s.pending := rfl

/-! ### closeSlot -/

@[simp] theorem closeSlot_params (s : State) : (closeSlot s).params = s.params := rfl
@[simp] theorem closeSlot_line (s : State) : (closeSlot s).line = s.line := rfl
@[simp] theorem closeSlot_rx (s : State) : (closeSlot s).rx = s.rx := rfl
@[simp] theorem closeSlot_tx (s : State) : (closeSlot s).tx = s.tx := rfl
@[simp] theorem closeSlot_timer (s : State) : (closeSlot s).timer = s.timer := rfl
@[simp] theorem closeSlot_points (s : State) : (closeSlot s).points = s.points := rfl
@[simp] theorem closeSlot_sched (s : State) : (closeSlot s).sched = s.sched := rfl
@[simp] theorem closeSlot_seq_nextIndex (s : State) : (closeSlot s).seq.nextIndex = s.seq.nextIndex := rfl
@[simp] theorem closeSlot_link (s : State) : (closeSlot s).link = s.link := rfl
@[simp] theorem closeSlot_sync (s : State) : (closeSlot s).sync = s.sync := rfl
@[simp] theorem closeSlot_boxes (s : State) : (closeSlot s).boxes = s.boxes := rfl
@[simp] theorem closeSlot_queue_entries (s : State) : (closeSlot s).queue.entries = s.queue.entries := rfl
@[simp] theorem closeSlot_accept (s : State) : (closeSlot s).accept = s.accept := rfl
@[simp] theorem closeSlot_nodes (s : State) : (closeSlot s).nodes = s.nodes := rfl
@[simp] theorem closeSlot_irq (s : State) : (closeSlot s).irq = s.irq := rfl
@[simp] theorem closeSlot_cmd (s : State) : (closeSlot s).cmd = s.cmd := rfl
@[simp] theorem closeSlot_win (s : State) : (closeSlot s).win = s.win := rfl
@[simp] theorem closeSlot_pending (s : State) : (closeSlot s).pending = s.pending := rfl

/-! ### setSlot -/

@[simp] theorem setSlot_params (sl : Slot) (s : State) : (setSlot sl s).params = s.params := rfl
@[simp] theorem setSlot_line (sl : Slot) (s : State) : (setSlot sl s).line = s.line := rfl
@[simp] theorem setSlot_rx (sl : Slot) (s : State) : (setSlot sl s).rx = s.rx := rfl
@[simp] theorem setSlot_tx (sl : Slot) (s : State) : (setSlot sl s).tx = s.tx := rfl
@[simp] theorem setSlot_timer (sl : Slot) (s : State) : (setSlot sl s).timer = s.timer := rfl
@[simp] theorem setSlot_points (sl : Slot) (s : State) : (setSlot sl s).points = s.points := rfl
@[simp] theorem setSlot_sched (sl : Slot) (s : State) : (setSlot sl s).sched = s.sched := rfl
@[simp] theorem setSlot_seq_nextIndex (sl : Slot) (s : State) : (setSlot sl s).seq.nextIndex = s.seq.nextIndex := rfl
@[simp] theorem setSlot_link (sl : Slot) (s : State) : (setSlot sl s).link = s.link := rfl
@[simp] theorem setSlot_sync (sl : Slot) (s : State) : (setSlot sl s).sync = s.sync := rfl
@[simp] theorem setSlot_boxes (sl : Slot) (s : State) : (setSlot sl s).boxes = s.boxes := rfl
@[simp] theorem setSlot_queue (sl : Slot) (s : State) : (setSlot sl s).queue = s.queue := rfl
@[simp] theorem setSlot_accept (sl : Slot) (s : State) : (setSlot sl s).accept = s.accept := rfl
@[simp] theorem setSlot_nodes (sl : Slot) (s : State) : (setSlot sl s).nodes = s.nodes := rfl
@[simp] theorem setSlot_irq (sl : Slot) (s : State) : (setSlot sl s).irq = s.irq := rfl
@[simp] theorem setSlot_cmd (sl : Slot) (s : State) : (setSlot sl s).cmd = s.cmd := rfl
@[simp] theorem setSlot_win (sl : Slot) (s : State) : (setSlot sl s).win = s.win := rfl
@[simp] theorem setSlot_pending (sl : Slot) (s : State) : (setSlot sl s).pending = s.pending := rfl

/-! ### stopTimer -/

@[simp] theorem stopTimer_params (s : State) : (stopTimer s).params = s.params := rfl
@[simp] theorem stopTimer_line (s : State) : (stopTimer s).line = s.line := rfl
@[simp] theorem stopTimer_rx (s : State) : (stopTimer s).rx = s.rx := rfl
@[simp] theorem stopTimer_tx (s : State) : (stopTimer s).tx = s.tx := rfl
@[simp] theorem stopTimer_timer_cycle (s : State) : (stopTimer s).timer.cycle = s.timer.cycle := rfl
@[simp] theorem stopTimer_points (s : State) : (stopTimer s).points = s.points := rfl
@[simp] theorem stopTimer_sched (s : State) : (stopTimer s).sched = s.sched := rfl
@[simp] theorem stopTimer_link (s : State) : (stopTimer s).link = s.link := rfl
@[simp] theorem stopTimer_sync (s : State) : (stopTimer s).sync = s.sync := rfl
@[simp] theorem stopTimer_boxes (s : State) : (stopTimer s).boxes = s.boxes := rfl
@[simp] theorem stopTimer_queue_entries (s : State) : (stopTimer s).queue.entries = s.queue.entries := rfl
@[simp] theorem stopTimer_accept (s : State) : (stopTimer s).accept = s.accept := rfl
@[simp] theorem stopTimer_nodes (s : State) : (stopTimer s).nodes = s.nodes := rfl
@[simp] theorem stopTimer_irq (s : State) : (stopTimer s).irq = s.irq := rfl
@[simp] theorem stopTimer_cmd (s : State) : (stopTimer s).cmd = s.cmd := rfl
@[simp] theorem stopTimer_win (s : State) : (stopTimer s).win = s.win := rfl
@[simp] theorem stopTimer_pending (s : State) : (stopTimer s).pending = s.pending := rfl

/-! ### completeWith -/

@[simp] theorem completeWith_params (r : ResultCode) (detail detailIdx : Byte) (s : State) : (completeWith r detail detailIdx s).params = s.params := rfl
@[simp] theorem completeWith_line (r : ResultCode) (detail detailIdx : Byte) (s : State) : (completeWith r detail detailIdx s).line = s.line := rfl
@[simp] theorem completeWith_rx (r : ResultCode) (detail detailIdx : Byte) (s : State) : (completeWith r detail detailIdx s).rx = s.rx := rfl
@[simp] theorem completeWith_tx (r : ResultCode) (detail detailIdx : Byte) (s : State) : (completeWith r detail detailIdx s).tx = s.tx := rfl
@[simp] theorem completeWith_timer (r : ResultCode) (detail detailIdx : Byte) (s : State) : (completeWith r detail detailIdx s).timer = s.timer := rfl
@[simp] theorem completeWith_points (r : ResultCode) (detail detailIdx : Byte) (s : State) : (completeWith r detail detailIdx s).points = s.points := rfl
@[simp] theorem completeWith_sched (r : ResultCode) (detail detailIdx : Byte) (s : State) : (completeWith r detail detailIdx s).sched = s.sched := rfl
@[simp] theorem completeWith_seq (r : ResultCode) (detail detailIdx : Byte) (s : State) : (completeWith r detail detailIdx s).seq = s.seq := rfl
@[simp] theorem completeWith_link (r : ResultCode) (detail detailIdx : Byte) (s : State) : (completeWith r detail detailIdx s).link = s.link := rfl
@[simp] theorem completeWith_sync (r : ResultCode) (detail detailIdx : Byte) (s : State) : (completeWith r detail detailIdx s).sync = s.sync := rfl
@[simp] theorem completeWith_boxes (r : ResultCode) (detail detailIdx : Byte) (s : State) : (completeWith r detail detailIdx s).boxes = s.boxes := rfl
@[simp] theorem completeWith_queue (r : ResultCode) (detail detailIdx : Byte) (s : State) : (completeWith r detail detailIdx s).queue = s.queue := rfl
@[simp] theorem completeWith_accept (r : ResultCode) (detail detailIdx : Byte) (s : State) : (completeWith r detail detailIdx s).accept = s.accept := rfl
@[simp] theorem completeWith_nodes (r : ResultCode) (detail detailIdx : Byte) (s : State) : (completeWith r detail detailIdx s).nodes = s.nodes := rfl
@[simp] theorem completeWith_irq_enables (r : ResultCode) (detail detailIdx : Byte) (s : State) : (completeWith r detail detailIdx s).irq.enables = s.irq.enables := rfl
@[simp] theorem completeWith_irq_fault (r : ResultCode) (detail detailIdx : Byte) (s : State) : (completeWith r detail detailIdx s).irq.fault = s.irq.fault := rfl
@[simp] theorem completeWith_irq_causes (r : ResultCode) (detail detailIdx : Byte) (s : State) : (completeWith r detail detailIdx s).irq.causes = s.irq.causes := rfl
@[simp] theorem completeWith_irq_attention (r : ResultCode) (detail detailIdx : Byte) (s : State) : (completeWith r detail detailIdx s).irq.attention = s.irq.attention := rfl
@[simp] theorem completeWith_irq_nodeChange (r : ResultCode) (detail detailIdx : Byte) (s : State) : (completeWith r detail detailIdx s).irq.nodeChange = s.irq.nodeChange := rfl
@[simp] theorem completeWith_irq_pointStatus (r : ResultCode) (detail detailIdx : Byte) (s : State) : (completeWith r detail detailIdx s).irq.pointStatus = s.irq.pointStatus := rfl
@[simp] theorem completeWith_irq_counters (r : ResultCode) (detail detailIdx : Byte) (s : State) : (completeWith r detail detailIdx s).irq.counters = s.irq.counters := rfl
@[simp] theorem completeWith_cmd_code (r : ResultCode) (detail detailIdx : Byte) (s : State) : (completeWith r detail detailIdx s).cmd.code = s.cmd.code := rfl
@[simp] theorem completeWith_cmd_arg0 (r : ResultCode) (detail detailIdx : Byte) (s : State) : (completeWith r detail detailIdx s).cmd.arg0 = s.cmd.arg0 := rfl
@[simp] theorem completeWith_cmd_arg1 (r : ResultCode) (detail detailIdx : Byte) (s : State) : (completeWith r detail detailIdx s).cmd.arg1 = s.cmd.arg1 := rfl
@[simp] theorem completeWith_cmd_takenArg0 (r : ResultCode) (detail detailIdx : Byte) (s : State) : (completeWith r detail detailIdx s).cmd.takenArg0 = s.cmd.takenArg0 := rfl
@[simp] theorem completeWith_cmd_takenArg1 (r : ResultCode) (detail detailIdx : Byte) (s : State) : (completeWith r detail detailIdx s).cmd.takenArg1 = s.cmd.takenArg1 := rfl
@[simp] theorem completeWith_cmd_lost (r : ResultCode) (detail detailIdx : Byte) (s : State) : (completeWith r detail detailIdx s).cmd.lost = s.cmd.lost := rfl
@[simp] theorem completeWith_win (r : ResultCode) (detail detailIdx : Byte) (s : State) : (completeWith r detail detailIdx s).win = s.win := rfl
@[simp] theorem completeWith_pending (r : ResultCode) (detail detailIdx : Byte) (s : State) : (completeWith r detail detailIdx s).pending = s.pending := rfl

/-! ### complete -/

@[simp] theorem complete_params (r : ResultCode) (s : State) : (complete r s).params = s.params := rfl
@[simp] theorem complete_line (r : ResultCode) (s : State) : (complete r s).line = s.line := rfl
@[simp] theorem complete_rx (r : ResultCode) (s : State) : (complete r s).rx = s.rx := rfl
@[simp] theorem complete_tx (r : ResultCode) (s : State) : (complete r s).tx = s.tx := rfl
@[simp] theorem complete_timer (r : ResultCode) (s : State) : (complete r s).timer = s.timer := rfl
@[simp] theorem complete_points (r : ResultCode) (s : State) : (complete r s).points = s.points := rfl
@[simp] theorem complete_sched (r : ResultCode) (s : State) : (complete r s).sched = s.sched := rfl
@[simp] theorem complete_seq (r : ResultCode) (s : State) : (complete r s).seq = s.seq := rfl
@[simp] theorem complete_link (r : ResultCode) (s : State) : (complete r s).link = s.link := rfl
@[simp] theorem complete_sync (r : ResultCode) (s : State) : (complete r s).sync = s.sync := rfl
@[simp] theorem complete_boxes (r : ResultCode) (s : State) : (complete r s).boxes = s.boxes := rfl
@[simp] theorem complete_queue (r : ResultCode) (s : State) : (complete r s).queue = s.queue := rfl
@[simp] theorem complete_accept (r : ResultCode) (s : State) : (complete r s).accept = s.accept := rfl
@[simp] theorem complete_nodes (r : ResultCode) (s : State) : (complete r s).nodes = s.nodes := rfl
@[simp] theorem complete_irq_enables (r : ResultCode) (s : State) : (complete r s).irq.enables = s.irq.enables := rfl
@[simp] theorem complete_irq_fault (r : ResultCode) (s : State) : (complete r s).irq.fault = s.irq.fault := rfl
@[simp] theorem complete_irq_causes (r : ResultCode) (s : State) : (complete r s).irq.causes = s.irq.causes := rfl
@[simp] theorem complete_irq_attention (r : ResultCode) (s : State) : (complete r s).irq.attention = s.irq.attention := rfl
@[simp] theorem complete_irq_nodeChange (r : ResultCode) (s : State) : (complete r s).irq.nodeChange = s.irq.nodeChange := rfl
@[simp] theorem complete_irq_pointStatus (r : ResultCode) (s : State) : (complete r s).irq.pointStatus = s.irq.pointStatus := rfl
@[simp] theorem complete_irq_counters (r : ResultCode) (s : State) : (complete r s).irq.counters = s.irq.counters := rfl
@[simp] theorem complete_cmd_code (r : ResultCode) (s : State) : (complete r s).cmd.code = s.cmd.code := rfl
@[simp] theorem complete_cmd_arg0 (r : ResultCode) (s : State) : (complete r s).cmd.arg0 = s.cmd.arg0 := rfl
@[simp] theorem complete_cmd_arg1 (r : ResultCode) (s : State) : (complete r s).cmd.arg1 = s.cmd.arg1 := rfl
@[simp] theorem complete_cmd_takenArg0 (r : ResultCode) (s : State) : (complete r s).cmd.takenArg0 = s.cmd.takenArg0 := rfl
@[simp] theorem complete_cmd_takenArg1 (r : ResultCode) (s : State) : (complete r s).cmd.takenArg1 = s.cmd.takenArg1 := rfl
@[simp] theorem complete_cmd_lost (r : ResultCode) (s : State) : (complete r s).cmd.lost = s.cmd.lost := rfl
@[simp] theorem complete_win (r : ResultCode) (s : State) : (complete r s).win = s.win := rfl
@[simp] theorem complete_pending (r : ResultCode) (s : State) : (complete r s).pending = s.pending := rfl

/-! ### stayInFlight -/

@[simp] theorem stayInFlight_params (c : InFlight) (s : State) : (stayInFlight c s).params = s.params := rfl
@[simp] theorem stayInFlight_line (c : InFlight) (s : State) : (stayInFlight c s).line = s.line := rfl
@[simp] theorem stayInFlight_rx (c : InFlight) (s : State) : (stayInFlight c s).rx = s.rx := rfl
@[simp] theorem stayInFlight_tx (c : InFlight) (s : State) : (stayInFlight c s).tx = s.tx := rfl
@[simp] theorem stayInFlight_timer (c : InFlight) (s : State) : (stayInFlight c s).timer = s.timer := rfl
@[simp] theorem stayInFlight_points (c : InFlight) (s : State) : (stayInFlight c s).points = s.points := rfl
@[simp] theorem stayInFlight_sched (c : InFlight) (s : State) : (stayInFlight c s).sched = s.sched := rfl
@[simp] theorem stayInFlight_seq (c : InFlight) (s : State) : (stayInFlight c s).seq = s.seq := rfl
@[simp] theorem stayInFlight_link (c : InFlight) (s : State) : (stayInFlight c s).link = s.link := rfl
@[simp] theorem stayInFlight_sync (c : InFlight) (s : State) : (stayInFlight c s).sync = s.sync := rfl
@[simp] theorem stayInFlight_boxes (c : InFlight) (s : State) : (stayInFlight c s).boxes = s.boxes := rfl
@[simp] theorem stayInFlight_queue (c : InFlight) (s : State) : (stayInFlight c s).queue = s.queue := rfl
@[simp] theorem stayInFlight_accept (c : InFlight) (s : State) : (stayInFlight c s).accept = s.accept := rfl
@[simp] theorem stayInFlight_nodes (c : InFlight) (s : State) : (stayInFlight c s).nodes = s.nodes := rfl
@[simp] theorem stayInFlight_irq (c : InFlight) (s : State) : (stayInFlight c s).irq = s.irq := rfl
@[simp] theorem stayInFlight_cmd_code (c : InFlight) (s : State) : (stayInFlight c s).cmd.code = s.cmd.code := rfl
@[simp] theorem stayInFlight_cmd_arg0 (c : InFlight) (s : State) : (stayInFlight c s).cmd.arg0 = s.cmd.arg0 := rfl
@[simp] theorem stayInFlight_cmd_arg1 (c : InFlight) (s : State) : (stayInFlight c s).cmd.arg1 = s.cmd.arg1 := rfl
@[simp] theorem stayInFlight_cmd_takenArg0 (c : InFlight) (s : State) : (stayInFlight c s).cmd.takenArg0 = s.cmd.takenArg0 := rfl
@[simp] theorem stayInFlight_cmd_takenArg1 (c : InFlight) (s : State) : (stayInFlight c s).cmd.takenArg1 = s.cmd.takenArg1 := rfl
@[simp] theorem stayInFlight_cmd_lost (c : InFlight) (s : State) : (stayInFlight c s).cmd.lost = s.cmd.lost := rfl
@[simp] theorem stayInFlight_win (c : InFlight) (s : State) : (stayInFlight c s).win = s.win := rfl
@[simp] theorem stayInFlight_pending (c : InFlight) (s : State) : (stayInFlight c s).pending = s.pending := rfl

/-! ### takeCommand -/

@[simp] theorem takeCommand_params (code : Byte) (s : State) : (takeCommand code s).params = s.params := rfl
@[simp] theorem takeCommand_line (code : Byte) (s : State) : (takeCommand code s).line = s.line := rfl
@[simp] theorem takeCommand_rx (code : Byte) (s : State) : (takeCommand code s).rx = s.rx := rfl
@[simp] theorem takeCommand_tx (code : Byte) (s : State) : (takeCommand code s).tx = s.tx := rfl
@[simp] theorem takeCommand_timer (code : Byte) (s : State) : (takeCommand code s).timer = s.timer := rfl
@[simp] theorem takeCommand_points (code : Byte) (s : State) : (takeCommand code s).points = s.points := rfl
@[simp] theorem takeCommand_sched (code : Byte) (s : State) : (takeCommand code s).sched = s.sched := rfl
@[simp] theorem takeCommand_seq (code : Byte) (s : State) : (takeCommand code s).seq = s.seq := rfl
@[simp] theorem takeCommand_link (code : Byte) (s : State) : (takeCommand code s).link = s.link := rfl
@[simp] theorem takeCommand_sync (code : Byte) (s : State) : (takeCommand code s).sync = s.sync := rfl
@[simp] theorem takeCommand_boxes (code : Byte) (s : State) : (takeCommand code s).boxes = s.boxes := rfl
@[simp] theorem takeCommand_queue (code : Byte) (s : State) : (takeCommand code s).queue = s.queue := rfl
@[simp] theorem takeCommand_accept (code : Byte) (s : State) : (takeCommand code s).accept = s.accept := rfl
@[simp] theorem takeCommand_nodes (code : Byte) (s : State) : (takeCommand code s).nodes = s.nodes := rfl
@[simp] theorem takeCommand_irq (code : Byte) (s : State) : (takeCommand code s).irq = s.irq := rfl
@[simp] theorem takeCommand_cmd_inFlight (code : Byte) (s : State) : (takeCommand code s).cmd.inFlight = s.cmd.inFlight := rfl
@[simp] theorem takeCommand_cmd_arg0 (code : Byte) (s : State) : (takeCommand code s).cmd.arg0 = s.cmd.arg0 := rfl
@[simp] theorem takeCommand_cmd_arg1 (code : Byte) (s : State) : (takeCommand code s).cmd.arg1 = s.cmd.arg1 := rfl
@[simp] theorem takeCommand_cmd_lost (code : Byte) (s : State) : (takeCommand code s).cmd.lost = s.cmd.lost := rfl
@[simp] theorem takeCommand_cmd_result (code : Byte) (s : State) : (takeCommand code s).cmd.result = s.cmd.result := rfl
@[simp] theorem takeCommand_win (code : Byte) (s : State) : (takeCommand code s).win = s.win := rfl
@[simp] theorem takeCommand_pending (code : Byte) (s : State) : (takeCommand code s).pending = s.pending := rfl

/-! ### setPosition -/

@[simp] theorem setPosition_params (n : Nat) (s : State) : (setPosition n s).params = s.params := rfl
@[simp] theorem setPosition_line_level (n : Nat) (s : State) : (setPosition n s).line.level = s.line.level := rfl
@[simp] theorem setPosition_rx (n : Nat) (s : State) : (setPosition n s).rx = s.rx := rfl
@[simp] theorem setPosition_tx (n : Nat) (s : State) : (setPosition n s).tx = s.tx := rfl
@[simp] theorem setPosition_timer_cycle (n : Nat) (s : State) : (setPosition n s).timer.cycle = s.timer.cycle := rfl
@[simp] theorem setPosition_timer_length (n : Nat) (s : State) : (setPosition n s).timer.length = s.timer.length := rfl
@[simp] theorem setPosition_points (n : Nat) (s : State) : (setPosition n s).points = s.points := rfl
@[simp] theorem setPosition_sched (n : Nat) (s : State) : (setPosition n s).sched = s.sched := rfl
@[simp] theorem setPosition_seq (n : Nat) (s : State) : (setPosition n s).seq = s.seq := rfl
@[simp] theorem setPosition_link (n : Nat) (s : State) : (setPosition n s).link = s.link := rfl
@[simp] theorem setPosition_sync (n : Nat) (s : State) : (setPosition n s).sync = s.sync := rfl
@[simp] theorem setPosition_boxes (n : Nat) (s : State) : (setPosition n s).boxes = s.boxes := rfl
@[simp] theorem setPosition_queue (n : Nat) (s : State) : (setPosition n s).queue = s.queue := rfl
@[simp] theorem setPosition_accept (n : Nat) (s : State) : (setPosition n s).accept = s.accept := rfl
@[simp] theorem setPosition_nodes (n : Nat) (s : State) : (setPosition n s).nodes = s.nodes := rfl
@[simp] theorem setPosition_irq (n : Nat) (s : State) : (setPosition n s).irq = s.irq := rfl
@[simp] theorem setPosition_cmd (n : Nat) (s : State) : (setPosition n s).cmd = s.cmd := rfl
@[simp] theorem setPosition_win (n : Nat) (s : State) : (setPosition n s).win = s.win := rfl
@[simp] theorem setPosition_pending (n : Nat) (s : State) : (setPosition n s).pending = s.pending := rfl

/-! ### recordCs -/

@[simp] theorem recordCs_params (f : Frame) (s : State) : (recordCs f s).params = s.params := rfl
@[simp] theorem recordCs_line (f : Frame) (s : State) : (recordCs f s).line = s.line := rfl
@[simp] theorem recordCs_rx (f : Frame) (s : State) : (recordCs f s).rx = s.rx := rfl
@[simp] theorem recordCs_tx (f : Frame) (s : State) : (recordCs f s).tx = s.tx := rfl
@[simp] theorem recordCs_timer (f : Frame) (s : State) : (recordCs f s).timer = s.timer := rfl
@[simp] theorem recordCs_points (f : Frame) (s : State) : (recordCs f s).points = s.points := rfl
@[simp] theorem recordCs_sched (f : Frame) (s : State) : (recordCs f s).sched = s.sched := rfl
@[simp] theorem recordCs_seq (f : Frame) (s : State) : (recordCs f s).seq = s.seq := rfl
@[simp] theorem recordCs_link (f : Frame) (s : State) : (recordCs f s).link = s.link := rfl
@[simp] theorem recordCs_sync_missed (f : Frame) (s : State) : (recordCs f s).sync.missed = s.sync.missed := rfl
@[simp] theorem recordCs_sync_deviation (f : Frame) (s : State) : (recordCs f s).sync.deviation = s.sync.deviation := rfl
@[simp] theorem recordCs_boxes (f : Frame) (s : State) : (recordCs f s).boxes = s.boxes := rfl
@[simp] theorem recordCs_queue (f : Frame) (s : State) : (recordCs f s).queue = s.queue := rfl
@[simp] theorem recordCs_accept (f : Frame) (s : State) : (recordCs f s).accept = s.accept := rfl
@[simp] theorem recordCs_nodes (f : Frame) (s : State) : (recordCs f s).nodes = s.nodes := rfl
@[simp] theorem recordCs_irq (f : Frame) (s : State) : (recordCs f s).irq = s.irq := rfl
@[simp] theorem recordCs_cmd (f : Frame) (s : State) : (recordCs f s).cmd = s.cmd := rfl
@[simp] theorem recordCs_win (f : Frame) (s : State) : (recordCs f s).win = s.win := rfl
@[simp] theorem recordCs_pending (f : Frame) (s : State) : (recordCs f s).pending = s.pending := rfl

/-! ### recordConflict -/

@[simp] theorem recordConflict_params (f : Frame) (s : State) : (recordConflict f s).params = s.params := rfl
@[simp] theorem recordConflict_line (f : Frame) (s : State) : (recordConflict f s).line = s.line := rfl
@[simp] theorem recordConflict_rx (f : Frame) (s : State) : (recordConflict f s).rx = s.rx := rfl
@[simp] theorem recordConflict_tx (f : Frame) (s : State) : (recordConflict f s).tx = s.tx := rfl
@[simp] theorem recordConflict_timer (f : Frame) (s : State) : (recordConflict f s).timer = s.timer := rfl
@[simp] theorem recordConflict_points (f : Frame) (s : State) : (recordConflict f s).points = s.points := rfl
@[simp] theorem recordConflict_sched (f : Frame) (s : State) : (recordConflict f s).sched = s.sched := rfl
@[simp] theorem recordConflict_seq (f : Frame) (s : State) : (recordConflict f s).seq = s.seq := rfl
@[simp] theorem recordConflict_link (f : Frame) (s : State) : (recordConflict f s).link = s.link := rfl
@[simp] theorem recordConflict_sync_missed (f : Frame) (s : State) : (recordConflict f s).sync.missed = s.sync.missed := rfl
@[simp] theorem recordConflict_sync_deviation (f : Frame) (s : State) : (recordConflict f s).sync.deviation = s.sync.deviation := rfl
@[simp] theorem recordConflict_boxes (f : Frame) (s : State) : (recordConflict f s).boxes = s.boxes := rfl
@[simp] theorem recordConflict_queue (f : Frame) (s : State) : (recordConflict f s).queue = s.queue := rfl
@[simp] theorem recordConflict_accept (f : Frame) (s : State) : (recordConflict f s).accept = s.accept := rfl
@[simp] theorem recordConflict_nodes (f : Frame) (s : State) : (recordConflict f s).nodes = s.nodes := rfl
@[simp] theorem recordConflict_irq_enables (f : Frame) (s : State) : (recordConflict f s).irq.enables = s.irq.enables := rfl
@[simp] theorem recordConflict_irq_fault (f : Frame) (s : State) : (recordConflict f s).irq.fault = s.irq.fault := rfl
@[simp] theorem recordConflict_irq_attention (f : Frame) (s : State) : (recordConflict f s).irq.attention = s.irq.attention := rfl
@[simp] theorem recordConflict_irq_nodeChange (f : Frame) (s : State) : (recordConflict f s).irq.nodeChange = s.irq.nodeChange := rfl
@[simp] theorem recordConflict_irq_pointStatus (f : Frame) (s : State) : (recordConflict f s).irq.pointStatus = s.irq.pointStatus := rfl
@[simp] theorem recordConflict_irq_counters (f : Frame) (s : State) : (recordConflict f s).irq.counters = s.irq.counters := rfl
@[simp] theorem recordConflict_cmd (f : Frame) (s : State) : (recordConflict f s).cmd = s.cmd := rfl
@[simp] theorem recordConflict_win (f : Frame) (s : State) : (recordConflict f s).win = s.win := rfl
@[simp] theorem recordConflict_pending (f : Frame) (s : State) : (recordConflict f s).pending = s.pending := rfl

/-! ### recordAccepted -/

@[simp] theorem recordAccepted_params (f : Frame) (s : State) : (recordAccepted f s).params = s.params := rfl
@[simp] theorem recordAccepted_line (f : Frame) (s : State) : (recordAccepted f s).line = s.line := rfl
@[simp] theorem recordAccepted_rx (f : Frame) (s : State) : (recordAccepted f s).rx = s.rx := rfl
@[simp] theorem recordAccepted_tx (f : Frame) (s : State) : (recordAccepted f s).tx = s.tx := rfl
@[simp] theorem recordAccepted_timer (f : Frame) (s : State) : (recordAccepted f s).timer = s.timer := rfl
@[simp] theorem recordAccepted_points (f : Frame) (s : State) : (recordAccepted f s).points = s.points := rfl
@[simp] theorem recordAccepted_sched (f : Frame) (s : State) : (recordAccepted f s).sched = s.sched := rfl
@[simp] theorem recordAccepted_seq (f : Frame) (s : State) : (recordAccepted f s).seq = s.seq := rfl
@[simp] theorem recordAccepted_link (f : Frame) (s : State) : (recordAccepted f s).link = s.link := rfl
@[simp] theorem recordAccepted_sync_deviation (f : Frame) (s : State) : (recordAccepted f s).sync.deviation = s.sync.deviation := rfl
@[simp] theorem recordAccepted_boxes (f : Frame) (s : State) : (recordAccepted f s).boxes = s.boxes := rfl
@[simp] theorem recordAccepted_queue (f : Frame) (s : State) : (recordAccepted f s).queue = s.queue := rfl
@[simp] theorem recordAccepted_accept (f : Frame) (s : State) : (recordAccepted f s).accept = s.accept := rfl
@[simp] theorem recordAccepted_nodes (f : Frame) (s : State) : (recordAccepted f s).nodes = s.nodes := rfl
@[simp] theorem recordAccepted_irq (f : Frame) (s : State) : (recordAccepted f s).irq = s.irq := rfl
@[simp] theorem recordAccepted_cmd (f : Frame) (s : State) : (recordAccepted f s).cmd = s.cmd := rfl
@[simp] theorem recordAccepted_win (f : Frame) (s : State) : (recordAccepted f s).win = s.win := rfl
@[simp] theorem recordAccepted_pending (f : Frame) (s : State) : (recordAccepted f s).pending = s.pending := rfl

/-! ### countCharacter -/

@[simp] theorem countCharacter_params (s : State) : (countCharacter s).params = s.params := rfl
@[simp] theorem countCharacter_line (s : State) : (countCharacter s).line = s.line := rfl
@[simp] theorem countCharacter_tx (s : State) : (countCharacter s).tx = s.tx := rfl
@[simp] theorem countCharacter_timer (s : State) : (countCharacter s).timer = s.timer := rfl
@[simp] theorem countCharacter_points (s : State) : (countCharacter s).points = s.points := rfl
@[simp] theorem countCharacter_sched (s : State) : (countCharacter s).sched = s.sched := rfl
@[simp] theorem countCharacter_seq (s : State) : (countCharacter s).seq = s.seq := rfl
@[simp] theorem countCharacter_link (s : State) : (countCharacter s).link = s.link := rfl
@[simp] theorem countCharacter_sync (s : State) : (countCharacter s).sync = s.sync := rfl
@[simp] theorem countCharacter_boxes (s : State) : (countCharacter s).boxes = s.boxes := rfl
@[simp] theorem countCharacter_queue (s : State) : (countCharacter s).queue = s.queue := rfl
@[simp] theorem countCharacter_accept (s : State) : (countCharacter s).accept = s.accept := rfl
@[simp] theorem countCharacter_nodes (s : State) : (countCharacter s).nodes = s.nodes := rfl
@[simp] theorem countCharacter_irq (s : State) : (countCharacter s).irq = s.irq := rfl
@[simp] theorem countCharacter_cmd (s : State) : (countCharacter s).cmd = s.cmd := rfl
@[simp] theorem countCharacter_win (s : State) : (countCharacter s).win = s.win := rfl
@[simp] theorem countCharacter_pending (s : State) : (countCharacter s).pending = s.pending := rfl

/-! ### lineBecomesIdle -/

@[simp] theorem lineBecomesIdle_params (s : State) : (lineBecomesIdle s).params = s.params := rfl
@[simp] theorem lineBecomesIdle_rx (s : State) : (lineBecomesIdle s).rx = s.rx := rfl
@[simp] theorem lineBecomesIdle_tx (s : State) : (lineBecomesIdle s).tx = s.tx := rfl
@[simp] theorem lineBecomesIdle_timer (s : State) : (lineBecomesIdle s).timer = s.timer := rfl
@[simp] theorem lineBecomesIdle_points (s : State) : (lineBecomesIdle s).points = s.points := rfl
@[simp] theorem lineBecomesIdle_sched (s : State) : (lineBecomesIdle s).sched = s.sched := rfl
@[simp] theorem lineBecomesIdle_seq (s : State) : (lineBecomesIdle s).seq = s.seq := rfl
@[simp] theorem lineBecomesIdle_link (s : State) : (lineBecomesIdle s).link = s.link := rfl
@[simp] theorem lineBecomesIdle_sync (s : State) : (lineBecomesIdle s).sync = s.sync := rfl
@[simp] theorem lineBecomesIdle_boxes (s : State) : (lineBecomesIdle s).boxes = s.boxes := rfl
@[simp] theorem lineBecomesIdle_queue (s : State) : (lineBecomesIdle s).queue = s.queue := rfl
@[simp] theorem lineBecomesIdle_accept (s : State) : (lineBecomesIdle s).accept = s.accept := rfl
@[simp] theorem lineBecomesIdle_nodes (s : State) : (lineBecomesIdle s).nodes = s.nodes := rfl
@[simp] theorem lineBecomesIdle_irq (s : State) : (lineBecomesIdle s).irq = s.irq := rfl
@[simp] theorem lineBecomesIdle_cmd (s : State) : (lineBecomesIdle s).cmd = s.cmd := rfl
@[simp] theorem lineBecomesIdle_win (s : State) : (lineBecomesIdle s).win = s.win := rfl
@[simp] theorem lineBecomesIdle_pending (s : State) : (lineBecomesIdle s).pending = s.pending := rfl

/-! ### confirmStartBit -/

@[simp] theorem confirmStartBit_params (s : State) : (confirmStartBit s).params = s.params := rfl
@[simp] theorem confirmStartBit_tx (s : State) : (confirmStartBit s).tx = s.tx := rfl
@[simp] theorem confirmStartBit_timer (s : State) : (confirmStartBit s).timer = s.timer := rfl
@[simp] theorem confirmStartBit_points (s : State) : (confirmStartBit s).points = s.points := rfl
@[simp] theorem confirmStartBit_sched (s : State) : (confirmStartBit s).sched = s.sched := rfl
@[simp] theorem confirmStartBit_seq (s : State) : (confirmStartBit s).seq = s.seq := rfl
@[simp] theorem confirmStartBit_link_state (s : State) : (confirmStartBit s).link.state = s.link.state := rfl
@[simp] theorem confirmStartBit_link_silent (s : State) : (confirmStartBit s).link.silent = s.link.silent := rfl
@[simp] theorem confirmStartBit_sync (s : State) : (confirmStartBit s).sync = s.sync := rfl
@[simp] theorem confirmStartBit_boxes (s : State) : (confirmStartBit s).boxes = s.boxes := rfl
@[simp] theorem confirmStartBit_queue_entries (s : State) : (confirmStartBit s).queue.entries = s.queue.entries := rfl
@[simp] theorem confirmStartBit_queue_turnedAway (s : State) : (confirmStartBit s).queue.turnedAway = s.queue.turnedAway := rfl
@[simp] theorem confirmStartBit_accept (s : State) : (confirmStartBit s).accept = s.accept := rfl
@[simp] theorem confirmStartBit_nodes (s : State) : (confirmStartBit s).nodes = s.nodes := rfl
@[simp] theorem confirmStartBit_irq (s : State) : (confirmStartBit s).irq = s.irq := rfl
@[simp] theorem confirmStartBit_cmd (s : State) : (confirmStartBit s).cmd = s.cmd := rfl
@[simp] theorem confirmStartBit_win (s : State) : (confirmStartBit s).win = s.win := rfl
@[simp] theorem confirmStartBit_pending (s : State) : (confirmStartBit s).pending = s.pending := rfl

/-! ### advancePointer -/

@[simp] theorem advancePointer_params (s : State) : (advancePointer s).params = s.params := rfl
@[simp] theorem advancePointer_line (s : State) : (advancePointer s).line = s.line := rfl
@[simp] theorem advancePointer_rx (s : State) : (advancePointer s).rx = s.rx := rfl
@[simp] theorem advancePointer_tx (s : State) : (advancePointer s).tx = s.tx := rfl
@[simp] theorem advancePointer_timer (s : State) : (advancePointer s).timer = s.timer := rfl
@[simp] theorem advancePointer_points (s : State) : (advancePointer s).points = s.points := rfl
@[simp] theorem advancePointer_sched (s : State) : (advancePointer s).sched = s.sched := rfl
@[simp] theorem advancePointer_seq (s : State) : (advancePointer s).seq = s.seq := rfl
@[simp] theorem advancePointer_link (s : State) : (advancePointer s).link = s.link := rfl
@[simp] theorem advancePointer_sync (s : State) : (advancePointer s).sync = s.sync := rfl
@[simp] theorem advancePointer_boxes (s : State) : (advancePointer s).boxes = s.boxes := rfl
@[simp] theorem advancePointer_queue (s : State) : (advancePointer s).queue = s.queue := rfl
@[simp] theorem advancePointer_accept (s : State) : (advancePointer s).accept = s.accept := rfl
@[simp] theorem advancePointer_nodes (s : State) : (advancePointer s).nodes = s.nodes := rfl
@[simp] theorem advancePointer_irq (s : State) : (advancePointer s).irq = s.irq := rfl
@[simp] theorem advancePointer_cmd (s : State) : (advancePointer s).cmd = s.cmd := rfl
@[simp] theorem advancePointer_win_snapshotHigh (s : State) : (advancePointer s).win.snapshotHigh = s.win.snapshotHigh := rfl
@[simp] theorem advancePointer_win_snapshotCycle (s : State) : (advancePointer s).win.snapshotCycle = s.win.snapshotCycle := rfl
@[simp] theorem advancePointer_win_readData (s : State) : (advancePointer s).win.readData = s.win.readData := rfl
@[simp] theorem advancePointer_pending (s : State) : (advancePointer s).pending = s.pending := rfl

/-! ### setBox -/

@[simp] theorem setBox_params (m : Fin 24) (b : Mailbox) (s : State) : (setBox m b s).params = s.params := rfl
@[simp] theorem setBox_line (m : Fin 24) (b : Mailbox) (s : State) : (setBox m b s).line = s.line := rfl
@[simp] theorem setBox_rx (m : Fin 24) (b : Mailbox) (s : State) : (setBox m b s).rx = s.rx := rfl
@[simp] theorem setBox_tx (m : Fin 24) (b : Mailbox) (s : State) : (setBox m b s).tx = s.tx := rfl
@[simp] theorem setBox_timer (m : Fin 24) (b : Mailbox) (s : State) : (setBox m b s).timer = s.timer := rfl
@[simp] theorem setBox_points (m : Fin 24) (b : Mailbox) (s : State) : (setBox m b s).points = s.points := rfl
@[simp] theorem setBox_sched (m : Fin 24) (b : Mailbox) (s : State) : (setBox m b s).sched = s.sched := rfl
@[simp] theorem setBox_seq (m : Fin 24) (b : Mailbox) (s : State) : (setBox m b s).seq = s.seq := rfl
@[simp] theorem setBox_link (m : Fin 24) (b : Mailbox) (s : State) : (setBox m b s).link = s.link := rfl
@[simp] theorem setBox_sync (m : Fin 24) (b : Mailbox) (s : State) : (setBox m b s).sync = s.sync := rfl
@[simp] theorem setBox_queue (m : Fin 24) (b : Mailbox) (s : State) : (setBox m b s).queue = s.queue := rfl
@[simp] theorem setBox_accept (m : Fin 24) (b : Mailbox) (s : State) : (setBox m b s).accept = s.accept := rfl
@[simp] theorem setBox_nodes (m : Fin 24) (b : Mailbox) (s : State) : (setBox m b s).nodes = s.nodes := rfl
@[simp] theorem setBox_irq (m : Fin 24) (b : Mailbox) (s : State) : (setBox m b s).irq = s.irq := rfl
@[simp] theorem setBox_cmd (m : Fin 24) (b : Mailbox) (s : State) : (setBox m b s).cmd = s.cmd := rfl
@[simp] theorem setBox_win (m : Fin 24) (b : Mailbox) (s : State) : (setBox m b s).win = s.win := rfl
@[simp] theorem setBox_pending (m : Fin 24) (b : Mailbox) (s : State) : (setBox m b s).pending = s.pending := rfl

/-! ### joinQueue -/

@[simp] theorem joinQueue_params (m : Fin 24) (s : State) : (joinQueue m s).params = s.params := rfl
@[simp] theorem joinQueue_line (m : Fin 24) (s : State) : (joinQueue m s).line = s.line := rfl
@[simp] theorem joinQueue_rx (m : Fin 24) (s : State) : (joinQueue m s).rx = s.rx := rfl
@[simp] theorem joinQueue_tx (m : Fin 24) (s : State) : (joinQueue m s).tx = s.tx := rfl
@[simp] theorem joinQueue_timer (m : Fin 24) (s : State) : (joinQueue m s).timer = s.timer := rfl
@[simp] theorem joinQueue_points (m : Fin 24) (s : State) : (joinQueue m s).points = s.points := rfl
@[simp] theorem joinQueue_sched (m : Fin 24) (s : State) : (joinQueue m s).sched = s.sched := rfl
@[simp] theorem joinQueue_seq (m : Fin 24) (s : State) : (joinQueue m s).seq = s.seq := rfl
@[simp] theorem joinQueue_link (m : Fin 24) (s : State) : (joinQueue m s).link = s.link := rfl
@[simp] theorem joinQueue_sync (m : Fin 24) (s : State) : (joinQueue m s).sync = s.sync := rfl
@[simp] theorem joinQueue_boxes (m : Fin 24) (s : State) : (joinQueue m s).boxes = s.boxes := rfl
@[simp] theorem joinQueue_queue_turnedAway (m : Fin 24) (s : State) : (joinQueue m s).queue.turnedAway = s.queue.turnedAway := rfl
@[simp] theorem joinQueue_accept (m : Fin 24) (s : State) : (joinQueue m s).accept = s.accept := rfl
@[simp] theorem joinQueue_nodes (m : Fin 24) (s : State) : (joinQueue m s).nodes = s.nodes := rfl
@[simp] theorem joinQueue_irq (m : Fin 24) (s : State) : (joinQueue m s).irq = s.irq := rfl
@[simp] theorem joinQueue_cmd (m : Fin 24) (s : State) : (joinQueue m s).cmd = s.cmd := rfl
@[simp] theorem joinQueue_win (m : Fin 24) (s : State) : (joinQueue m s).win = s.win := rfl
@[simp] theorem joinQueue_pending (m : Fin 24) (s : State) : (joinQueue m s).pending = s.pending := rfl

/-! ### recordRead -/

@[simp] theorem recordRead_params (v : Byte) (s : State) : (recordRead v s).params = s.params := rfl
@[simp] theorem recordRead_line (v : Byte) (s : State) : (recordRead v s).line = s.line := rfl
@[simp] theorem recordRead_rx (v : Byte) (s : State) : (recordRead v s).rx = s.rx := rfl
@[simp] theorem recordRead_tx (v : Byte) (s : State) : (recordRead v s).tx = s.tx := rfl
@[simp] theorem recordRead_timer (v : Byte) (s : State) : (recordRead v s).timer = s.timer := rfl
@[simp] theorem recordRead_points (v : Byte) (s : State) : (recordRead v s).points = s.points := rfl
@[simp] theorem recordRead_sched (v : Byte) (s : State) : (recordRead v s).sched = s.sched := rfl
@[simp] theorem recordRead_seq (v : Byte) (s : State) : (recordRead v s).seq = s.seq := rfl
@[simp] theorem recordRead_link (v : Byte) (s : State) : (recordRead v s).link = s.link := rfl
@[simp] theorem recordRead_sync (v : Byte) (s : State) : (recordRead v s).sync = s.sync := rfl
@[simp] theorem recordRead_boxes (v : Byte) (s : State) : (recordRead v s).boxes = s.boxes := rfl
@[simp] theorem recordRead_queue (v : Byte) (s : State) : (recordRead v s).queue = s.queue := rfl
@[simp] theorem recordRead_accept (v : Byte) (s : State) : (recordRead v s).accept = s.accept := rfl
@[simp] theorem recordRead_nodes (v : Byte) (s : State) : (recordRead v s).nodes = s.nodes := rfl
@[simp] theorem recordRead_irq (v : Byte) (s : State) : (recordRead v s).irq = s.irq := rfl
@[simp] theorem recordRead_cmd (v : Byte) (s : State) : (recordRead v s).cmd = s.cmd := rfl
@[simp] theorem recordRead_win_pointer (v : Byte) (s : State) : (recordRead v s).win.pointer = s.win.pointer := rfl
@[simp] theorem recordRead_win_snapshotHigh (v : Byte) (s : State) : (recordRead v s).win.snapshotHigh = s.win.snapshotHigh := rfl
@[simp] theorem recordRead_win_snapshotCycle (v : Byte) (s : State) : (recordRead v s).win.snapshotCycle = s.win.snapshotCycle := rfl
@[simp] theorem recordRead_pending (v : Byte) (s : State) : (recordRead v s).pending = s.pending := rfl

/-! ### storePointerHigh -/

@[simp] theorem storePointerHigh_params (v : Byte) (s : State) : (storePointerHigh v s).params = s.params := rfl
@[simp] theorem storePointerHigh_line (v : Byte) (s : State) : (storePointerHigh v s).line = s.line := rfl
@[simp] theorem storePointerHigh_rx (v : Byte) (s : State) : (storePointerHigh v s).rx = s.rx := rfl
@[simp] theorem storePointerHigh_tx (v : Byte) (s : State) : (storePointerHigh v s).tx = s.tx := rfl
@[simp] theorem storePointerHigh_timer (v : Byte) (s : State) : (storePointerHigh v s).timer = s.timer := rfl
@[simp] theorem storePointerHigh_points (v : Byte) (s : State) : (storePointerHigh v s).points = s.points := rfl
@[simp] theorem storePointerHigh_sched (v : Byte) (s : State) : (storePointerHigh v s).sched = s.sched := rfl
@[simp] theorem storePointerHigh_seq (v : Byte) (s : State) : (storePointerHigh v s).seq = s.seq := rfl
@[simp] theorem storePointerHigh_link (v : Byte) (s : State) : (storePointerHigh v s).link = s.link := rfl
@[simp] theorem storePointerHigh_sync (v : Byte) (s : State) : (storePointerHigh v s).sync = s.sync := rfl
@[simp] theorem storePointerHigh_boxes (v : Byte) (s : State) : (storePointerHigh v s).boxes = s.boxes := rfl
@[simp] theorem storePointerHigh_queue (v : Byte) (s : State) : (storePointerHigh v s).queue = s.queue := rfl
@[simp] theorem storePointerHigh_accept (v : Byte) (s : State) : (storePointerHigh v s).accept = s.accept := rfl
@[simp] theorem storePointerHigh_nodes (v : Byte) (s : State) : (storePointerHigh v s).nodes = s.nodes := rfl
@[simp] theorem storePointerHigh_irq (v : Byte) (s : State) : (storePointerHigh v s).irq = s.irq := rfl
@[simp] theorem storePointerHigh_cmd (v : Byte) (s : State) : (storePointerHigh v s).cmd = s.cmd := rfl
@[simp] theorem storePointerHigh_win_snapshotHigh (v : Byte) (s : State) : (storePointerHigh v s).win.snapshotHigh = s.win.snapshotHigh := rfl
@[simp] theorem storePointerHigh_win_snapshotCycle (v : Byte) (s : State) : (storePointerHigh v s).win.snapshotCycle = s.win.snapshotCycle := rfl
@[simp] theorem storePointerHigh_win_readData (v : Byte) (s : State) : (storePointerHigh v s).win.readData = s.win.readData := rfl
@[simp] theorem storePointerHigh_pending (v : Byte) (s : State) : (storePointerHigh v s).pending = s.pending := rfl

/-! ### storePointerLow -/

@[simp] theorem storePointerLow_params (v : Byte) (s : State) : (storePointerLow v s).params = s.params := rfl
@[simp] theorem storePointerLow_line (v : Byte) (s : State) : (storePointerLow v s).line = s.line := rfl
@[simp] theorem storePointerLow_rx (v : Byte) (s : State) : (storePointerLow v s).rx = s.rx := rfl
@[simp] theorem storePointerLow_tx (v : Byte) (s : State) : (storePointerLow v s).tx = s.tx := rfl
@[simp] theorem storePointerLow_timer (v : Byte) (s : State) : (storePointerLow v s).timer = s.timer := rfl
@[simp] theorem storePointerLow_points (v : Byte) (s : State) : (storePointerLow v s).points = s.points := rfl
@[simp] theorem storePointerLow_sched (v : Byte) (s : State) : (storePointerLow v s).sched = s.sched := rfl
@[simp] theorem storePointerLow_seq (v : Byte) (s : State) : (storePointerLow v s).seq = s.seq := rfl
@[simp] theorem storePointerLow_link (v : Byte) (s : State) : (storePointerLow v s).link = s.link := rfl
@[simp] theorem storePointerLow_sync (v : Byte) (s : State) : (storePointerLow v s).sync = s.sync := rfl
@[simp] theorem storePointerLow_boxes (v : Byte) (s : State) : (storePointerLow v s).boxes = s.boxes := rfl
@[simp] theorem storePointerLow_queue (v : Byte) (s : State) : (storePointerLow v s).queue = s.queue := rfl
@[simp] theorem storePointerLow_accept (v : Byte) (s : State) : (storePointerLow v s).accept = s.accept := rfl
@[simp] theorem storePointerLow_nodes (v : Byte) (s : State) : (storePointerLow v s).nodes = s.nodes := rfl
@[simp] theorem storePointerLow_irq (v : Byte) (s : State) : (storePointerLow v s).irq = s.irq := rfl
@[simp] theorem storePointerLow_cmd (v : Byte) (s : State) : (storePointerLow v s).cmd = s.cmd := rfl
@[simp] theorem storePointerLow_win_snapshotHigh (v : Byte) (s : State) : (storePointerLow v s).win.snapshotHigh = s.win.snapshotHigh := rfl
@[simp] theorem storePointerLow_win_snapshotCycle (v : Byte) (s : State) : (storePointerLow v s).win.snapshotCycle = s.win.snapshotCycle := rfl
@[simp] theorem storePointerLow_win_readData (v : Byte) (s : State) : (storePointerLow v s).win.readData = s.win.readData := rfl
@[simp] theorem storePointerLow_pending (v : Byte) (s : State) : (storePointerLow v s).pending = s.pending := rfl

/-! ### clearCmdLost -/

@[simp] theorem clearCmdLost_params (v : Byte) (s : State) : (clearCmdLost v s).params = s.params := rfl
@[simp] theorem clearCmdLost_line (v : Byte) (s : State) : (clearCmdLost v s).line = s.line := rfl
@[simp] theorem clearCmdLost_rx (v : Byte) (s : State) : (clearCmdLost v s).rx = s.rx := rfl
@[simp] theorem clearCmdLost_tx (v : Byte) (s : State) : (clearCmdLost v s).tx = s.tx := rfl
@[simp] theorem clearCmdLost_timer (v : Byte) (s : State) : (clearCmdLost v s).timer = s.timer := rfl
@[simp] theorem clearCmdLost_points (v : Byte) (s : State) : (clearCmdLost v s).points = s.points := rfl
@[simp] theorem clearCmdLost_sched (v : Byte) (s : State) : (clearCmdLost v s).sched = s.sched := rfl
@[simp] theorem clearCmdLost_seq (v : Byte) (s : State) : (clearCmdLost v s).seq = s.seq := rfl
@[simp] theorem clearCmdLost_link (v : Byte) (s : State) : (clearCmdLost v s).link = s.link := rfl
@[simp] theorem clearCmdLost_sync (v : Byte) (s : State) : (clearCmdLost v s).sync = s.sync := rfl
@[simp] theorem clearCmdLost_boxes (v : Byte) (s : State) : (clearCmdLost v s).boxes = s.boxes := rfl
@[simp] theorem clearCmdLost_queue (v : Byte) (s : State) : (clearCmdLost v s).queue = s.queue := rfl
@[simp] theorem clearCmdLost_accept (v : Byte) (s : State) : (clearCmdLost v s).accept = s.accept := rfl
@[simp] theorem clearCmdLost_nodes (v : Byte) (s : State) : (clearCmdLost v s).nodes = s.nodes := rfl
@[simp] theorem clearCmdLost_irq (v : Byte) (s : State) : (clearCmdLost v s).irq = s.irq := rfl
@[simp] theorem clearCmdLost_cmd_inFlight (v : Byte) (s : State) : (clearCmdLost v s).cmd.inFlight = s.cmd.inFlight := rfl
@[simp] theorem clearCmdLost_cmd_code (v : Byte) (s : State) : (clearCmdLost v s).cmd.code = s.cmd.code := rfl
@[simp] theorem clearCmdLost_cmd_arg0 (v : Byte) (s : State) : (clearCmdLost v s).cmd.arg0 = s.cmd.arg0 := rfl
@[simp] theorem clearCmdLost_cmd_arg1 (v : Byte) (s : State) : (clearCmdLost v s).cmd.arg1 = s.cmd.arg1 := rfl
@[simp] theorem clearCmdLost_cmd_takenArg0 (v : Byte) (s : State) : (clearCmdLost v s).cmd.takenArg0 = s.cmd.takenArg0 := rfl
@[simp] theorem clearCmdLost_cmd_takenArg1 (v : Byte) (s : State) : (clearCmdLost v s).cmd.takenArg1 = s.cmd.takenArg1 := rfl
@[simp] theorem clearCmdLost_cmd_result (v : Byte) (s : State) : (clearCmdLost v s).cmd.result = s.cmd.result := rfl
@[simp] theorem clearCmdLost_win (v : Byte) (s : State) : (clearCmdLost v s).win = s.win := rfl
@[simp] theorem clearCmdLost_pending (v : Byte) (s : State) : (clearCmdLost v s).pending = s.pending := rfl

/-! ### countCollision -/

@[simp] theorem countCollision_params (s : State) : (countCollision s).params = s.params := rfl
@[simp] theorem countCollision_line (s : State) : (countCollision s).line = s.line := rfl
@[simp] theorem countCollision_rx (s : State) : (countCollision s).rx = s.rx := rfl
@[simp] theorem countCollision_tx (s : State) : (countCollision s).tx = s.tx := rfl
@[simp] theorem countCollision_timer (s : State) : (countCollision s).timer = s.timer := rfl
@[simp] theorem countCollision_points (s : State) : (countCollision s).points = s.points := rfl
@[simp] theorem countCollision_sched (s : State) : (countCollision s).sched = s.sched := rfl
@[simp] theorem countCollision_seq (s : State) : (countCollision s).seq = s.seq := rfl
@[simp] theorem countCollision_link (s : State) : (countCollision s).link = s.link := rfl
@[simp] theorem countCollision_sync (s : State) : (countCollision s).sync = s.sync := rfl
@[simp] theorem countCollision_boxes (s : State) : (countCollision s).boxes = s.boxes := rfl
@[simp] theorem countCollision_queue (s : State) : (countCollision s).queue = s.queue := rfl
@[simp] theorem countCollision_accept (s : State) : (countCollision s).accept = s.accept := rfl
@[simp] theorem countCollision_nodes (s : State) : (countCollision s).nodes = s.nodes := rfl
@[simp] theorem countCollision_irq_enables (s : State) : (countCollision s).irq.enables = s.irq.enables := rfl
@[simp] theorem countCollision_irq_fault (s : State) : (countCollision s).irq.fault = s.irq.fault := rfl
@[simp] theorem countCollision_irq_causes (s : State) : (countCollision s).irq.causes = s.irq.causes := rfl
@[simp] theorem countCollision_irq_attention (s : State) : (countCollision s).irq.attention = s.irq.attention := rfl
@[simp] theorem countCollision_irq_nodeChange (s : State) : (countCollision s).irq.nodeChange = s.irq.nodeChange := rfl
@[simp] theorem countCollision_irq_pointStatus (s : State) : (countCollision s).irq.pointStatus = s.irq.pointStatus := rfl
@[simp] theorem countCollision_cmd (s : State) : (countCollision s).cmd = s.cmd := rfl
@[simp] theorem countCollision_win (s : State) : (countCollision s).win = s.win := rfl
@[simp] theorem countCollision_pending (s : State) : (countCollision s).pending = s.pending := rfl

/-! ### turnAway -/

@[simp] theorem turnAway_params (s : State) : (turnAway s).params = s.params := rfl
@[simp] theorem turnAway_line (s : State) : (turnAway s).line = s.line := rfl
@[simp] theorem turnAway_rx (s : State) : (turnAway s).rx = s.rx := rfl
@[simp] theorem turnAway_tx (s : State) : (turnAway s).tx = s.tx := rfl
@[simp] theorem turnAway_timer (s : State) : (turnAway s).timer = s.timer := rfl
@[simp] theorem turnAway_points (s : State) : (turnAway s).points = s.points := rfl
@[simp] theorem turnAway_sched (s : State) : (turnAway s).sched = s.sched := rfl
@[simp] theorem turnAway_seq (s : State) : (turnAway s).seq = s.seq := rfl
@[simp] theorem turnAway_link (s : State) : (turnAway s).link = s.link := rfl
@[simp] theorem turnAway_sync (s : State) : (turnAway s).sync = s.sync := rfl
@[simp] theorem turnAway_boxes (s : State) : (turnAway s).boxes = s.boxes := rfl
@[simp] theorem turnAway_queue_entries (s : State) : (turnAway s).queue.entries = s.queue.entries := rfl
@[simp] theorem turnAway_accept (s : State) : (turnAway s).accept = s.accept := rfl
@[simp] theorem turnAway_nodes (s : State) : (turnAway s).nodes = s.nodes := rfl
@[simp] theorem turnAway_irq (s : State) : (turnAway s).irq = s.irq := rfl
@[simp] theorem turnAway_cmd (s : State) : (turnAway s).cmd = s.cmd := rfl
@[simp] theorem turnAway_win (s : State) : (turnAway s).win = s.win := rfl
@[simp] theorem turnAway_pending (s : State) : (turnAway s).pending = s.pending := rfl

end Sys2Proof.Machine
end

