-- ==== Sys2Proof/Laws/Frames.lean ====
section
/-! SUPPORT. What each shared operation leaves as it was, whatever the state: one frame lemma per operation, which callers cite
in place of unfolding it. -/

namespace Sys2Proof.Machine

/-- A projection that one step of a fold keeps is kept by the fold. -/
theorem foldl_keeps {α β γ : Type} (g : α → γ) (f : α → β → α) (h : ∀ s x, g (f s x) = g s) (l : List β) (s : α) :
    g (l.foldl f s) = g s := by
  induction l generalizing s with
  | nil => rfl
  | cons x xs ih => simp [ih, h]

@[simp] theorem nodeHeard_frame (source : Byte) (s : State) :
    (nodeHeard source s).params = s.params ∧
      (nodeHeard source s).line = s.line ∧
      (nodeHeard source s).rx = s.rx ∧
      (nodeHeard source s).tx = s.tx ∧
      (nodeHeard source s).timer = s.timer ∧
      (nodeHeard source s).points = s.points ∧
      (nodeHeard source s).sched = s.sched ∧
      (nodeHeard source s).seq = s.seq ∧
      (nodeHeard source s).link = s.link ∧
      (nodeHeard source s).sync = s.sync ∧
      (nodeHeard source s).boxes = s.boxes ∧
      (nodeHeard source s).queue = s.queue ∧
      (nodeHeard source s).accept = s.accept ∧
      (nodeHeard source s).irq.enables = s.irq.enables ∧
      (nodeHeard source s).irq.fault = s.irq.fault ∧
      (nodeHeard source s).irq.causes = s.irq.causes ∧
      (nodeHeard source s).irq.attention = s.irq.attention ∧
      (nodeHeard source s).irq.pointStatus = s.irq.pointStatus ∧
      (nodeHeard source s).irq.counters = s.irq.counters ∧
      (nodeHeard source s).cmd = s.cmd ∧
      (nodeHeard source s).win = s.win ∧
      (nodeHeard source s).pending = s.pending := by
  unfold nodeHeard
  (repeat' split) <;> simp

@[simp] theorem nodeMissed_frame (source : Byte) (s : State) :
    (nodeMissed source s).params = s.params ∧
      (nodeMissed source s).line = s.line ∧
      (nodeMissed source s).rx = s.rx ∧
      (nodeMissed source s).tx = s.tx ∧
      (nodeMissed source s).timer = s.timer ∧
      (nodeMissed source s).points = s.points ∧
      (nodeMissed source s).sched = s.sched ∧
      (nodeMissed source s).seq = s.seq ∧
      (nodeMissed source s).link = s.link ∧
      (nodeMissed source s).sync = s.sync ∧
      (nodeMissed source s).boxes = s.boxes ∧
      (nodeMissed source s).queue = s.queue ∧
      (nodeMissed source s).accept = s.accept ∧
      (nodeMissed source s).irq.enables = s.irq.enables ∧
      (nodeMissed source s).irq.fault = s.irq.fault ∧
      (nodeMissed source s).irq.causes = s.irq.causes ∧
      (nodeMissed source s).irq.attention = s.irq.attention ∧
      (nodeMissed source s).irq.pointStatus = s.irq.pointStatus ∧
      (nodeMissed source s).irq.counters = s.irq.counters ∧
      (nodeMissed source s).cmd = s.cmd ∧
      (nodeMissed source s).win = s.win ∧
      (nodeMissed source s).pending = s.pending := by
  unfold nodeMissed
  dsimp only
  (repeat' split) <;> simp

@[simp] theorem applyNotice_frame (m : Fin 24) (n : Notice) (s : State) :
    (applyNotice m n s).params = s.params ∧
      (applyNotice m n s).line = s.line ∧
      (applyNotice m n s).rx = s.rx ∧
      (applyNotice m n s).tx = s.tx ∧
      (applyNotice m n s).timer = s.timer ∧
      (applyNotice m n s).points = s.points ∧
      (applyNotice m n s).sched = s.sched ∧
      (applyNotice m n s).seq = s.seq ∧
      (applyNotice m n s).link = s.link ∧
      (applyNotice m n s).sync = s.sync ∧
      (applyNotice m n s).boxes = s.boxes ∧
      (applyNotice m n s).queue = s.queue ∧
      (applyNotice m n s).accept = s.accept ∧
      (applyNotice m n s).nodes = s.nodes ∧
      (applyNotice m n s).irq.enables = s.irq.enables ∧
      (applyNotice m n s).irq.fault = s.irq.fault ∧
      (applyNotice m n s).irq.causes = s.irq.causes ∧
      (applyNotice m n s).irq.nodeChange = s.irq.nodeChange ∧
      (applyNotice m n s).irq.pointStatus = s.irq.pointStatus ∧
      (applyNotice m n s).irq.counters = s.irq.counters ∧
      (applyNotice m n s).cmd = s.cmd ∧
      (applyNotice m n s).win = s.win ∧
      (applyNotice m n s).pending = s.pending := by
  unfold applyNotice
  (repeat' split) <;> simp

@[simp] theorem deliver_frame (m : Fin 24) (f : Frame) (s : State) :
    (deliver m f s).params = s.params ∧
      (deliver m f s).line = s.line ∧
      (deliver m f s).rx = s.rx ∧
      (deliver m f s).tx = s.tx ∧
      (deliver m f s).timer = s.timer ∧
      (deliver m f s).points = s.points ∧
      (deliver m f s).sched = s.sched ∧
      (deliver m f s).seq = s.seq ∧
      (deliver m f s).link = s.link ∧
      (deliver m f s).sync = s.sync ∧
      (deliver m f s).queue = s.queue ∧
      (deliver m f s).accept = s.accept ∧
      (deliver m f s).nodes = s.nodes ∧
      (deliver m f s).irq.enables = s.irq.enables ∧
      (deliver m f s).irq.fault = s.irq.fault ∧
      (deliver m f s).irq.causes = s.irq.causes ∧
      (deliver m f s).irq.nodeChange = s.irq.nodeChange ∧
      (deliver m f s).irq.pointStatus = s.irq.pointStatus ∧
      (deliver m f s).irq.counters = s.irq.counters ∧
      (deliver m f s).cmd = s.cmd ∧
      (deliver m f s).win = s.win ∧
      (deliver m f s).pending = s.pending := by
  unfold deliver
  split <;> simp

@[simp] theorem routeEvent_frame (f : Frame) (s : State) :
    (routeEvent f s).params = s.params ∧
      (routeEvent f s).line = s.line ∧
      (routeEvent f s).rx = s.rx ∧
      (routeEvent f s).tx = s.tx ∧
      (routeEvent f s).timer = s.timer ∧
      (routeEvent f s).points = s.points ∧
      (routeEvent f s).sched = s.sched ∧
      (routeEvent f s).seq = s.seq ∧
      (routeEvent f s).link = s.link ∧
      (routeEvent f s).sync = s.sync ∧
      (routeEvent f s).queue = s.queue ∧
      (routeEvent f s).accept = s.accept ∧
      (routeEvent f s).nodes = s.nodes ∧
      (routeEvent f s).irq.enables = s.irq.enables ∧
      (routeEvent f s).irq.fault = s.irq.fault ∧
      (routeEvent f s).irq.causes = s.irq.causes ∧
      (routeEvent f s).irq.nodeChange = s.irq.nodeChange ∧
      (routeEvent f s).irq.pointStatus = s.irq.pointStatus ∧
      (routeEvent f s).cmd = s.cmd ∧
      (routeEvent f s).win = s.win ∧
      (routeEvent f s).pending = s.pending := by
  unfold routeEvent
  (repeat' split) <;> simp

@[simp] theorem strayFrame_frame (f : Frame) (s : State) :
    (strayFrame f s).params = s.params ∧
      (strayFrame f s).line = s.line ∧
      (strayFrame f s).rx = s.rx ∧
      (strayFrame f s).tx = s.tx ∧
      (strayFrame f s).timer = s.timer ∧
      (strayFrame f s).points = s.points ∧
      (strayFrame f s).sched = s.sched ∧
      (strayFrame f s).seq = s.seq ∧
      (strayFrame f s).link = s.link ∧
      (strayFrame f s).sync = s.sync ∧
      (strayFrame f s).boxes = s.boxes ∧
      (strayFrame f s).queue = s.queue ∧
      (strayFrame f s).accept = s.accept ∧
      (strayFrame f s).nodes = s.nodes ∧
      (strayFrame f s).irq.enables = s.irq.enables ∧
      (strayFrame f s).irq.fault = s.irq.fault ∧
      (strayFrame f s).irq.flags = s.irq.flags ∧
      (strayFrame f s).irq.causes = s.irq.causes ∧
      (strayFrame f s).irq.attention = s.irq.attention ∧
      (strayFrame f s).irq.nodeChange = s.irq.nodeChange ∧
      (strayFrame f s).irq.pointStatus = s.irq.pointStatus ∧
      (strayFrame f s).cmd = s.cmd ∧
      (strayFrame f s).win = s.win ∧
      (strayFrame f s).pending = s.pending := by
  unfold strayFrame
  split <;> simp

@[simp] theorem setBank_frame (n : BankName) (b : Bank) (s : State) :
    (setBank n b s).params = s.params ∧
      (setBank n b s).line = s.line ∧
      (setBank n b s).rx = s.rx ∧
      (setBank n b s).tx = s.tx ∧
      (setBank n b s).timer = s.timer ∧
      (setBank n b s).points = s.points ∧
      (setBank n b s).sched.active = s.sched.active ∧
      (setBank n b s).sched.shadow = s.sched.shadow ∧
      (setBank n b s).seq = s.seq ∧
      (setBank n b s).link = s.link ∧
      (setBank n b s).sync = s.sync ∧
      (setBank n b s).boxes = s.boxes ∧
      (setBank n b s).queue = s.queue ∧
      (setBank n b s).accept = s.accept ∧
      (setBank n b s).nodes = s.nodes ∧
      (setBank n b s).irq = s.irq ∧
      (setBank n b s).cmd = s.cmd ∧
      (setBank n b s).win = s.win ∧
      (setBank n b s).pending = s.pending := by
  unfold setBank
  split <;> simp

@[simp] theorem exchangeBanks_frame (s : State) :
    (exchangeBanks s).params = s.params ∧
      (exchangeBanks s).line = s.line ∧
      (exchangeBanks s).rx = s.rx ∧
      (exchangeBanks s).tx = s.tx ∧
      (exchangeBanks s).timer.cycle = s.timer.cycle ∧
      (exchangeBanks s).timer.position = s.timer.position ∧
      (exchangeBanks s).timer.csSeen = s.timer.csSeen ∧
      (exchangeBanks s).points = s.points ∧
      (exchangeBanks s).sched.bankA = s.sched.bankA ∧
      (exchangeBanks s).sched.bankB = s.sched.bankB ∧
      (exchangeBanks s).seq = s.seq ∧
      (exchangeBanks s).link = s.link ∧
      (exchangeBanks s).sync = s.sync ∧
      (exchangeBanks s).boxes = s.boxes ∧
      (exchangeBanks s).queue = s.queue ∧
      (exchangeBanks s).accept = s.accept ∧
      (exchangeBanks s).nodes = s.nodes ∧
      (exchangeBanks s).irq.enables = s.irq.enables ∧
      (exchangeBanks s).irq.fault = s.irq.fault ∧
      (exchangeBanks s).irq.attention = s.irq.attention ∧
      (exchangeBanks s).irq.nodeChange = s.irq.nodeChange ∧
      (exchangeBanks s).irq.pointStatus = s.irq.pointStatus ∧
      (exchangeBanks s).irq.counters = s.irq.counters ∧
      (exchangeBanks s).cmd = s.cmd ∧
      (exchangeBanks s).win = s.win ∧
      (exchangeBanks s).pending = s.pending := by
  unfold exchangeBanks
  dsimp only
  (repeat' split) <;> simp

@[simp] theorem updateTx_frame (m : Fin 24) (f : TxMailbox → TxMailbox) (s : State) :
    (updateTx m f s).params = s.params ∧
      (updateTx m f s).line = s.line ∧
      (updateTx m f s).rx = s.rx ∧
      (updateTx m f s).tx = s.tx ∧
      (updateTx m f s).timer = s.timer ∧
      (updateTx m f s).points = s.points ∧
      (updateTx m f s).sched = s.sched ∧
      (updateTx m f s).seq = s.seq ∧
      (updateTx m f s).link = s.link ∧
      (updateTx m f s).sync = s.sync ∧
      (updateTx m f s).queue = s.queue ∧
      (updateTx m f s).accept = s.accept ∧
      (updateTx m f s).nodes = s.nodes ∧
      (updateTx m f s).irq = s.irq ∧
      (updateTx m f s).cmd = s.cmd ∧
      (updateTx m f s).win = s.win ∧
      (updateTx m f s).pending = s.pending := by
  unfold updateTx
  split <;> simp

@[simp] theorem outcomeCompleted_frame (r : Requester) (s : State) :
    (outcomeCompleted r s).params = s.params ∧
      (outcomeCompleted r s).line = s.line ∧
      (outcomeCompleted r s).rx = s.rx ∧
      (outcomeCompleted r s).tx = s.tx ∧
      (outcomeCompleted r s).timer = s.timer ∧
      (outcomeCompleted r s).points = s.points ∧
      (outcomeCompleted r s).sched = s.sched ∧
      (outcomeCompleted r s).seq = s.seq ∧
      (outcomeCompleted r s).link = s.link ∧
      (outcomeCompleted r s).sync = s.sync ∧
      (outcomeCompleted r s).accept = s.accept ∧
      (outcomeCompleted r s).nodes = s.nodes ∧
      (outcomeCompleted r s).irq.enables = s.irq.enables ∧
      (outcomeCompleted r s).irq.fault = s.irq.fault ∧
      (outcomeCompleted r s).irq.causes = s.irq.causes ∧
      (outcomeCompleted r s).irq.nodeChange = s.irq.nodeChange ∧
      (outcomeCompleted r s).irq.pointStatus = s.irq.pointStatus ∧
      (outcomeCompleted r s).irq.counters = s.irq.counters ∧
      (outcomeCompleted r s).cmd = s.cmd ∧
      (outcomeCompleted r s).win = s.win ∧
      (outcomeCompleted r s).pending = s.pending := by
  unfold outcomeCompleted
  split <;> simp

@[simp] theorem outcomeCollided_frame (r : Requester) (s : State) :
    (outcomeCollided r s).params = s.params ∧
      (outcomeCollided r s).line = s.line ∧
      (outcomeCollided r s).rx = s.rx ∧
      (outcomeCollided r s).tx = s.tx ∧
      (outcomeCollided r s).timer = s.timer ∧
      (outcomeCollided r s).points = s.points ∧
      (outcomeCollided r s).sched = s.sched ∧
      (outcomeCollided r s).seq = s.seq ∧
      (outcomeCollided r s).link = s.link ∧
      (outcomeCollided r s).sync = s.sync ∧
      (outcomeCollided r s).accept = s.accept ∧
      (outcomeCollided r s).nodes = s.nodes ∧
      (outcomeCollided r s).irq.enables = s.irq.enables ∧
      (outcomeCollided r s).irq.fault = s.irq.fault ∧
      (outcomeCollided r s).irq.causes = s.irq.causes ∧
      (outcomeCollided r s).irq.nodeChange = s.irq.nodeChange ∧
      (outcomeCollided r s).irq.pointStatus = s.irq.pointStatus ∧
      (outcomeCollided r s).irq.counters = s.irq.counters ∧
      (outcomeCollided r s).cmd = s.cmd ∧
      (outcomeCollided r s).win = s.win ∧
      (outcomeCollided r s).pending = s.pending := by
  unfold outcomeCollided
  (repeat' split) <;> simp

@[simp] theorem outcomeCut_frame (r : Requester) (s : State) :
    (outcomeCut r s).params = s.params ∧
      (outcomeCut r s).line = s.line ∧
      (outcomeCut r s).rx = s.rx ∧
      (outcomeCut r s).tx = s.tx ∧
      (outcomeCut r s).timer = s.timer ∧
      (outcomeCut r s).points = s.points ∧
      (outcomeCut r s).sched = s.sched ∧
      (outcomeCut r s).seq = s.seq ∧
      (outcomeCut r s).link = s.link ∧
      (outcomeCut r s).sync = s.sync ∧
      (outcomeCut r s).queue = s.queue ∧
      (outcomeCut r s).accept = s.accept ∧
      (outcomeCut r s).nodes = s.nodes ∧
      (outcomeCut r s).irq = s.irq ∧
      (outcomeCut r s).cmd = s.cmd ∧
      (outcomeCut r s).win = s.win ∧
      (outcomeCut r s).pending = s.pending := by
  unfold outcomeCut
  split <;> simp

@[simp] theorem slotFrameOpened_frame (s : State) :
    (slotFrameOpened s).params = s.params ∧
      (slotFrameOpened s).line = s.line ∧
      (slotFrameOpened s).rx = s.rx ∧
      (slotFrameOpened s).tx = s.tx ∧
      (slotFrameOpened s).timer = s.timer ∧
      (slotFrameOpened s).points = s.points ∧
      (slotFrameOpened s).sched = s.sched ∧
      (slotFrameOpened s).seq.nextIndex = s.seq.nextIndex ∧
      (slotFrameOpened s).link = s.link ∧
      (slotFrameOpened s).sync = s.sync ∧
      (slotFrameOpened s).boxes = s.boxes ∧
      (slotFrameOpened s).queue = s.queue ∧
      (slotFrameOpened s).accept = s.accept ∧
      (slotFrameOpened s).nodes = s.nodes ∧
      (slotFrameOpened s).irq = s.irq ∧
      (slotFrameOpened s).cmd = s.cmd ∧
      (slotFrameOpened s).win = s.win ∧
      (slotFrameOpened s).pending = s.pending := by
  unfold slotFrameOpened
  (repeat' split) <;> simp

@[simp] theorem slotFrameEnded_frame (s : State) :
    (slotFrameEnded s).params = s.params ∧
      (slotFrameEnded s).line = s.line ∧
      (slotFrameEnded s).rx = s.rx ∧
      (slotFrameEnded s).tx = s.tx ∧
      (slotFrameEnded s).timer = s.timer ∧
      (slotFrameEnded s).points = s.points ∧
      (slotFrameEnded s).sched = s.sched ∧
      (slotFrameEnded s).seq.nextIndex = s.seq.nextIndex ∧
      (slotFrameEnded s).link = s.link ∧
      (slotFrameEnded s).sync = s.sync ∧
      (slotFrameEnded s).boxes = s.boxes ∧
      (slotFrameEnded s).queue.entries = s.queue.entries ∧
      (slotFrameEnded s).accept = s.accept ∧
      (slotFrameEnded s).irq.enables = s.irq.enables ∧
      (slotFrameEnded s).irq.fault = s.irq.fault ∧
      (slotFrameEnded s).irq.causes = s.irq.causes ∧
      (slotFrameEnded s).irq.attention = s.irq.attention ∧
      (slotFrameEnded s).irq.pointStatus = s.irq.pointStatus ∧
      (slotFrameEnded s).irq.counters = s.irq.counters ∧
      (slotFrameEnded s).cmd = s.cmd ∧
      (slotFrameEnded s).win = s.win ∧
      (slotFrameEnded s).pending = s.pending := by
  unfold slotFrameEnded
  (repeat' split) <;> simp

@[simp] theorem abandonAssembly_frame (c : Counter) (s : State) :
    (abandonAssembly c s).params = s.params ∧
      (abandonAssembly c s).line = s.line ∧
      (abandonAssembly c s).tx = s.tx ∧
      (abandonAssembly c s).timer = s.timer ∧
      (abandonAssembly c s).points = s.points ∧
      (abandonAssembly c s).sched = s.sched ∧
      (abandonAssembly c s).seq.nextIndex = s.seq.nextIndex ∧
      (abandonAssembly c s).link = s.link ∧
      (abandonAssembly c s).sync = s.sync ∧
      (abandonAssembly c s).boxes = s.boxes ∧
      (abandonAssembly c s).queue.entries = s.queue.entries ∧
      (abandonAssembly c s).accept = s.accept ∧
      (abandonAssembly c s).irq.enables = s.irq.enables ∧
      (abandonAssembly c s).irq.fault = s.irq.fault ∧
      (abandonAssembly c s).irq.causes = s.irq.causes ∧
      (abandonAssembly c s).irq.attention = s.irq.attention ∧
      (abandonAssembly c s).irq.pointStatus = s.irq.pointStatus ∧
      (abandonAssembly c s).cmd = s.cmd ∧
      (abandonAssembly c s).win = s.win ∧
      (abandonAssembly c s).pending = s.pending := by
  unfold abandonAssembly
  split <;> simp

@[simp] theorem beginFrame_frame (r : Requester) (f : Frame) (s : State) :
    (beginFrame r f s).params = s.params ∧
      (beginFrame r f s).line = s.line ∧
      (beginFrame r f s).timer = s.timer ∧
      (beginFrame r f s).points = s.points ∧
      (beginFrame r f s).sched = s.sched ∧
      (beginFrame r f s).seq.nextIndex = s.seq.nextIndex ∧
      (beginFrame r f s).link = s.link ∧
      (beginFrame r f s).sync = s.sync ∧
      (beginFrame r f s).boxes = s.boxes ∧
      (beginFrame r f s).queue.entries = s.queue.entries ∧
      (beginFrame r f s).accept = s.accept ∧
      (beginFrame r f s).irq.enables = s.irq.enables ∧
      (beginFrame r f s).irq.fault = s.irq.fault ∧
      (beginFrame r f s).irq.causes = s.irq.causes ∧
      (beginFrame r f s).irq.attention = s.irq.attention ∧
      (beginFrame r f s).irq.pointStatus = s.irq.pointStatus ∧
      (beginFrame r f s).cmd = s.cmd ∧
      (beginFrame r f s).win = s.win ∧
      (beginFrame r f s).pending = s.pending := by
  unfold beginFrame
  simp

@[simp] theorem refuseSend_frame (m : Fin 24) (o : LastOutcome) (s : State) :
    (refuseSend m o s).params = s.params ∧
      (refuseSend m o s).line = s.line ∧
      (refuseSend m o s).rx = s.rx ∧
      (refuseSend m o s).tx = s.tx ∧
      (refuseSend m o s).timer = s.timer ∧
      (refuseSend m o s).points = s.points ∧
      (refuseSend m o s).sched = s.sched ∧
      (refuseSend m o s).seq = s.seq ∧
      (refuseSend m o s).link = s.link ∧
      (refuseSend m o s).sync = s.sync ∧
      (refuseSend m o s).queue = s.queue ∧
      (refuseSend m o s).accept = s.accept ∧
      (refuseSend m o s).nodes = s.nodes ∧
      (refuseSend m o s).irq.enables = s.irq.enables ∧
      (refuseSend m o s).irq.fault = s.irq.fault ∧
      (refuseSend m o s).irq.causes = s.irq.causes ∧
      (refuseSend m o s).irq.nodeChange = s.irq.nodeChange ∧
      (refuseSend m o s).irq.pointStatus = s.irq.pointStatus ∧
      (refuseSend m o s).cmd = s.cmd ∧
      (refuseSend m o s).win = s.win ∧
      (refuseSend m o s).pending = s.pending := by
  unfold refuseSend
  simp

@[simp] theorem admitTransmit_frame (e : Entry) (s : State) :
    (admitTransmit e s).params = s.params ∧
      (admitTransmit e s).line = s.line ∧
      (admitTransmit e s).timer = s.timer ∧
      (admitTransmit e s).points = s.points ∧
      (admitTransmit e s).sched = s.sched ∧
      (admitTransmit e s).seq.nextIndex = s.seq.nextIndex ∧
      (admitTransmit e s).link = s.link ∧
      (admitTransmit e s).sync = s.sync ∧
      (admitTransmit e s).queue.entries = s.queue.entries ∧
      (admitTransmit e s).accept = s.accept ∧
      (admitTransmit e s).irq.enables = s.irq.enables ∧
      (admitTransmit e s).irq.fault = s.irq.fault ∧
      (admitTransmit e s).irq.causes = s.irq.causes ∧
      (admitTransmit e s).irq.pointStatus = s.irq.pointStatus ∧
      (admitTransmit e s).cmd = s.cmd ∧
      (admitTransmit e s).win = s.win ∧
      (admitTransmit e s).pending = s.pending := by
  unfold admitTransmit
  (repeat' split) <;> simp

@[simp] theorem closeForOpening_frame (s : State) :
    (closeForOpening s).params = s.params ∧
      (closeForOpening s).line = s.line ∧
      (closeForOpening s).rx = s.rx ∧
      (closeForOpening s).tx = s.tx ∧
      (closeForOpening s).timer = s.timer ∧
      (closeForOpening s).points = s.points ∧
      (closeForOpening s).sched = s.sched ∧
      (closeForOpening s).seq.nextIndex = s.seq.nextIndex ∧
      (closeForOpening s).link = s.link ∧
      (closeForOpening s).sync = s.sync ∧
      (closeForOpening s).boxes = s.boxes ∧
      (closeForOpening s).queue.entries = s.queue.entries ∧
      (closeForOpening s).accept = s.accept ∧
      (closeForOpening s).irq.enables = s.irq.enables ∧
      (closeForOpening s).irq.fault = s.irq.fault ∧
      (closeForOpening s).irq.causes = s.irq.causes ∧
      (closeForOpening s).irq.attention = s.irq.attention ∧
      (closeForOpening s).irq.pointStatus = s.irq.pointStatus ∧
      (closeForOpening s).irq.counters = s.irq.counters ∧
      (closeForOpening s).cmd = s.cmd ∧
      (closeForOpening s).win = s.win ∧
      (closeForOpening s).pending = s.pending := by
  unfold closeForOpening
  (repeat' split) <;> simp

@[simp] theorem openEntry_frame (index : Nat) (e : Entry) (s : State) :
    (openEntry index e s).params = s.params ∧
      (openEntry index e s).line = s.line ∧
      (openEntry index e s).timer = s.timer ∧
      (openEntry index e s).points = s.points ∧
      (openEntry index e s).sched = s.sched ∧
      (openEntry index e s).seq.nextIndex = s.seq.nextIndex ∧
      (openEntry index e s).link = s.link ∧
      (openEntry index e s).sync = s.sync ∧
      (openEntry index e s).queue.entries = s.queue.entries ∧
      (openEntry index e s).accept = s.accept ∧
      (openEntry index e s).irq.enables = s.irq.enables ∧
      (openEntry index e s).irq.fault = s.irq.fault ∧
      (openEntry index e s).irq.causes = s.irq.causes ∧
      (openEntry index e s).irq.pointStatus = s.irq.pointStatus ∧
      (openEntry index e s).cmd = s.cmd ∧
      (openEntry index e s).win = s.win ∧
      (openEntry index e s).pending = s.pending := by
  unfold openEntry
  split <;> simp

@[simp] theorem slotWindowEnd_frame (s : State) :
    (slotWindowEnd s).params = s.params ∧
      (slotWindowEnd s).line = s.line ∧
      (slotWindowEnd s).rx = s.rx ∧
      (slotWindowEnd s).tx = s.tx ∧
      (slotWindowEnd s).timer = s.timer ∧
      (slotWindowEnd s).points = s.points ∧
      (slotWindowEnd s).sched = s.sched ∧
      (slotWindowEnd s).seq.nextIndex = s.seq.nextIndex ∧
      (slotWindowEnd s).link = s.link ∧
      (slotWindowEnd s).sync = s.sync ∧
      (slotWindowEnd s).boxes = s.boxes ∧
      (slotWindowEnd s).queue.entries = s.queue.entries ∧
      (slotWindowEnd s).accept = s.accept ∧
      (slotWindowEnd s).irq.enables = s.irq.enables ∧
      (slotWindowEnd s).irq.fault = s.irq.fault ∧
      (slotWindowEnd s).irq.causes = s.irq.causes ∧
      (slotWindowEnd s).irq.attention = s.irq.attention ∧
      (slotWindowEnd s).irq.pointStatus = s.irq.pointStatus ∧
      (slotWindowEnd s).irq.counters = s.irq.counters ∧
      (slotWindowEnd s).cmd = s.cmd ∧
      (slotWindowEnd s).win = s.win ∧
      (slotWindowEnd s).pending = s.pending := by
  unfold slotWindowEnd
  (repeat' split) <;> simp

@[simp] theorem reachSlotEnd_frame (q : Nat) (s : State) :
    (reachSlotEnd q s).params = s.params ∧
      (reachSlotEnd q s).line = s.line ∧
      (reachSlotEnd q s).rx = s.rx ∧
      (reachSlotEnd q s).tx = s.tx ∧
      (reachSlotEnd q s).timer = s.timer ∧
      (reachSlotEnd q s).points = s.points ∧
      (reachSlotEnd q s).sched = s.sched ∧
      (reachSlotEnd q s).seq.nextIndex = s.seq.nextIndex ∧
      (reachSlotEnd q s).link = s.link ∧
      (reachSlotEnd q s).sync = s.sync ∧
      (reachSlotEnd q s).boxes = s.boxes ∧
      (reachSlotEnd q s).queue.entries = s.queue.entries ∧
      (reachSlotEnd q s).accept = s.accept ∧
      (reachSlotEnd q s).irq.enables = s.irq.enables ∧
      (reachSlotEnd q s).irq.fault = s.irq.fault ∧
      (reachSlotEnd q s).irq.causes = s.irq.causes ∧
      (reachSlotEnd q s).irq.attention = s.irq.attention ∧
      (reachSlotEnd q s).irq.pointStatus = s.irq.pointStatus ∧
      (reachSlotEnd q s).irq.counters = s.irq.counters ∧
      (reachSlotEnd q s).cmd = s.cmd ∧
      (reachSlotEnd q s).win = s.win ∧
      (reachSlotEnd q s).pending = s.pending := by
  unfold reachSlotEnd
  (repeat' split) <;> simp

@[simp] theorem reachEntry_frame (swapping : Bool) (q : Nat) (s : State) :
    (reachEntry swapping q s).params = s.params ∧
      (reachEntry swapping q s).line = s.line ∧
      (reachEntry swapping q s).timer = s.timer ∧
      (reachEntry swapping q s).points = s.points ∧
      (reachEntry swapping q s).sched = s.sched ∧
      (reachEntry swapping q s).link = s.link ∧
      (reachEntry swapping q s).sync = s.sync ∧
      (reachEntry swapping q s).queue.entries = s.queue.entries ∧
      (reachEntry swapping q s).accept = s.accept ∧
      (reachEntry swapping q s).irq.enables = s.irq.enables ∧
      (reachEntry swapping q s).irq.fault = s.irq.fault ∧
      (reachEntry swapping q s).irq.causes = s.irq.causes ∧
      (reachEntry swapping q s).irq.pointStatus = s.irq.pointStatus ∧
      (reachEntry swapping q s).cmd = s.cmd ∧
      (reachEntry swapping q s).win = s.win ∧
      (reachEntry swapping q s).pending = s.pending := by
  unfold reachEntry
  dsimp only
  (repeat' split) <;> simp

@[simp] theorem passOver_frame (p : Nat) (s : State) (e : Entry) :
    (passOver p s e).params = s.params ∧
      (passOver p s e).line = s.line ∧
      (passOver p s e).rx = s.rx ∧
      (passOver p s e).tx = s.tx ∧
      (passOver p s e).timer = s.timer ∧
      (passOver p s e).points = s.points ∧
      (passOver p s e).sched = s.sched ∧
      (passOver p s e).seq = s.seq ∧
      (passOver p s e).link = s.link ∧
      (passOver p s e).sync = s.sync ∧
      (passOver p s e).queue = s.queue ∧
      (passOver p s e).accept = s.accept ∧
      (passOver p s e).nodes = s.nodes ∧
      (passOver p s e).irq.enables = s.irq.enables ∧
      (passOver p s e).irq.fault = s.irq.fault ∧
      (passOver p s e).irq.causes = s.irq.causes ∧
      (passOver p s e).irq.nodeChange = s.irq.nodeChange ∧
      (passOver p s e).irq.pointStatus = s.irq.pointStatus ∧
      (passOver p s e).cmd = s.cmd ∧
      (passOver p s e).win = s.win ∧
      (passOver p s e).pending = s.pending := by
  unfold passOver
  (repeat' split) <;> simp

@[simp] theorem passOverRest_frame (p : Nat) (s : State) :
    (passOverRest p s).params = s.params ∧
      (passOverRest p s).line = s.line ∧
      (passOverRest p s).rx = s.rx ∧
      (passOverRest p s).tx = s.tx ∧
      (passOverRest p s).timer = s.timer ∧
      (passOverRest p s).points = s.points ∧
      (passOverRest p s).sched = s.sched ∧
      (passOverRest p s).seq = s.seq ∧
      (passOverRest p s).link = s.link ∧
      (passOverRest p s).sync = s.sync ∧
      (passOverRest p s).queue = s.queue ∧
      (passOverRest p s).accept = s.accept ∧
      (passOverRest p s).nodes = s.nodes ∧
      (passOverRest p s).irq.enables = s.irq.enables ∧
      (passOverRest p s).irq.fault = s.irq.fault ∧
      (passOverRest p s).irq.causes = s.irq.causes ∧
      (passOverRest p s).irq.nodeChange = s.irq.nodeChange ∧
      (passOverRest p s).irq.pointStatus = s.irq.pointStatus ∧
      (passOverRest p s).cmd = s.cmd ∧
      (passOverRest p s).win = s.win ∧
      (passOverRest p s).pending = s.pending := by
  unfold passOverRest
  split
  · refine ⟨foldl_keeps (fun (u : State) => u.params) _ (fun _ _ => by simp) _ _, foldl_keeps (fun (u : State) => u.line) _ (fun _ _ => by simp) _ _, foldl_keeps (fun (u : State) => u.rx) _ (fun _ _ => by simp) _ _, foldl_keeps (fun (u : State) => u.tx) _ (fun _ _ => by simp) _ _, foldl_keeps (fun (u : State) => u.timer) _ (fun _ _ => by simp) _ _, foldl_keeps (fun (u : State) => u.points) _ (fun _ _ => by simp) _ _, foldl_keeps (fun (u : State) => u.sched) _ (fun _ _ => by simp) _ _, foldl_keeps (fun (u : State) => u.seq) _ (fun _ _ => by simp) _ _, foldl_keeps (fun (u : State) => u.link) _ (fun _ _ => by simp) _ _, foldl_keeps (fun (u : State) => u.sync) _ (fun _ _ => by simp) _ _, foldl_keeps (fun (u : State) => u.queue) _ (fun _ _ => by simp) _ _, foldl_keeps (fun (u : State) => u.accept) _ (fun _ _ => by simp) _ _, foldl_keeps (fun (u : State) => u.nodes) _ (fun _ _ => by simp) _ _, foldl_keeps (fun (u : State) => u.irq.enables) _ (fun _ _ => by simp) _ _, foldl_keeps (fun (u : State) => u.irq.fault) _ (fun _ _ => by simp) _ _, foldl_keeps (fun (u : State) => u.irq.causes) _ (fun _ _ => by simp) _ _, foldl_keeps (fun (u : State) => u.irq.nodeChange) _ (fun _ _ => by simp) _ _, foldl_keeps (fun (u : State) => u.irq.pointStatus) _ (fun _ _ => by simp) _ _, foldl_keeps (fun (u : State) => u.cmd) _ (fun _ _ => by simp) _ _, foldl_keeps (fun (u : State) => u.win) _ (fun _ _ => by simp) _ _, foldl_keeps (fun (u : State) => u.pending) _ (fun _ _ => by simp) _ _⟩
  · simp

@[simp] theorem receiveSlotTakes_frame (sl : Slot) (sub : ReceiveSub) (extended : Bool) (f : Frame) (s : State) :
    (receiveSlotTakes sl sub extended f s).params = s.params ∧
      (receiveSlotTakes sl sub extended f s).line = s.line ∧
      (receiveSlotTakes sl sub extended f s).rx = s.rx ∧
      (receiveSlotTakes sl sub extended f s).tx = s.tx ∧
      (receiveSlotTakes sl sub extended f s).timer = s.timer ∧
      (receiveSlotTakes sl sub extended f s).points = s.points ∧
      (receiveSlotTakes sl sub extended f s).sched = s.sched ∧
      (receiveSlotTakes sl sub extended f s).seq.nextIndex = s.seq.nextIndex ∧
      (receiveSlotTakes sl sub extended f s).link = s.link ∧
      (receiveSlotTakes sl sub extended f s).sync = s.sync ∧
      (receiveSlotTakes sl sub extended f s).queue.entries = s.queue.entries ∧
      (receiveSlotTakes sl sub extended f s).accept = s.accept ∧
      (receiveSlotTakes sl sub extended f s).irq.enables = s.irq.enables ∧
      (receiveSlotTakes sl sub extended f s).irq.fault = s.irq.fault ∧
      (receiveSlotTakes sl sub extended f s).irq.causes = s.irq.causes ∧
      (receiveSlotTakes sl sub extended f s).irq.pointStatus = s.irq.pointStatus ∧
      (receiveSlotTakes sl sub extended f s).cmd = s.cmd ∧
      (receiveSlotTakes sl sub extended f s).win = s.win ∧
      (receiveSlotTakes sl sub extended f s).pending = s.pending := by
  unfold receiveSlotTakes
  (repeat' split) <;> simp

@[simp] theorem routeFrame_frame (f : Frame) (s : State) :
    (routeFrame f s).params = s.params ∧
      (routeFrame f s).line = s.line ∧
      (routeFrame f s).rx = s.rx ∧
      (routeFrame f s).tx = s.tx ∧
      (routeFrame f s).timer = s.timer ∧
      (routeFrame f s).points = s.points ∧
      (routeFrame f s).sched = s.sched ∧
      (routeFrame f s).seq.nextIndex = s.seq.nextIndex ∧
      (routeFrame f s).link = s.link ∧
      (routeFrame f s).sync = s.sync ∧
      (routeFrame f s).queue.entries = s.queue.entries ∧
      (routeFrame f s).accept = s.accept ∧
      (routeFrame f s).irq.enables = s.irq.enables ∧
      (routeFrame f s).irq.fault = s.irq.fault ∧
      (routeFrame f s).irq.causes = s.irq.causes ∧
      (routeFrame f s).irq.pointStatus = s.irq.pointStatus ∧
      (routeFrame f s).cmd = s.cmd ∧
      (routeFrame f s).win = s.win ∧
      (routeFrame f s).pending = s.pending := by
  unfold routeFrame
  (repeat' split) <;> simp

@[simp] theorem setLinkState_frame (l : LinkState) (s : State) :
    (setLinkState l s).params = s.params ∧
      (setLinkState l s).line = s.line ∧
      (setLinkState l s).rx = s.rx ∧
      (setLinkState l s).tx = s.tx ∧
      (setLinkState l s).timer = s.timer ∧
      (setLinkState l s).points = s.points ∧
      (setLinkState l s).sched = s.sched ∧
      (setLinkState l s).seq = s.seq ∧
      (setLinkState l s).link.silent = s.link.silent ∧
      (setLinkState l s).link.silence = s.link.silence ∧
      (setLinkState l s).sync = s.sync ∧
      (setLinkState l s).boxes = s.boxes ∧
      (setLinkState l s).queue = s.queue ∧
      (setLinkState l s).accept = s.accept ∧
      (setLinkState l s).nodes = s.nodes ∧
      (setLinkState l s).irq.enables = s.irq.enables ∧
      (setLinkState l s).irq.fault = s.irq.fault ∧
      (setLinkState l s).irq.causes = s.irq.causes ∧
      (setLinkState l s).irq.attention = s.irq.attention ∧
      (setLinkState l s).irq.nodeChange = s.irq.nodeChange ∧
      (setLinkState l s).irq.pointStatus = s.irq.pointStatus ∧
      (setLinkState l s).irq.counters = s.irq.counters ∧
      (setLinkState l s).cmd = s.cmd ∧
      (setLinkState l s).win = s.win ∧
      (setLinkState l s).pending = s.pending := by
  unfold setLinkState
  split <;> simp

@[simp] theorem disarmOnOff_frame (s : State) :
    (disarmOnOff s).params = s.params ∧
      (disarmOnOff s).line = s.line ∧
      (disarmOnOff s).rx = s.rx ∧
      (disarmOnOff s).tx = s.tx ∧
      (disarmOnOff s).timer = s.timer ∧
      (disarmOnOff s).points = s.points ∧
      (disarmOnOff s).sched.active = s.sched.active ∧
      (disarmOnOff s).sched.bankA = s.sched.bankA ∧
      (disarmOnOff s).sched.bankB = s.sched.bankB ∧
      (disarmOnOff s).seq = s.seq ∧
      (disarmOnOff s).link = s.link ∧
      (disarmOnOff s).sync = s.sync ∧
      (disarmOnOff s).boxes = s.boxes ∧
      (disarmOnOff s).queue = s.queue ∧
      (disarmOnOff s).accept = s.accept ∧
      (disarmOnOff s).nodes = s.nodes ∧
      (disarmOnOff s).irq = s.irq ∧
      (disarmOnOff s).cmd = s.cmd ∧
      (disarmOnOff s).win = s.win ∧
      (disarmOnOff s).pending = s.pending := by
  unfold disarmOnOff
  split <;> simp

@[simp] theorem enterOff_frame (s : State) :
    (enterOff s).params = s.params ∧
      (enterOff s).tx = s.tx ∧
      (enterOff s).timer.cycle = s.timer.cycle ∧
      (enterOff s).points = s.points ∧
      (enterOff s).sched.active = s.sched.active ∧
      (enterOff s).sched.bankA = s.sched.bankA ∧
      (enterOff s).sched.bankB = s.sched.bankB ∧
      (enterOff s).sync = s.sync ∧
      (enterOff s).boxes = s.boxes ∧
      (enterOff s).queue.entries = s.queue.entries ∧
      (enterOff s).accept = s.accept ∧
      (enterOff s).nodes = s.nodes ∧
      (enterOff s).irq.enables = s.irq.enables ∧
      (enterOff s).irq.fault = s.irq.fault ∧
      (enterOff s).irq.causes = s.irq.causes ∧
      (enterOff s).irq.attention = s.irq.attention ∧
      (enterOff s).irq.nodeChange = s.irq.nodeChange ∧
      (enterOff s).irq.pointStatus = s.irq.pointStatus ∧
      (enterOff s).irq.counters = s.irq.counters ∧
      (enterOff s).cmd = s.cmd ∧
      (enterOff s).win = s.win ∧
      (enterOff s).pending = s.pending := by
  unfold enterOff
  simp

@[simp] theorem abandonCommand_frame (s : State) :
    (abandonCommand s).params = s.params ∧
      (abandonCommand s).line = s.line ∧
      (abandonCommand s).rx = s.rx ∧
      (abandonCommand s).tx = s.tx ∧
      (abandonCommand s).timer = s.timer ∧
      (abandonCommand s).points = s.points ∧
      (abandonCommand s).sched.active = s.sched.active ∧
      (abandonCommand s).sched.bankA = s.sched.bankA ∧
      (abandonCommand s).sched.bankB = s.sched.bankB ∧
      (abandonCommand s).seq = s.seq ∧
      (abandonCommand s).link = s.link ∧
      (abandonCommand s).sync = s.sync ∧
      (abandonCommand s).boxes = s.boxes ∧
      (abandonCommand s).queue = s.queue ∧
      (abandonCommand s).accept = s.accept ∧
      (abandonCommand s).nodes = s.nodes ∧
      (abandonCommand s).irq = s.irq ∧
      (abandonCommand s).cmd.code = s.cmd.code ∧
      (abandonCommand s).cmd.arg0 = s.cmd.arg0 ∧
      (abandonCommand s).cmd.arg1 = s.cmd.arg1 ∧
      (abandonCommand s).cmd.takenArg0 = s.cmd.takenArg0 ∧
      (abandonCommand s).cmd.takenArg1 = s.cmd.takenArg1 ∧
      (abandonCommand s).cmd.lost = s.cmd.lost ∧
      (abandonCommand s).cmd.result = s.cmd.result ∧
      (abandonCommand s).win = s.win ∧
      (abandonCommand s).pending = s.pending := by
  unfold abandonCommand
  split <;> simp

@[simp] theorem cutTransmission_frame (s : State) :
    (cutTransmission s).params = s.params ∧
      (cutTransmission s).line = s.line ∧
      (cutTransmission s).timer = s.timer ∧
      (cutTransmission s).points = s.points ∧
      (cutTransmission s).sched = s.sched ∧
      (cutTransmission s).seq = s.seq ∧
      (cutTransmission s).link = s.link ∧
      (cutTransmission s).sync = s.sync ∧
      (cutTransmission s).queue = s.queue ∧
      (cutTransmission s).accept = s.accept ∧
      (cutTransmission s).nodes = s.nodes ∧
      (cutTransmission s).irq = s.irq ∧
      (cutTransmission s).cmd = s.cmd ∧
      (cutTransmission s).win = s.win ∧
      (cutTransmission s).pending = s.pending := by
  unfold cutTransmission
  split <;> simp

@[simp] theorem finishStopping_frame (s : State) :
    (finishStopping s).params = s.params ∧
      (finishStopping s).tx = s.tx ∧
      (finishStopping s).timer.cycle = s.timer.cycle ∧
      (finishStopping s).points = s.points ∧
      (finishStopping s).sched.active = s.sched.active ∧
      (finishStopping s).sched.bankA = s.sched.bankA ∧
      (finishStopping s).sched.bankB = s.sched.bankB ∧
      (finishStopping s).sync = s.sync ∧
      (finishStopping s).boxes = s.boxes ∧
      (finishStopping s).queue.entries = s.queue.entries ∧
      (finishStopping s).accept = s.accept ∧
      (finishStopping s).nodes = s.nodes ∧
      (finishStopping s).irq.enables = s.irq.enables ∧
      (finishStopping s).irq.fault = s.irq.fault ∧
      (finishStopping s).irq.causes = s.irq.causes ∧
      (finishStopping s).irq.attention = s.irq.attention ∧
      (finishStopping s).irq.nodeChange = s.irq.nodeChange ∧
      (finishStopping s).irq.pointStatus = s.irq.pointStatus ∧
      (finishStopping s).irq.counters = s.irq.counters ∧
      (finishStopping s).cmd.code = s.cmd.code ∧
      (finishStopping s).cmd.arg0 = s.cmd.arg0 ∧
      (finishStopping s).cmd.arg1 = s.cmd.arg1 ∧
      (finishStopping s).cmd.takenArg0 = s.cmd.takenArg0 ∧
      (finishStopping s).cmd.takenArg1 = s.cmd.takenArg1 ∧
      (finishStopping s).cmd.lost = s.cmd.lost ∧
      (finishStopping s).win = s.win ∧
      (finishStopping s).pending = s.pending := by
  unfold finishStopping
  split <;> simp

@[simp] theorem completeTransmission_frame (t : Transmission) (s : State) :
    (completeTransmission t s).params = s.params ∧
      (completeTransmission t s).timer.cycle = s.timer.cycle ∧
      (completeTransmission t s).points = s.points ∧
      (completeTransmission t s).sched.active = s.sched.active ∧
      (completeTransmission t s).sched.bankA = s.sched.bankA ∧
      (completeTransmission t s).sched.bankB = s.sched.bankB ∧
      (completeTransmission t s).sync = s.sync ∧
      (completeTransmission t s).accept = s.accept ∧
      (completeTransmission t s).nodes = s.nodes ∧
      (completeTransmission t s).irq.enables = s.irq.enables ∧
      (completeTransmission t s).irq.fault = s.irq.fault ∧
      (completeTransmission t s).irq.causes = s.irq.causes ∧
      (completeTransmission t s).irq.nodeChange = s.irq.nodeChange ∧
      (completeTransmission t s).irq.pointStatus = s.irq.pointStatus ∧
      (completeTransmission t s).irq.counters = s.irq.counters ∧
      (completeTransmission t s).cmd.code = s.cmd.code ∧
      (completeTransmission t s).cmd.arg0 = s.cmd.arg0 ∧
      (completeTransmission t s).cmd.arg1 = s.cmd.arg1 ∧
      (completeTransmission t s).cmd.takenArg0 = s.cmd.takenArg0 ∧
      (completeTransmission t s).cmd.takenArg1 = s.cmd.takenArg1 ∧
      (completeTransmission t s).cmd.lost = s.cmd.lost ∧
      (completeTransmission t s).win = s.win ∧
      (completeTransmission t s).pending = s.pending := by
  unfold completeTransmission endTransmission
  simp

@[simp] theorem collideTransmission_frame (t : Transmission) (s : State) :
    (collideTransmission t s).params = s.params ∧
      (collideTransmission t s).timer.cycle = s.timer.cycle ∧
      (collideTransmission t s).points = s.points ∧
      (collideTransmission t s).sched.active = s.sched.active ∧
      (collideTransmission t s).sched.bankA = s.sched.bankA ∧
      (collideTransmission t s).sched.bankB = s.sched.bankB ∧
      (collideTransmission t s).sync = s.sync ∧
      (collideTransmission t s).accept = s.accept ∧
      (collideTransmission t s).nodes = s.nodes ∧
      (collideTransmission t s).irq.enables = s.irq.enables ∧
      (collideTransmission t s).irq.fault = s.irq.fault ∧
      (collideTransmission t s).irq.causes = s.irq.causes ∧
      (collideTransmission t s).irq.nodeChange = s.irq.nodeChange ∧
      (collideTransmission t s).irq.pointStatus = s.irq.pointStatus ∧
      (collideTransmission t s).cmd.code = s.cmd.code ∧
      (collideTransmission t s).cmd.arg0 = s.cmd.arg0 ∧
      (collideTransmission t s).cmd.arg1 = s.cmd.arg1 ∧
      (collideTransmission t s).cmd.takenArg0 = s.cmd.takenArg0 ∧
      (collideTransmission t s).cmd.takenArg1 = s.cmd.takenArg1 ∧
      (collideTransmission t s).cmd.lost = s.cmd.lost ∧
      (collideTransmission t s).win = s.win ∧
      (collideTransmission t s).pending = s.pending := by
  unfold collideTransmission endTransmission
  simp

@[simp] theorem endDueTransmission_frame (s : State) :
    (endDueTransmission s).params = s.params ∧
      (endDueTransmission s).timer.cycle = s.timer.cycle ∧
      (endDueTransmission s).points = s.points ∧
      (endDueTransmission s).sched.active = s.sched.active ∧
      (endDueTransmission s).sched.bankA = s.sched.bankA ∧
      (endDueTransmission s).sched.bankB = s.sched.bankB ∧
      (endDueTransmission s).sync = s.sync ∧
      (endDueTransmission s).accept = s.accept ∧
      (endDueTransmission s).nodes = s.nodes ∧
      (endDueTransmission s).irq.enables = s.irq.enables ∧
      (endDueTransmission s).irq.fault = s.irq.fault ∧
      (endDueTransmission s).irq.causes = s.irq.causes ∧
      (endDueTransmission s).irq.nodeChange = s.irq.nodeChange ∧
      (endDueTransmission s).irq.pointStatus = s.irq.pointStatus ∧
      (endDueTransmission s).cmd.code = s.cmd.code ∧
      (endDueTransmission s).cmd.arg0 = s.cmd.arg0 ∧
      (endDueTransmission s).cmd.arg1 = s.cmd.arg1 ∧
      (endDueTransmission s).cmd.takenArg0 = s.cmd.takenArg0 ∧
      (endDueTransmission s).cmd.takenArg1 = s.cmd.takenArg1 ∧
      (endDueTransmission s).cmd.lost = s.cmd.lost ∧
      (endDueTransmission s).win = s.win ∧
      (endDueTransmission s).pending = s.pending := by
  unfold endDueTransmission
  (repeat' split) <;> simp

@[simp] theorem firePoints_frame (q : Nat) (s : State) :
    (firePoints q s).params = s.params ∧
      (firePoints q s).line = s.line ∧
      (firePoints q s).rx = s.rx ∧
      (firePoints q s).tx = s.tx ∧
      (firePoints q s).timer = s.timer ∧
      (firePoints q s).sched = s.sched ∧
      (firePoints q s).seq = s.seq ∧
      (firePoints q s).link = s.link ∧
      (firePoints q s).sync = s.sync ∧
      (firePoints q s).boxes = s.boxes ∧
      (firePoints q s).queue = s.queue ∧
      (firePoints q s).accept = s.accept ∧
      (firePoints q s).nodes = s.nodes ∧
      (firePoints q s).irq.enables = s.irq.enables ∧
      (firePoints q s).irq.fault = s.irq.fault ∧
      (firePoints q s).irq.causes = s.irq.causes ∧
      (firePoints q s).irq.attention = s.irq.attention ∧
      (firePoints q s).irq.nodeChange = s.irq.nodeChange ∧
      (firePoints q s).irq.counters = s.irq.counters ∧
      (firePoints q s).cmd = s.cmd ∧
      (firePoints q s).win = s.win ∧
      (firePoints q s).pending = s.pending := by
  unfold firePoints
  split <;> simp

@[simp] theorem reachOffset_frame (swapping : Bool) (q : Nat) (s : State) :
    (reachOffset swapping q s).params = s.params ∧
      (reachOffset swapping q s).line = s.line ∧
      (reachOffset swapping q s).timer = s.timer ∧
      (reachOffset swapping q s).sched = s.sched ∧
      (reachOffset swapping q s).link = s.link ∧
      (reachOffset swapping q s).sync = s.sync ∧
      (reachOffset swapping q s).queue.entries = s.queue.entries ∧
      (reachOffset swapping q s).accept = s.accept ∧
      (reachOffset swapping q s).irq.enables = s.irq.enables ∧
      (reachOffset swapping q s).irq.fault = s.irq.fault ∧
      (reachOffset swapping q s).irq.causes = s.irq.causes ∧
      (reachOffset swapping q s).cmd = s.cmd ∧
      (reachOffset swapping q s).win = s.win ∧
      (reachOffset swapping q s).pending = s.pending := by
  unfold reachOffset
  simp

@[simp] theorem boundaryEffects_frame (s : State) :
    (boundaryEffects s).params = s.params ∧
      (boundaryEffects s).line = s.line ∧
      (boundaryEffects s).timer.length = s.timer.length ∧
      (boundaryEffects s).sched = s.sched ∧
      (boundaryEffects s).link = s.link ∧
      (boundaryEffects s).sync = s.sync ∧
      (boundaryEffects s).queue.entries = s.queue.entries ∧
      (boundaryEffects s).accept = s.accept ∧
      (boundaryEffects s).irq.enables = s.irq.enables ∧
      (boundaryEffects s).irq.fault = s.irq.fault ∧
      (boundaryEffects s).irq.causes = s.irq.causes ∧
      (boundaryEffects s).cmd = s.cmd ∧
      (boundaryEffects s).win = s.win ∧
      (boundaryEffects s).pending = s.pending := by
  unfold boundaryEffects
  simp

@[simp] theorem launchCycleStart_frame (s : State) :
    (launchCycleStart s).params = s.params ∧
      (launchCycleStart s).line = s.line ∧
      (launchCycleStart s).timer = s.timer ∧
      (launchCycleStart s).points = s.points ∧
      (launchCycleStart s).sched = s.sched ∧
      (launchCycleStart s).seq.nextIndex = s.seq.nextIndex ∧
      (launchCycleStart s).link = s.link ∧
      (launchCycleStart s).sync = s.sync ∧
      (launchCycleStart s).boxes = s.boxes ∧
      (launchCycleStart s).queue.entries = s.queue.entries ∧
      (launchCycleStart s).accept = s.accept ∧
      (launchCycleStart s).irq.enables = s.irq.enables ∧
      (launchCycleStart s).irq.fault = s.irq.fault ∧
      (launchCycleStart s).irq.attention = s.irq.attention ∧
      (launchCycleStart s).irq.pointStatus = s.irq.pointStatus ∧
      (launchCycleStart s).cmd = s.cmd ∧
      (launchCycleStart s).win = s.win ∧
      (launchCycleStart s).pending = s.pending := by
  unfold launchCycleStart
  (repeat' split) <;> simp

@[simp] theorem masterSwap_frame (s : State) :
    (masterSwap s).params = s.params ∧
      (masterSwap s).line = s.line ∧
      (masterSwap s).rx = s.rx ∧
      (masterSwap s).tx = s.tx ∧
      (masterSwap s).timer.cycle = s.timer.cycle ∧
      (masterSwap s).timer.position = s.timer.position ∧
      (masterSwap s).timer.csSeen = s.timer.csSeen ∧
      (masterSwap s).points = s.points ∧
      (masterSwap s).sched.bankA = s.sched.bankA ∧
      (masterSwap s).sched.bankB = s.sched.bankB ∧
      (masterSwap s).seq = s.seq ∧
      (masterSwap s).link = s.link ∧
      (masterSwap s).sync = s.sync ∧
      (masterSwap s).boxes = s.boxes ∧
      (masterSwap s).queue = s.queue ∧
      (masterSwap s).accept = s.accept ∧
      (masterSwap s).nodes = s.nodes ∧
      (masterSwap s).irq.enables = s.irq.enables ∧
      (masterSwap s).irq.fault = s.irq.fault ∧
      (masterSwap s).irq.attention = s.irq.attention ∧
      (masterSwap s).irq.nodeChange = s.irq.nodeChange ∧
      (masterSwap s).irq.pointStatus = s.irq.pointStatus ∧
      (masterSwap s).irq.counters = s.irq.counters ∧
      (masterSwap s).cmd = s.cmd ∧
      (masterSwap s).win = s.win ∧
      (masterSwap s).pending = s.pending := by
  unfold masterSwap
  split <;> simp

@[simp] theorem countedBoundary_frame (s : State) :
    (countedBoundary s).params = s.params ∧
      (countedBoundary s).line = s.line ∧
      (countedBoundary s).sched.bankA = s.sched.bankA ∧
      (countedBoundary s).sched.bankB = s.sched.bankB ∧
      (countedBoundary s).link = s.link ∧
      (countedBoundary s).sync = s.sync ∧
      (countedBoundary s).queue.entries = s.queue.entries ∧
      (countedBoundary s).accept = s.accept ∧
      (countedBoundary s).irq.enables = s.irq.enables ∧
      (countedBoundary s).irq.fault = s.irq.fault ∧
      (countedBoundary s).cmd = s.cmd ∧
      (countedBoundary s).win = s.win ∧
      (countedBoundary s).pending = s.pending := by
  unfold countedBoundary
  dsimp only
  (repeat' split) <;> simp

@[simp] theorem syncLoss_frame (s : State) :
    (syncLoss s).params = s.params ∧
      (syncLoss s).line = s.line ∧
      (syncLoss s).rx = s.rx ∧
      (syncLoss s).tx = s.tx ∧
      (syncLoss s).timer.cycle = s.timer.cycle ∧
      (syncLoss s).points = s.points ∧
      (syncLoss s).sched = s.sched ∧
      (syncLoss s).link.silent = s.link.silent ∧
      (syncLoss s).link.silence = s.link.silence ∧
      (syncLoss s).sync = s.sync ∧
      (syncLoss s).boxes = s.boxes ∧
      (syncLoss s).queue.entries = s.queue.entries ∧
      (syncLoss s).accept = s.accept ∧
      (syncLoss s).nodes = s.nodes ∧
      (syncLoss s).irq.enables = s.irq.enables ∧
      (syncLoss s).irq.fault = s.irq.fault ∧
      (syncLoss s).irq.attention = s.irq.attention ∧
      (syncLoss s).irq.nodeChange = s.irq.nodeChange ∧
      (syncLoss s).irq.pointStatus = s.irq.pointStatus ∧
      (syncLoss s).irq.counters = s.irq.counters ∧
      (syncLoss s).cmd = s.cmd ∧
      (syncLoss s).win = s.win ∧
      (syncLoss s).pending = s.pending := by
  unfold syncLoss
  simp

@[simp] theorem missedStart_frame (s : State) :
    (missedStart s).params = s.params ∧
      (missedStart s).line = s.line ∧
      (missedStart s).rx = s.rx ∧
      (missedStart s).tx = s.tx ∧
      (missedStart s).timer.cycle = s.timer.cycle ∧
      (missedStart s).points = s.points ∧
      (missedStart s).sched = s.sched ∧
      (missedStart s).link.silent = s.link.silent ∧
      (missedStart s).link.silence = s.link.silence ∧
      (missedStart s).sync.deviation = s.sync.deviation ∧
      (missedStart s).boxes = s.boxes ∧
      (missedStart s).queue.entries = s.queue.entries ∧
      (missedStart s).accept = s.accept ∧
      (missedStart s).nodes = s.nodes ∧
      (missedStart s).irq.enables = s.irq.enables ∧
      (missedStart s).irq.fault = s.irq.fault ∧
      (missedStart s).irq.attention = s.irq.attention ∧
      (missedStart s).irq.nodeChange = s.irq.nodeChange ∧
      (missedStart s).irq.pointStatus = s.irq.pointStatus ∧
      (missedStart s).cmd = s.cmd ∧
      (missedStart s).win = s.win ∧
      (missedStart s).pending = s.pending := by
  unfold missedStart
  dsimp only
  (repeat' split) <;> simp

@[simp] theorem csWindowEnd_frame (s : State) :
    (csWindowEnd s).params = s.params ∧
      (csWindowEnd s).line = s.line ∧
      (csWindowEnd s).rx = s.rx ∧
      (csWindowEnd s).tx = s.tx ∧
      (csWindowEnd s).timer.cycle = s.timer.cycle ∧
      (csWindowEnd s).points = s.points ∧
      (csWindowEnd s).sched = s.sched ∧
      (csWindowEnd s).link.silent = s.link.silent ∧
      (csWindowEnd s).link.silence = s.link.silence ∧
      (csWindowEnd s).sync.deviation = s.sync.deviation ∧
      (csWindowEnd s).boxes = s.boxes ∧
      (csWindowEnd s).queue.entries = s.queue.entries ∧
      (csWindowEnd s).accept = s.accept ∧
      (csWindowEnd s).nodes = s.nodes ∧
      (csWindowEnd s).irq.enables = s.irq.enables ∧
      (csWindowEnd s).irq.fault = s.irq.fault ∧
      (csWindowEnd s).irq.attention = s.irq.attention ∧
      (csWindowEnd s).irq.nodeChange = s.irq.nodeChange ∧
      (csWindowEnd s).irq.pointStatus = s.irq.pointStatus ∧
      (csWindowEnd s).cmd = s.cmd ∧
      (csWindowEnd s).win = s.win ∧
      (csWindowEnd s).pending = s.pending := by
  unfold csWindowEnd
  split <;> simp

@[simp] theorem ctPasses_frame (s : State) :
    (ctPasses s).params = s.params ∧
      (ctPasses s).line.level = s.line.level ∧
      (ctPasses s).tx = s.tx ∧
      (ctPasses s).timer = s.timer ∧
      (ctPasses s).points = s.points ∧
      (ctPasses s).sched = s.sched ∧
      (ctPasses s).seq = s.seq ∧
      (ctPasses s).link = s.link ∧
      (ctPasses s).sync = s.sync ∧
      (ctPasses s).boxes = s.boxes ∧
      (ctPasses s).queue.entries = s.queue.entries ∧
      (ctPasses s).queue.turnedAway = s.queue.turnedAway ∧
      (ctPasses s).accept = s.accept ∧
      (ctPasses s).nodes = s.nodes ∧
      (ctPasses s).irq = s.irq ∧
      (ctPasses s).cmd = s.cmd ∧
      (ctPasses s).win = s.win ∧
      (ctPasses s).pending = s.pending := by
  unfold ctPasses
  simp

@[simp] theorem countTo_frame (q : Nat) (s : State) :
    (countTo q s).params = s.params ∧
      (countTo q s).line = s.line ∧
      (countTo q s).timer.cycle = s.timer.cycle ∧
      (countTo q s).sched = s.sched ∧
      (countTo q s).link.silent = s.link.silent ∧
      (countTo q s).link.silence = s.link.silence ∧
      (countTo q s).sync.deviation = s.sync.deviation ∧
      (countTo q s).queue.entries = s.queue.entries ∧
      (countTo q s).accept = s.accept ∧
      (countTo q s).irq.enables = s.irq.enables ∧
      (countTo q s).irq.fault = s.irq.fault ∧
      (countTo q s).cmd = s.cmd ∧
      (countTo q s).win = s.win ∧
      (countTo q s).pending = s.pending := by
  unfold countTo
  dsimp only
  (repeat' split) <;> simp

@[simp] theorem advanceTimer_frame (s : State) :
    (advanceTimer s).params = s.params ∧
      (advanceTimer s).line = s.line ∧
      (advanceTimer s).sched.bankA = s.sched.bankA ∧
      (advanceTimer s).sched.bankB = s.sched.bankB ∧
      (advanceTimer s).link.silent = s.link.silent ∧
      (advanceTimer s).link.silence = s.link.silence ∧
      (advanceTimer s).sync.deviation = s.sync.deviation ∧
      (advanceTimer s).queue.entries = s.queue.entries ∧
      (advanceTimer s).accept = s.accept ∧
      (advanceTimer s).irq.enables = s.irq.enables ∧
      (advanceTimer s).irq.fault = s.irq.fault ∧
      (advanceTimer s).cmd = s.cmd ∧
      (advanceTimer s).win = s.win ∧
      (advanceTimer s).pending = s.pending := by
  unfold advanceTimer
  dsimp only
  (repeat' split) <;> simp

@[simp] theorem endOfCt_frame (s : State) :
    (endOfCt s).params = s.params ∧
      (endOfCt s).sched.bankA = s.sched.bankA ∧
      (endOfCt s).sched.bankB = s.sched.bankB ∧
      (endOfCt s).sync.deviation = s.sync.deviation ∧
      (endOfCt s).accept = s.accept ∧
      (endOfCt s).irq.enables = s.irq.enables ∧
      (endOfCt s).irq.fault = s.irq.fault ∧
      (endOfCt s).cmd.code = s.cmd.code ∧
      (endOfCt s).cmd.arg0 = s.cmd.arg0 ∧
      (endOfCt s).cmd.arg1 = s.cmd.arg1 ∧
      (endOfCt s).cmd.takenArg0 = s.cmd.takenArg0 ∧
      (endOfCt s).cmd.takenArg1 = s.cmd.takenArg1 ∧
      (endOfCt s).cmd.lost = s.cmd.lost ∧
      (endOfCt s).win = s.win ∧
      (endOfCt s).pending = s.pending := by
  unfold endOfCt
  split <;> simp

@[simp] theorem completeStartup_frame (s : State) :
    (completeStartup s).params = s.params ∧
      (completeStartup s).line.level = s.line.level ∧
      (completeStartup s).sched = s.sched ∧
      (completeStartup s).link.silent = s.link.silent ∧
      (completeStartup s).sync = s.sync ∧
      (completeStartup s).queue.entries = s.queue.entries ∧
      (completeStartup s).accept = s.accept ∧
      (completeStartup s).irq.enables = s.irq.enables ∧
      (completeStartup s).irq.fault = s.irq.fault ∧
      (completeStartup s).cmd = s.cmd ∧
      (completeStartup s).win = s.win ∧
      (completeStartup s).pending = s.pending := by
  unfold completeStartup
  simp

@[simp] theorem idleCt_frame (s : State) :
    (idleCt s).params = s.params ∧
      (idleCt s).line.level = s.line.level ∧
      (idleCt s).tx = s.tx ∧
      (idleCt s).timer = s.timer ∧
      (idleCt s).points = s.points ∧
      (idleCt s).sched = s.sched ∧
      (idleCt s).seq = s.seq ∧
      (idleCt s).link.state = s.link.state ∧
      (idleCt s).link.silent = s.link.silent ∧
      (idleCt s).sync = s.sync ∧
      (idleCt s).boxes = s.boxes ∧
      (idleCt s).queue = s.queue ∧
      (idleCt s).accept = s.accept ∧
      (idleCt s).nodes = s.nodes ∧
      (idleCt s).irq = s.irq ∧
      (idleCt s).cmd = s.cmd ∧
      (idleCt s).win = s.win ∧
      (idleCt s).pending = s.pending := by
  unfold idleCt
  (repeat' split) <;> simp

@[simp] theorem masterHearsCs_frame (f : Frame) (s : State) :
    (masterHearsCs f s).params = s.params ∧
      (masterHearsCs f s).line = s.line ∧
      (masterHearsCs f s).rx = s.rx ∧
      (masterHearsCs f s).tx = s.tx ∧
      (masterHearsCs f s).timer = s.timer ∧
      (masterHearsCs f s).points = s.points ∧
      (masterHearsCs f s).sched = s.sched ∧
      (masterHearsCs f s).seq = s.seq ∧
      (masterHearsCs f s).link.state = s.link.state ∧
      (masterHearsCs f s).sync.missed = s.sync.missed ∧
      (masterHearsCs f s).sync.deviation = s.sync.deviation ∧
      (masterHearsCs f s).boxes = s.boxes ∧
      (masterHearsCs f s).queue = s.queue ∧
      (masterHearsCs f s).accept = s.accept ∧
      (masterHearsCs f s).nodes = s.nodes ∧
      (masterHearsCs f s).irq.enables = s.irq.enables ∧
      (masterHearsCs f s).irq.fault = s.irq.fault ∧
      (masterHearsCs f s).irq.attention = s.irq.attention ∧
      (masterHearsCs f s).irq.nodeChange = s.irq.nodeChange ∧
      (masterHearsCs f s).irq.pointStatus = s.irq.pointStatus ∧
      (masterHearsCs f s).irq.counters = s.irq.counters ∧
      (masterHearsCs f s).cmd = s.cmd ∧
      (masterHearsCs f s).win = s.win ∧
      (masterHearsCs f s).pending = s.pending := by
  unfold masterHearsCs
  split <;> simp

@[simp] theorem earlyBoundary_frame (p : Nat) (s : State) :
    (earlyBoundary p s).params = s.params ∧
      (earlyBoundary p s).line = s.line ∧
      (earlyBoundary p s).timer.length = s.timer.length ∧
      (earlyBoundary p s).sched = s.sched ∧
      (earlyBoundary p s).link = s.link ∧
      (earlyBoundary p s).sync = s.sync ∧
      (earlyBoundary p s).queue.entries = s.queue.entries ∧
      (earlyBoundary p s).accept = s.accept ∧
      (earlyBoundary p s).irq.enables = s.irq.enables ∧
      (earlyBoundary p s).irq.fault = s.irq.fault ∧
      (earlyBoundary p s).irq.causes = s.irq.causes ∧
      (earlyBoundary p s).cmd = s.cmd ∧
      (earlyBoundary p s).win = s.win ∧
      (earlyBoundary p s).pending = s.pending := by
  unfold earlyBoundary
  simp

@[simp] theorem reachAll_frame (swapping : Bool) (offsets : List Nat) (s : State) :
    (reachAll swapping offsets s).params = s.params ∧
      (reachAll swapping offsets s).line = s.line ∧
      (reachAll swapping offsets s).timer = s.timer ∧
      (reachAll swapping offsets s).sched = s.sched ∧
      (reachAll swapping offsets s).link = s.link ∧
      (reachAll swapping offsets s).sync = s.sync ∧
      (reachAll swapping offsets s).queue.entries = s.queue.entries ∧
      (reachAll swapping offsets s).accept = s.accept ∧
      (reachAll swapping offsets s).irq.enables = s.irq.enables ∧
      (reachAll swapping offsets s).irq.fault = s.irq.fault ∧
      (reachAll swapping offsets s).irq.causes = s.irq.causes ∧
      (reachAll swapping offsets s).cmd = s.cmd ∧
      (reachAll swapping offsets s).win = s.win ∧
      (reachAll swapping offsets s).pending = s.pending := by
  unfold reachAll
  refine ⟨foldl_keeps (fun (u : State) => u.params) _ (fun _ _ => by simp) _ _, foldl_keeps (fun (u : State) => u.line) _ (fun _ _ => by simp) _ _, foldl_keeps (fun (u : State) => u.timer) _ (fun _ _ => by simp) _ _, foldl_keeps (fun (u : State) => u.sched) _ (fun _ _ => by simp) _ _, foldl_keeps (fun (u : State) => u.link) _ (fun _ _ => by simp) _ _, foldl_keeps (fun (u : State) => u.sync) _ (fun _ _ => by simp) _ _, foldl_keeps (fun (u : State) => u.queue.entries) _ (fun _ _ => by simp) _ _, foldl_keeps (fun (u : State) => u.accept) _ (fun _ _ => by simp) _ _, foldl_keeps (fun (u : State) => u.irq.enables) _ (fun _ _ => by simp) _ _, foldl_keeps (fun (u : State) => u.irq.fault) _ (fun _ _ => by simp) _ _, foldl_keeps (fun (u : State) => u.irq.causes) _ (fun _ _ => by simp) _ _, foldl_keeps (fun (u : State) => u.cmd) _ (fun _ _ => by simp) _ _, foldl_keeps (fun (u : State) => u.win) _ (fun _ _ => by simp) _ _, foldl_keeps (fun (u : State) => u.pending) _ (fun _ _ => by simp) _ _⟩

@[simp] theorem resync_frame (f : Frame) (n length : Nat) (s : State) :
    (resync f n length s).params = s.params ∧
      (resync f n length s).line.level = s.line.level ∧
      (resync f n length s).timer.length = s.timer.length ∧
      (resync f n length s).sched = s.sched ∧
      (resync f n length s).link = s.link ∧
      (resync f n length s).sync.missed = s.sync.missed ∧
      (resync f n length s).queue.entries = s.queue.entries ∧
      (resync f n length s).accept = s.accept ∧
      (resync f n length s).irq.enables = s.irq.enables ∧
      (resync f n length s).irq.fault = s.irq.fault ∧
      (resync f n length s).irq.causes = s.irq.causes ∧
      (resync f n length s).cmd = s.cmd ∧
      (resync f n length s).win = s.win ∧
      (resync f n length s).pending = s.pending := by
  unfold resync
  dsimp only
  (repeat' split) <;> simp

@[simp] theorem checkCycleNumber_frame (f : Frame) (s : State) :
    (checkCycleNumber f s).params = s.params ∧
      (checkCycleNumber f s).line = s.line ∧
      (checkCycleNumber f s).rx = s.rx ∧
      (checkCycleNumber f s).tx = s.tx ∧
      (checkCycleNumber f s).timer.length = s.timer.length ∧
      (checkCycleNumber f s).timer.position = s.timer.position ∧
      (checkCycleNumber f s).timer.csSeen = s.timer.csSeen ∧
      (checkCycleNumber f s).points = s.points ∧
      (checkCycleNumber f s).sched = s.sched ∧
      (checkCycleNumber f s).seq = s.seq ∧
      (checkCycleNumber f s).link = s.link ∧
      (checkCycleNumber f s).sync = s.sync ∧
      (checkCycleNumber f s).boxes = s.boxes ∧
      (checkCycleNumber f s).queue = s.queue ∧
      (checkCycleNumber f s).accept = s.accept ∧
      (checkCycleNumber f s).nodes = s.nodes ∧
      (checkCycleNumber f s).irq.enables = s.irq.enables ∧
      (checkCycleNumber f s).irq.fault = s.irq.fault ∧
      (checkCycleNumber f s).irq.attention = s.irq.attention ∧
      (checkCycleNumber f s).irq.nodeChange = s.irq.nodeChange ∧
      (checkCycleNumber f s).irq.pointStatus = s.irq.pointStatus ∧
      (checkCycleNumber f s).irq.counters = s.irq.counters ∧
      (checkCycleNumber f s).cmd = s.cmd ∧
      (checkCycleNumber f s).win = s.win ∧
      (checkCycleNumber f s).pending = s.pending := by
  unfold checkCycleNumber
  split <;> simp

@[simp] theorem checkDeviation_frame (d : Int) (s : State) :
    (checkDeviation d s).params = s.params ∧
      (checkDeviation d s).line = s.line ∧
      (checkDeviation d s).rx = s.rx ∧
      (checkDeviation d s).tx = s.tx ∧
      (checkDeviation d s).timer = s.timer ∧
      (checkDeviation d s).points = s.points ∧
      (checkDeviation d s).sched = s.sched ∧
      (checkDeviation d s).seq = s.seq ∧
      (checkDeviation d s).link = s.link ∧
      (checkDeviation d s).sync = s.sync ∧
      (checkDeviation d s).boxes = s.boxes ∧
      (checkDeviation d s).queue = s.queue ∧
      (checkDeviation d s).accept = s.accept ∧
      (checkDeviation d s).nodes = s.nodes ∧
      (checkDeviation d s).irq.enables = s.irq.enables ∧
      (checkDeviation d s).irq.fault = s.irq.fault ∧
      (checkDeviation d s).irq.attention = s.irq.attention ∧
      (checkDeviation d s).irq.nodeChange = s.irq.nodeChange ∧
      (checkDeviation d s).irq.pointStatus = s.irq.pointStatus ∧
      (checkDeviation d s).irq.counters = s.irq.counters ∧
      (checkDeviation d s).cmd = s.cmd ∧
      (checkDeviation d s).win = s.win ∧
      (checkDeviation d s).pending = s.pending := by
  unfold checkDeviation
  split <;> simp

@[simp] theorem startFromListen_frame (f : Frame) (n : Nat) (s : State) :
    (startFromListen f n s).params = s.params ∧
      (startFromListen f n s).line.level = s.line.level ∧
      (startFromListen f n s).sched = s.sched ∧
      (startFromListen f n s).link = s.link ∧
      (startFromListen f n s).sync.missed = s.sync.missed ∧
      (startFromListen f n s).queue.entries = s.queue.entries ∧
      (startFromListen f n s).accept = s.accept ∧
      (startFromListen f n s).irq.enables = s.irq.enables ∧
      (startFromListen f n s).irq.fault = s.irq.fault ∧
      (startFromListen f n s).irq.causes = s.irq.causes ∧
      (startFromListen f n s).cmd = s.cmd ∧
      (startFromListen f n s).win = s.win ∧
      (startFromListen f n s).pending = s.pending := by
  unfold startFromListen
  simp

@[simp] theorem followerSwap_frame (n : Nat) (s : State) :
    (followerSwap n s).params = s.params ∧
      (followerSwap n s).line = s.line ∧
      (followerSwap n s).rx = s.rx ∧
      (followerSwap n s).tx = s.tx ∧
      (followerSwap n s).timer.cycle = s.timer.cycle ∧
      (followerSwap n s).timer.position = s.timer.position ∧
      (followerSwap n s).timer.csSeen = s.timer.csSeen ∧
      (followerSwap n s).points = s.points ∧
      (followerSwap n s).sched.bankA = s.sched.bankA ∧
      (followerSwap n s).sched.bankB = s.sched.bankB ∧
      (followerSwap n s).link = s.link ∧
      (followerSwap n s).sync = s.sync ∧
      (followerSwap n s).boxes = s.boxes ∧
      (followerSwap n s).queue.entries = s.queue.entries ∧
      (followerSwap n s).accept = s.accept ∧
      (followerSwap n s).irq.enables = s.irq.enables ∧
      (followerSwap n s).irq.fault = s.irq.fault ∧
      (followerSwap n s).irq.attention = s.irq.attention ∧
      (followerSwap n s).irq.pointStatus = s.irq.pointStatus ∧
      (followerSwap n s).irq.counters = s.irq.counters ∧
      (followerSwap n s).cmd = s.cmd ∧
      (followerSwap n s).win = s.win ∧
      (followerSwap n s).pending = s.pending := by
  unfold followerSwap
  dsimp only
  (repeat' split) <;> simp

@[simp] theorem runActiveBank_frame (s : State) :
    (runActiveBank s).params = s.params ∧
      (runActiveBank s).line = s.line ∧
      (runActiveBank s).rx = s.rx ∧
      (runActiveBank s).tx = s.tx ∧
      (runActiveBank s).timer.cycle = s.timer.cycle ∧
      (runActiveBank s).timer.position = s.timer.position ∧
      (runActiveBank s).timer.csSeen = s.timer.csSeen ∧
      (runActiveBank s).points = s.points ∧
      (runActiveBank s).sched = s.sched ∧
      (runActiveBank s).seq = s.seq ∧
      (runActiveBank s).link.silent = s.link.silent ∧
      (runActiveBank s).link.silence = s.link.silence ∧
      (runActiveBank s).sync = s.sync ∧
      (runActiveBank s).boxes = s.boxes ∧
      (runActiveBank s).queue = s.queue ∧
      (runActiveBank s).accept = s.accept ∧
      (runActiveBank s).nodes = s.nodes ∧
      (runActiveBank s).irq.enables = s.irq.enables ∧
      (runActiveBank s).irq.fault = s.irq.fault ∧
      (runActiveBank s).irq.causes = s.irq.causes ∧
      (runActiveBank s).irq.attention = s.irq.attention ∧
      (runActiveBank s).irq.nodeChange = s.irq.nodeChange ∧
      (runActiveBank s).irq.pointStatus = s.irq.pointStatus ∧
      (runActiveBank s).irq.counters = s.irq.counters ∧
      (runActiveBank s).cmd = s.cmd ∧
      (runActiveBank s).win = s.win ∧
      (runActiveBank s).pending = s.pending := by
  unfold runActiveBank
  simp

@[simp] theorem goToAlign_frame (f : Frame) (s : State) :
    (goToAlign f s).params = s.params ∧
      (goToAlign f s).line = s.line ∧
      (goToAlign f s).rx = s.rx ∧
      (goToAlign f s).tx = s.tx ∧
      (goToAlign f s).timer.cycle = s.timer.cycle ∧
      (goToAlign f s).timer.position = s.timer.position ∧
      (goToAlign f s).timer.csSeen = s.timer.csSeen ∧
      (goToAlign f s).points = s.points ∧
      (goToAlign f s).sched = s.sched ∧
      (goToAlign f s).seq.nextIndex = s.seq.nextIndex ∧
      (goToAlign f s).link.silent = s.link.silent ∧
      (goToAlign f s).link.silence = s.link.silence ∧
      (goToAlign f s).sync = s.sync ∧
      (goToAlign f s).boxes = s.boxes ∧
      (goToAlign f s).queue.entries = s.queue.entries ∧
      (goToAlign f s).accept = s.accept ∧
      (goToAlign f s).nodes = s.nodes ∧
      (goToAlign f s).irq.enables = s.irq.enables ∧
      (goToAlign f s).irq.fault = s.irq.fault ∧
      (goToAlign f s).irq.attention = s.irq.attention ∧
      (goToAlign f s).irq.nodeChange = s.irq.nodeChange ∧
      (goToAlign f s).irq.pointStatus = s.irq.pointStatus ∧
      (goToAlign f s).irq.counters = s.irq.counters ∧
      (goToAlign f s).cmd = s.cmd ∧
      (goToAlign f s).win = s.win ∧
      (goToAlign f s).pending = s.pending := by
  unfold goToAlign
  split <;> simp

@[simp] theorem compareBanks_frame (f : Frame) (n : Nat) (s : State) :
    (compareBanks f n s).params = s.params ∧
      (compareBanks f n s).line = s.line ∧
      (compareBanks f n s).rx = s.rx ∧
      (compareBanks f n s).tx = s.tx ∧
      (compareBanks f n s).timer.cycle = s.timer.cycle ∧
      (compareBanks f n s).timer.position = s.timer.position ∧
      (compareBanks f n s).timer.csSeen = s.timer.csSeen ∧
      (compareBanks f n s).points = s.points ∧
      (compareBanks f n s).sched.bankA = s.sched.bankA ∧
      (compareBanks f n s).sched.bankB = s.sched.bankB ∧
      (compareBanks f n s).link.silent = s.link.silent ∧
      (compareBanks f n s).link.silence = s.link.silence ∧
      (compareBanks f n s).sync = s.sync ∧
      (compareBanks f n s).boxes = s.boxes ∧
      (compareBanks f n s).queue.entries = s.queue.entries ∧
      (compareBanks f n s).accept = s.accept ∧
      (compareBanks f n s).irq.enables = s.irq.enables ∧
      (compareBanks f n s).irq.fault = s.irq.fault ∧
      (compareBanks f n s).irq.attention = s.irq.attention ∧
      (compareBanks f n s).irq.pointStatus = s.irq.pointStatus ∧
      (compareBanks f n s).irq.counters = s.irq.counters ∧
      (compareBanks f n s).cmd = s.cmd ∧
      (compareBanks f n s).win = s.win ∧
      (compareBanks f n s).pending = s.pending := by
  unfold compareBanks
  (repeat' split) <;> simp

@[simp] theorem acceptCs_frame (f : Frame) (n : Nat) (s : State) :
    (acceptCs f n s).params = s.params ∧
      (acceptCs f n s).line.level = s.line.level ∧
      (acceptCs f n s).sched.bankA = s.sched.bankA ∧
      (acceptCs f n s).sched.bankB = s.sched.bankB ∧
      (acceptCs f n s).link.silent = s.link.silent ∧
      (acceptCs f n s).link.silence = s.link.silence ∧
      (acceptCs f n s).queue.entries = s.queue.entries ∧
      (acceptCs f n s).accept = s.accept ∧
      (acceptCs f n s).irq.enables = s.irq.enables ∧
      (acceptCs f n s).irq.fault = s.irq.fault ∧
      (acceptCs f n s).cmd = s.cmd ∧
      (acceptCs f n s).win = s.win ∧
      (acceptCs f n s).pending = s.pending := by
  unfold acceptCs
  split <;> simp

@[simp] theorem handCycleStart_frame (f : Frame) (n : Nat) (s : State) :
    (handCycleStart f n s).params = s.params ∧
      (handCycleStart f n s).line.level = s.line.level ∧
      (handCycleStart f n s).sched.bankA = s.sched.bankA ∧
      (handCycleStart f n s).sched.bankB = s.sched.bankB ∧
      (handCycleStart f n s).queue.entries = s.queue.entries ∧
      (handCycleStart f n s).accept = s.accept ∧
      (handCycleStart f n s).irq.enables = s.irq.enables ∧
      (handCycleStart f n s).irq.fault = s.irq.fault ∧
      (handCycleStart f n s).cmd = s.cmd ∧
      (handCycleStart f n s).win = s.win ∧
      (handCycleStart f n s).pending = s.pending := by
  unfold handCycleStart
  dsimp only
  (repeat' split) <;> simp

@[simp] theorem openAssembly_frame (s : State) :
    (openAssembly s).params = s.params ∧
      (openAssembly s).line = s.line ∧
      (openAssembly s).tx = s.tx ∧
      (openAssembly s).timer = s.timer ∧
      (openAssembly s).points = s.points ∧
      (openAssembly s).sched = s.sched ∧
      (openAssembly s).seq.nextIndex = s.seq.nextIndex ∧
      (openAssembly s).link = s.link ∧
      (openAssembly s).sync = s.sync ∧
      (openAssembly s).boxes = s.boxes ∧
      (openAssembly s).queue = s.queue ∧
      (openAssembly s).accept = s.accept ∧
      (openAssembly s).nodes = s.nodes ∧
      (openAssembly s).irq = s.irq ∧
      (openAssembly s).cmd = s.cmd ∧
      (openAssembly s).win = s.win ∧
      (openAssembly s).pending = s.pending := by
  unfold openAssembly
  simp

@[simp] theorem appendByte_frame (b : Byte) (s : State) :
    (appendByte b s).params = s.params ∧
      (appendByte b s).line = s.line ∧
      (appendByte b s).tx = s.tx ∧
      (appendByte b s).timer = s.timer ∧
      (appendByte b s).points = s.points ∧
      (appendByte b s).sched = s.sched ∧
      (appendByte b s).seq.nextIndex = s.seq.nextIndex ∧
      (appendByte b s).link = s.link ∧
      (appendByte b s).sync = s.sync ∧
      (appendByte b s).boxes = s.boxes ∧
      (appendByte b s).queue.entries = s.queue.entries ∧
      (appendByte b s).accept = s.accept ∧
      (appendByte b s).irq.enables = s.irq.enables ∧
      (appendByte b s).irq.fault = s.irq.fault ∧
      (appendByte b s).irq.causes = s.irq.causes ∧
      (appendByte b s).irq.attention = s.irq.attention ∧
      (appendByte b s).irq.pointStatus = s.irq.pointStatus ∧
      (appendByte b s).cmd = s.cmd ∧
      (appendByte b s).win = s.win ∧
      (appendByte b s).pending = s.pending := by
  unfold appendByte
  split <;> simp

@[simp] theorem endAssembly_frame (s : State) :
    (endAssembly s).params = s.params ∧
      (endAssembly s).line.level = s.line.level ∧
      (endAssembly s).sched.bankA = s.sched.bankA ∧
      (endAssembly s).sched.bankB = s.sched.bankB ∧
      (endAssembly s).queue.entries = s.queue.entries ∧
      (endAssembly s).accept = s.accept ∧
      (endAssembly s).irq.enables = s.irq.enables ∧
      (endAssembly s).irq.fault = s.irq.fault ∧
      (endAssembly s).cmd = s.cmd ∧
      (endAssembly s).win = s.win ∧
      (endAssembly s).pending = s.pending := by
  unfold endAssembly
  dsimp only
  (repeat' split) <;> simp

@[simp] theorem inFrameCharacter_frame (v : Byte) (s : State) :
    (inFrameCharacter v s).params = s.params ∧
      (inFrameCharacter v s).line.level = s.line.level ∧
      (inFrameCharacter v s).sched.bankA = s.sched.bankA ∧
      (inFrameCharacter v s).sched.bankB = s.sched.bankB ∧
      (inFrameCharacter v s).queue.entries = s.queue.entries ∧
      (inFrameCharacter v s).accept = s.accept ∧
      (inFrameCharacter v s).irq.enables = s.irq.enables ∧
      (inFrameCharacter v s).irq.fault = s.irq.fault ∧
      (inFrameCharacter v s).cmd = s.cmd ∧
      (inFrameCharacter v s).win = s.win ∧
      (inFrameCharacter v s).pending = s.pending := by
  unfold inFrameCharacter
  dsimp only
  (repeat' split) <;> simp

@[simp] theorem escapedCharacter_frame (v : Byte) (s : State) :
    (escapedCharacter v s).params = s.params ∧
      (escapedCharacter v s).line = s.line ∧
      (escapedCharacter v s).tx = s.tx ∧
      (escapedCharacter v s).timer = s.timer ∧
      (escapedCharacter v s).points = s.points ∧
      (escapedCharacter v s).sched = s.sched ∧
      (escapedCharacter v s).seq.nextIndex = s.seq.nextIndex ∧
      (escapedCharacter v s).link = s.link ∧
      (escapedCharacter v s).sync = s.sync ∧
      (escapedCharacter v s).boxes = s.boxes ∧
      (escapedCharacter v s).queue.entries = s.queue.entries ∧
      (escapedCharacter v s).accept = s.accept ∧
      (escapedCharacter v s).irq.enables = s.irq.enables ∧
      (escapedCharacter v s).irq.fault = s.irq.fault ∧
      (escapedCharacter v s).irq.causes = s.irq.causes ∧
      (escapedCharacter v s).irq.attention = s.irq.attention ∧
      (escapedCharacter v s).irq.pointStatus = s.irq.pointStatus ∧
      (escapedCharacter v s).cmd = s.cmd ∧
      (escapedCharacter v s).win = s.win ∧
      (escapedCharacter v s).pending = s.pending := by
  unfold escapedCharacter
  dsimp only
  (repeat' split) <;> simp

@[simp] theorem takeCharacter_frame (v : Byte) (s : State) :
    (takeCharacter v s).params = s.params ∧
      (takeCharacter v s).line.level = s.line.level ∧
      (takeCharacter v s).sched.bankA = s.sched.bankA ∧
      (takeCharacter v s).sched.bankB = s.sched.bankB ∧
      (takeCharacter v s).queue.entries = s.queue.entries ∧
      (takeCharacter v s).accept = s.accept ∧
      (takeCharacter v s).irq.enables = s.irq.enables ∧
      (takeCharacter v s).irq.fault = s.irq.fault ∧
      (takeCharacter v s).cmd = s.cmd ∧
      (takeCharacter v s).win = s.win ∧
      (takeCharacter v s).pending = s.pending := by
  unfold takeCharacter
  (repeat' split) <;> simp

@[simp] theorem completeCharacter_frame (v : Byte) (s : State) :
    (completeCharacter v s).params = s.params ∧
      (completeCharacter v s).sched.bankA = s.sched.bankA ∧
      (completeCharacter v s).sched.bankB = s.sched.bankB ∧
      (completeCharacter v s).queue.entries = s.queue.entries ∧
      (completeCharacter v s).accept = s.accept ∧
      (completeCharacter v s).irq.enables = s.irq.enables ∧
      (completeCharacter v s).irq.fault = s.irq.fault ∧
      (completeCharacter v s).cmd = s.cmd ∧
      (completeCharacter v s).win = s.win ∧
      (completeCharacter v s).pending = s.pending := by
  unfold completeCharacter
  dsimp only
  (repeat' split) <;> simp

@[simp] theorem characterFails_frame (s : State) :
    (characterFails s).params = s.params ∧
      (characterFails s).timer = s.timer ∧
      (characterFails s).points = s.points ∧
      (characterFails s).sched = s.sched ∧
      (characterFails s).seq.nextIndex = s.seq.nextIndex ∧
      (characterFails s).link = s.link ∧
      (characterFails s).sync = s.sync ∧
      (characterFails s).boxes = s.boxes ∧
      (characterFails s).queue.entries = s.queue.entries ∧
      (characterFails s).accept = s.accept ∧
      (characterFails s).irq.enables = s.irq.enables ∧
      (characterFails s).irq.fault = s.irq.fault ∧
      (characterFails s).irq.causes = s.irq.causes ∧
      (characterFails s).irq.attention = s.irq.attention ∧
      (characterFails s).irq.pointStatus = s.irq.pointStatus ∧
      (characterFails s).cmd = s.cmd ∧
      (characterFails s).win = s.win ∧
      (characterFails s).pending = s.pending := by
  unfold characterFails
  dsimp only
  (repeat' split) <;> simp

/-- A taken window write leaves these parts as they were (R175). -/
theorem writeByte_keeps {w : WindowByte} {v : Byte} {s t : State} (h : writeByte w v s = some t) :
    t.line = s.line ∧ t.rx = s.rx ∧ t.tx = s.tx ∧ t.timer = s.timer ∧ t.seq = s.seq ∧ t.link = s.link ∧ t.sync = s.sync ∧
      t.queue = s.queue ∧ t.cmd = s.cmd ∧ t.win = s.win ∧ t.pending = s.pending ∧ t.sched.active = s.sched.active ∧
      t.sched.shadow = s.sched.shadow ∧ t.irq.flags = s.irq.flags ∧ t.irq.enables = s.irq.enables ∧
      t.irq.counters = s.irq.counters := by
  cases w <;> simp only [writeByte, Option.map_eq_some_iff, reduceCtorEq] at h
  case param => split at h <;> simp_all; subst h; simp
  case point => simp_all; subst h; simp
  case status b => simp_all; subst h; unfold writeStatus; split <;> simp
  case acceptance => simp_all; subst h; simp
  case header => split at h <;> simp_all; subst h; unfold setBank; split <;> simp
  case node => obtain ⟨e, -, rfl⟩ := h; simp
  case entry =>
    split at h
    · obtain ⟨e, -, rfl⟩ := by simpa using h
      unfold setBank; split <;> simp
    · simp at h
  case mailbox => obtain ⟨e, -, rfl⟩ := h; simp

@[simp] theorem writeWindow_frame (a : WindowAddress) (v : Byte) (s : State) :
    (writeWindow a v s).line = s.line ∧
      (writeWindow a v s).rx = s.rx ∧
      (writeWindow a v s).tx = s.tx ∧
      (writeWindow a v s).timer = s.timer ∧
      (writeWindow a v s).sched.active = s.sched.active ∧
      (writeWindow a v s).sched.shadow = s.sched.shadow ∧
      (writeWindow a v s).seq = s.seq ∧
      (writeWindow a v s).link = s.link ∧
      (writeWindow a v s).sync = s.sync ∧
      (writeWindow a v s).queue = s.queue ∧
      (writeWindow a v s).irq.enables = s.irq.enables ∧
      (writeWindow a v s).irq.counters = s.irq.counters ∧
      (writeWindow a v s).cmd = s.cmd ∧
      (writeWindow a v s).win = s.win ∧
      (writeWindow a v s).pending = s.pending := by
  unfold writeWindow
  split
  · rename_i h; simp [writeByte_keeps h]
  · simp

@[simp] theorem startAction_frame (s : State) :
    (startAction s).params = s.params ∧
      (startAction s).line = s.line ∧
      (startAction s).rx = s.rx ∧
      (startAction s).tx = s.tx ∧
      (startAction s).timer = s.timer ∧
      (startAction s).points = s.points ∧
      (startAction s).sched = s.sched ∧
      (startAction s).seq = s.seq ∧
      (startAction s).link = s.link ∧
      (startAction s).sync = s.sync ∧
      (startAction s).boxes = s.boxes ∧
      (startAction s).queue = s.queue ∧
      (startAction s).accept = s.accept ∧
      (startAction s).nodes = s.nodes ∧
      (startAction s).irq.enables = s.irq.enables ∧
      (startAction s).irq.fault = s.irq.fault ∧
      (startAction s).irq.causes = s.irq.causes ∧
      (startAction s).irq.attention = s.irq.attention ∧
      (startAction s).irq.nodeChange = s.irq.nodeChange ∧
      (startAction s).irq.pointStatus = s.irq.pointStatus ∧
      (startAction s).irq.counters = s.irq.counters ∧
      (startAction s).cmd.code = s.cmd.code ∧
      (startAction s).cmd.arg0 = s.cmd.arg0 ∧
      (startAction s).cmd.arg1 = s.cmd.arg1 ∧
      (startAction s).cmd.takenArg0 = s.cmd.takenArg0 ∧
      (startAction s).cmd.takenArg1 = s.cmd.takenArg1 ∧
      (startAction s).cmd.lost = s.cmd.lost ∧
      (startAction s).win = s.win ∧
      (startAction s).pending = s.pending := by
  unfold startAction
  (repeat' split) <;> simp

@[simp] theorem stopAction_frame (s : State) :
    (stopAction s).params = s.params ∧
      (stopAction s).tx = s.tx ∧
      (stopAction s).timer.cycle = s.timer.cycle ∧
      (stopAction s).points = s.points ∧
      (stopAction s).sched.active = s.sched.active ∧
      (stopAction s).sched.bankA = s.sched.bankA ∧
      (stopAction s).sched.bankB = s.sched.bankB ∧
      (stopAction s).sync = s.sync ∧
      (stopAction s).boxes = s.boxes ∧
      (stopAction s).queue.entries = s.queue.entries ∧
      (stopAction s).accept = s.accept ∧
      (stopAction s).nodes = s.nodes ∧
      (stopAction s).irq.enables = s.irq.enables ∧
      (stopAction s).irq.fault = s.irq.fault ∧
      (stopAction s).irq.causes = s.irq.causes ∧
      (stopAction s).irq.attention = s.irq.attention ∧
      (stopAction s).irq.nodeChange = s.irq.nodeChange ∧
      (stopAction s).irq.pointStatus = s.irq.pointStatus ∧
      (stopAction s).irq.counters = s.irq.counters ∧
      (stopAction s).cmd.code = s.cmd.code ∧
      (stopAction s).cmd.arg0 = s.cmd.arg0 ∧
      (stopAction s).cmd.arg1 = s.cmd.arg1 ∧
      (stopAction s).cmd.takenArg0 = s.cmd.takenArg0 ∧
      (stopAction s).cmd.takenArg1 = s.cmd.takenArg1 ∧
      (stopAction s).cmd.lost = s.cmd.lost ∧
      (stopAction s).win = s.win ∧
      (stopAction s).pending = s.pending := by
  unfold stopAction
  (repeat' split) <;> simp

@[simp] theorem haltSteps_frame (s : State) :
    (haltSteps s).params = s.params ∧
      (haltSteps s).timer.cycle = s.timer.cycle ∧
      (haltSteps s).points = s.points ∧
      (haltSteps s).sched.active = s.sched.active ∧
      (haltSteps s).sched.bankA = s.sched.bankA ∧
      (haltSteps s).sched.bankB = s.sched.bankB ∧
      (haltSteps s).sync = s.sync ∧
      (haltSteps s).queue.entries = s.queue.entries ∧
      (haltSteps s).accept = s.accept ∧
      (haltSteps s).nodes = s.nodes ∧
      (haltSteps s).irq.enables = s.irq.enables ∧
      (haltSteps s).irq.fault = s.irq.fault ∧
      (haltSteps s).irq.causes = s.irq.causes ∧
      (haltSteps s).irq.attention = s.irq.attention ∧
      (haltSteps s).irq.nodeChange = s.irq.nodeChange ∧
      (haltSteps s).irq.pointStatus = s.irq.pointStatus ∧
      (haltSteps s).irq.counters = s.irq.counters ∧
      (haltSteps s).cmd.code = s.cmd.code ∧
      (haltSteps s).cmd.arg0 = s.cmd.arg0 ∧
      (haltSteps s).cmd.arg1 = s.cmd.arg1 ∧
      (haltSteps s).cmd.takenArg0 = s.cmd.takenArg0 ∧
      (haltSteps s).cmd.takenArg1 = s.cmd.takenArg1 ∧
      (haltSteps s).cmd.lost = s.cmd.lost ∧
      (haltSteps s).cmd.result = s.cmd.result ∧
      (haltSteps s).win = s.win ∧
      (haltSteps s).pending = s.pending := by
  unfold haltSteps
  dsimp only
  (repeat' split) <;> simp

@[simp] theorem haltAction_frame (s : State) :
    (haltAction s).params = s.params ∧
      (haltAction s).timer.cycle = s.timer.cycle ∧
      (haltAction s).points = s.points ∧
      (haltAction s).sched.active = s.sched.active ∧
      (haltAction s).sched.bankA = s.sched.bankA ∧
      (haltAction s).sched.bankB = s.sched.bankB ∧
      (haltAction s).sync = s.sync ∧
      (haltAction s).queue.entries = s.queue.entries ∧
      (haltAction s).accept = s.accept ∧
      (haltAction s).nodes = s.nodes ∧
      (haltAction s).irq.enables = s.irq.enables ∧
      (haltAction s).irq.fault = s.irq.fault ∧
      (haltAction s).irq.causes = s.irq.causes ∧
      (haltAction s).irq.attention = s.irq.attention ∧
      (haltAction s).irq.nodeChange = s.irq.nodeChange ∧
      (haltAction s).irq.pointStatus = s.irq.pointStatus ∧
      (haltAction s).irq.counters = s.irq.counters ∧
      (haltAction s).cmd.code = s.cmd.code ∧
      (haltAction s).cmd.arg0 = s.cmd.arg0 ∧
      (haltAction s).cmd.arg1 = s.cmd.arg1 ∧
      (haltAction s).cmd.takenArg0 = s.cmd.takenArg0 ∧
      (haltAction s).cmd.takenArg1 = s.cmd.takenArg1 ∧
      (haltAction s).cmd.lost = s.cmd.lost ∧
      (haltAction s).win = s.win ∧
      (haltAction s).pending = s.pending := by
  unfold haltAction
  simp

@[simp] theorem goSilentAction_frame (s : State) :
    (goSilentAction s).params = s.params ∧
      (goSilentAction s).line = s.line ∧
      (goSilentAction s).rx = s.rx ∧
      (goSilentAction s).tx = s.tx ∧
      (goSilentAction s).timer = s.timer ∧
      (goSilentAction s).points = s.points ∧
      (goSilentAction s).sched = s.sched ∧
      (goSilentAction s).seq = s.seq ∧
      (goSilentAction s).link.state = s.link.state ∧
      (goSilentAction s).link.silence = s.link.silence ∧
      (goSilentAction s).sync = s.sync ∧
      (goSilentAction s).boxes = s.boxes ∧
      (goSilentAction s).queue.entries = s.queue.entries ∧
      (goSilentAction s).queue.turnedAway = s.queue.turnedAway ∧
      (goSilentAction s).accept = s.accept ∧
      (goSilentAction s).nodes = s.nodes ∧
      (goSilentAction s).irq.enables = s.irq.enables ∧
      (goSilentAction s).irq.fault = s.irq.fault ∧
      (goSilentAction s).irq.causes = s.irq.causes ∧
      (goSilentAction s).irq.attention = s.irq.attention ∧
      (goSilentAction s).irq.nodeChange = s.irq.nodeChange ∧
      (goSilentAction s).irq.pointStatus = s.irq.pointStatus ∧
      (goSilentAction s).irq.counters = s.irq.counters ∧
      (goSilentAction s).cmd.code = s.cmd.code ∧
      (goSilentAction s).cmd.arg0 = s.cmd.arg0 ∧
      (goSilentAction s).cmd.arg1 = s.cmd.arg1 ∧
      (goSilentAction s).cmd.takenArg0 = s.cmd.takenArg0 ∧
      (goSilentAction s).cmd.takenArg1 = s.cmd.takenArg1 ∧
      (goSilentAction s).cmd.lost = s.cmd.lost ∧
      (goSilentAction s).win = s.win ∧
      (goSilentAction s).pending = s.pending := by
  unfold goSilentAction
  split <;> simp

@[simp] theorem resumeAction_frame (s : State) :
    (resumeAction s).params = s.params ∧
      (resumeAction s).line = s.line ∧
      (resumeAction s).rx = s.rx ∧
      (resumeAction s).tx = s.tx ∧
      (resumeAction s).timer = s.timer ∧
      (resumeAction s).points = s.points ∧
      (resumeAction s).sched = s.sched ∧
      (resumeAction s).seq = s.seq ∧
      (resumeAction s).link.state = s.link.state ∧
      (resumeAction s).link.silence = s.link.silence ∧
      (resumeAction s).sync = s.sync ∧
      (resumeAction s).boxes = s.boxes ∧
      (resumeAction s).queue.entries = s.queue.entries ∧
      (resumeAction s).queue.turnedAway = s.queue.turnedAway ∧
      (resumeAction s).accept = s.accept ∧
      (resumeAction s).nodes = s.nodes ∧
      (resumeAction s).irq.enables = s.irq.enables ∧
      (resumeAction s).irq.fault = s.irq.fault ∧
      (resumeAction s).irq.causes = s.irq.causes ∧
      (resumeAction s).irq.attention = s.irq.attention ∧
      (resumeAction s).irq.nodeChange = s.irq.nodeChange ∧
      (resumeAction s).irq.pointStatus = s.irq.pointStatus ∧
      (resumeAction s).irq.counters = s.irq.counters ∧
      (resumeAction s).cmd.code = s.cmd.code ∧
      (resumeAction s).cmd.arg0 = s.cmd.arg0 ∧
      (resumeAction s).cmd.arg1 = s.cmd.arg1 ∧
      (resumeAction s).cmd.takenArg0 = s.cmd.takenArg0 ∧
      (resumeAction s).cmd.takenArg1 = s.cmd.takenArg1 ∧
      (resumeAction s).cmd.lost = s.cmd.lost ∧
      (resumeAction s).win = s.win ∧
      (resumeAction s).pending = s.pending := by
  unfold resumeAction
  split <;> simp

@[simp] theorem resetRunTime_frame (s : State) :
    (resetRunTime s).params = s.params ∧
      (resetRunTime s).line = s.line ∧
      (resetRunTime s).rx = s.rx ∧
      (resetRunTime s).tx = s.tx ∧
      (resetRunTime s).timer.length = s.timer.length ∧
      (resetRunTime s).timer.position = s.timer.position ∧
      (resetRunTime s).timer.csSeen = s.timer.csSeen ∧
      (resetRunTime s).sched = s.sched ∧
      (resetRunTime s).seq = s.seq ∧
      (resetRunTime s).link = s.link ∧
      (resetRunTime s).accept = s.accept ∧
      (resetRunTime s).irq.enables = s.irq.enables ∧
      (resetRunTime s).irq.fault = s.irq.fault ∧
      (resetRunTime s).irq.flags = s.irq.flags ∧
      (resetRunTime s).irq.causes = s.irq.causes ∧
      (resetRunTime s).cmd = s.cmd ∧
      (resetRunTime s).win = s.win ∧
      (resetRunTime s).pending = s.pending := by
  unfold resetRunTime
  simp

@[simp] theorem linkResetAction_frame (s : State) :
    (linkResetAction s).params = s.params ∧
      (linkResetAction s).sched.active = s.sched.active ∧
      (linkResetAction s).sched.bankA = s.sched.bankA ∧
      (linkResetAction s).sched.bankB = s.sched.bankB ∧
      (linkResetAction s).accept = s.accept ∧
      (linkResetAction s).irq.enables = s.irq.enables ∧
      (linkResetAction s).irq.fault = s.irq.fault ∧
      (linkResetAction s).irq.causes = s.irq.causes ∧
      (linkResetAction s).cmd.code = s.cmd.code ∧
      (linkResetAction s).cmd.arg0 = s.cmd.arg0 ∧
      (linkResetAction s).cmd.arg1 = s.cmd.arg1 ∧
      (linkResetAction s).cmd.takenArg0 = s.cmd.takenArg0 ∧
      (linkResetAction s).cmd.takenArg1 = s.cmd.takenArg1 ∧
      (linkResetAction s).cmd.lost = s.cmd.lost ∧
      (linkResetAction s).win = s.win ∧
      (linkResetAction s).pending = s.pending := by
  unfold linkResetAction
  simp

@[simp] theorem armAction_frame (s : State) :
    (armAction s).params = s.params ∧
      (armAction s).line = s.line ∧
      (armAction s).rx = s.rx ∧
      (armAction s).tx = s.tx ∧
      (armAction s).timer = s.timer ∧
      (armAction s).points = s.points ∧
      (armAction s).sched.active = s.sched.active ∧
      (armAction s).sched.bankA = s.sched.bankA ∧
      (armAction s).sched.bankB = s.sched.bankB ∧
      (armAction s).seq = s.seq ∧
      (armAction s).link = s.link ∧
      (armAction s).sync = s.sync ∧
      (armAction s).boxes = s.boxes ∧
      (armAction s).queue = s.queue ∧
      (armAction s).accept = s.accept ∧
      (armAction s).nodes = s.nodes ∧
      (armAction s).irq.enables = s.irq.enables ∧
      (armAction s).irq.fault = s.irq.fault ∧
      (armAction s).irq.causes = s.irq.causes ∧
      (armAction s).irq.attention = s.irq.attention ∧
      (armAction s).irq.nodeChange = s.irq.nodeChange ∧
      (armAction s).irq.pointStatus = s.irq.pointStatus ∧
      (armAction s).irq.counters = s.irq.counters ∧
      (armAction s).cmd.code = s.cmd.code ∧
      (armAction s).cmd.arg0 = s.cmd.arg0 ∧
      (armAction s).cmd.arg1 = s.cmd.arg1 ∧
      (armAction s).cmd.takenArg0 = s.cmd.takenArg0 ∧
      (armAction s).cmd.takenArg1 = s.cmd.takenArg1 ∧
      (armAction s).cmd.lost = s.cmd.lost ∧
      (armAction s).win = s.win ∧
      (armAction s).pending = s.pending := by
  unfold armAction
  split <;> simp

@[simp] theorem disarmAction_frame (s : State) :
    (disarmAction s).params = s.params ∧
      (disarmAction s).line = s.line ∧
      (disarmAction s).rx = s.rx ∧
      (disarmAction s).tx = s.tx ∧
      (disarmAction s).timer = s.timer ∧
      (disarmAction s).points = s.points ∧
      (disarmAction s).sched.active = s.sched.active ∧
      (disarmAction s).sched.bankA = s.sched.bankA ∧
      (disarmAction s).sched.bankB = s.sched.bankB ∧
      (disarmAction s).seq = s.seq ∧
      (disarmAction s).link = s.link ∧
      (disarmAction s).sync = s.sync ∧
      (disarmAction s).boxes = s.boxes ∧
      (disarmAction s).queue = s.queue ∧
      (disarmAction s).accept = s.accept ∧
      (disarmAction s).nodes = s.nodes ∧
      (disarmAction s).irq.enables = s.irq.enables ∧
      (disarmAction s).irq.fault = s.irq.fault ∧
      (disarmAction s).irq.causes = s.irq.causes ∧
      (disarmAction s).irq.attention = s.irq.attention ∧
      (disarmAction s).irq.nodeChange = s.irq.nodeChange ∧
      (disarmAction s).irq.pointStatus = s.irq.pointStatus ∧
      (disarmAction s).irq.counters = s.irq.counters ∧
      (disarmAction s).cmd.code = s.cmd.code ∧
      (disarmAction s).cmd.arg0 = s.cmd.arg0 ∧
      (disarmAction s).cmd.arg1 = s.cmd.arg1 ∧
      (disarmAction s).cmd.takenArg0 = s.cmd.takenArg0 ∧
      (disarmAction s).cmd.takenArg1 = s.cmd.takenArg1 ∧
      (disarmAction s).cmd.lost = s.cmd.lost ∧
      (disarmAction s).win = s.win ∧
      (disarmAction s).pending = s.pending := by
  unfold disarmAction
  split <;> simp

@[simp] theorem commitOn_frame (m : Fin 24) (t : TxMailbox) (s : State) :
    (commitOn m t s).params = s.params ∧
      (commitOn m t s).line = s.line ∧
      (commitOn m t s).rx = s.rx ∧
      (commitOn m t s).tx = s.tx ∧
      (commitOn m t s).timer = s.timer ∧
      (commitOn m t s).points = s.points ∧
      (commitOn m t s).sched = s.sched ∧
      (commitOn m t s).seq = s.seq ∧
      (commitOn m t s).link = s.link ∧
      (commitOn m t s).sync = s.sync ∧
      (commitOn m t s).queue = s.queue ∧
      (commitOn m t s).accept = s.accept ∧
      (commitOn m t s).nodes = s.nodes ∧
      (commitOn m t s).irq.enables = s.irq.enables ∧
      (commitOn m t s).irq.fault = s.irq.fault ∧
      (commitOn m t s).irq.causes = s.irq.causes ∧
      (commitOn m t s).irq.attention = s.irq.attention ∧
      (commitOn m t s).irq.nodeChange = s.irq.nodeChange ∧
      (commitOn m t s).irq.pointStatus = s.irq.pointStatus ∧
      (commitOn m t s).irq.counters = s.irq.counters ∧
      (commitOn m t s).cmd.code = s.cmd.code ∧
      (commitOn m t s).cmd.arg0 = s.cmd.arg0 ∧
      (commitOn m t s).cmd.arg1 = s.cmd.arg1 ∧
      (commitOn m t s).cmd.takenArg0 = s.cmd.takenArg0 ∧
      (commitOn m t s).cmd.takenArg1 = s.cmd.takenArg1 ∧
      (commitOn m t s).cmd.lost = s.cmd.lost ∧
      (commitOn m t s).win = s.win ∧
      (commitOn m t s).pending = s.pending := by
  unfold commitOn
  (repeat' split) <;> simp

@[simp] theorem withdrawOn_frame (m : Fin 24) (t : TxMailbox) (s : State) :
    (withdrawOn m t s).params = s.params ∧
      (withdrawOn m t s).line = s.line ∧
      (withdrawOn m t s).rx = s.rx ∧
      (withdrawOn m t s).tx = s.tx ∧
      (withdrawOn m t s).timer = s.timer ∧
      (withdrawOn m t s).points = s.points ∧
      (withdrawOn m t s).sched = s.sched ∧
      (withdrawOn m t s).seq = s.seq ∧
      (withdrawOn m t s).link = s.link ∧
      (withdrawOn m t s).sync = s.sync ∧
      (withdrawOn m t s).queue = s.queue ∧
      (withdrawOn m t s).accept = s.accept ∧
      (withdrawOn m t s).nodes = s.nodes ∧
      (withdrawOn m t s).irq.enables = s.irq.enables ∧
      (withdrawOn m t s).irq.fault = s.irq.fault ∧
      (withdrawOn m t s).irq.causes = s.irq.causes ∧
      (withdrawOn m t s).irq.attention = s.irq.attention ∧
      (withdrawOn m t s).irq.nodeChange = s.irq.nodeChange ∧
      (withdrawOn m t s).irq.pointStatus = s.irq.pointStatus ∧
      (withdrawOn m t s).irq.counters = s.irq.counters ∧
      (withdrawOn m t s).cmd.code = s.cmd.code ∧
      (withdrawOn m t s).cmd.arg0 = s.cmd.arg0 ∧
      (withdrawOn m t s).cmd.arg1 = s.cmd.arg1 ∧
      (withdrawOn m t s).cmd.takenArg0 = s.cmd.takenArg0 ∧
      (withdrawOn m t s).cmd.takenArg1 = s.cmd.takenArg1 ∧
      (withdrawOn m t s).cmd.lost = s.cmd.lost ∧
      (withdrawOn m t s).win = s.win ∧
      (withdrawOn m t s).pending = s.pending := by
  unfold withdrawOn
  split <;> simp

@[simp] theorem sendEventOn_frame (m : Fin 24) (t : TxMailbox) (s : State) :
    (sendEventOn m t s).params = s.params ∧
      (sendEventOn m t s).line = s.line ∧
      (sendEventOn m t s).rx = s.rx ∧
      (sendEventOn m t s).tx = s.tx ∧
      (sendEventOn m t s).timer = s.timer ∧
      (sendEventOn m t s).points = s.points ∧
      (sendEventOn m t s).sched = s.sched ∧
      (sendEventOn m t s).seq = s.seq ∧
      (sendEventOn m t s).link = s.link ∧
      (sendEventOn m t s).sync = s.sync ∧
      (sendEventOn m t s).queue.turnedAway = s.queue.turnedAway ∧
      (sendEventOn m t s).accept = s.accept ∧
      (sendEventOn m t s).nodes = s.nodes ∧
      (sendEventOn m t s).irq.enables = s.irq.enables ∧
      (sendEventOn m t s).irq.fault = s.irq.fault ∧
      (sendEventOn m t s).irq.causes = s.irq.causes ∧
      (sendEventOn m t s).irq.attention = s.irq.attention ∧
      (sendEventOn m t s).irq.nodeChange = s.irq.nodeChange ∧
      (sendEventOn m t s).irq.pointStatus = s.irq.pointStatus ∧
      (sendEventOn m t s).irq.counters = s.irq.counters ∧
      (sendEventOn m t s).cmd.code = s.cmd.code ∧
      (sendEventOn m t s).cmd.arg0 = s.cmd.arg0 ∧
      (sendEventOn m t s).cmd.arg1 = s.cmd.arg1 ∧
      (sendEventOn m t s).cmd.takenArg0 = s.cmd.takenArg0 ∧
      (sendEventOn m t s).cmd.takenArg1 = s.cmd.takenArg1 ∧
      (sendEventOn m t s).cmd.lost = s.cmd.lost ∧
      (sendEventOn m t s).win = s.win ∧
      (sendEventOn m t s).pending = s.pending := by
  unfold sendEventOn
  (repeat' split) <;> simp

@[simp] theorem cancelEventOn_frame (m : Fin 24) (t : TxMailbox) (s : State) :
    (cancelEventOn m t s).params = s.params ∧
      (cancelEventOn m t s).line = s.line ∧
      (cancelEventOn m t s).rx = s.rx ∧
      (cancelEventOn m t s).tx = s.tx ∧
      (cancelEventOn m t s).timer = s.timer ∧
      (cancelEventOn m t s).points = s.points ∧
      (cancelEventOn m t s).sched = s.sched ∧
      (cancelEventOn m t s).seq = s.seq ∧
      (cancelEventOn m t s).link = s.link ∧
      (cancelEventOn m t s).sync = s.sync ∧
      (cancelEventOn m t s).accept = s.accept ∧
      (cancelEventOn m t s).nodes = s.nodes ∧
      (cancelEventOn m t s).irq.enables = s.irq.enables ∧
      (cancelEventOn m t s).irq.fault = s.irq.fault ∧
      (cancelEventOn m t s).irq.causes = s.irq.causes ∧
      (cancelEventOn m t s).irq.attention = s.irq.attention ∧
      (cancelEventOn m t s).irq.nodeChange = s.irq.nodeChange ∧
      (cancelEventOn m t s).irq.pointStatus = s.irq.pointStatus ∧
      (cancelEventOn m t s).irq.counters = s.irq.counters ∧
      (cancelEventOn m t s).cmd.code = s.cmd.code ∧
      (cancelEventOn m t s).cmd.arg0 = s.cmd.arg0 ∧
      (cancelEventOn m t s).cmd.arg1 = s.cmd.arg1 ∧
      (cancelEventOn m t s).cmd.takenArg0 = s.cmd.takenArg0 ∧
      (cancelEventOn m t s).cmd.takenArg1 = s.cmd.takenArg1 ∧
      (cancelEventOn m t s).cmd.lost = s.cmd.lost ∧
      (cancelEventOn m t s).win = s.win ∧
      (cancelEventOn m t s).pending = s.pending := by
  unfold cancelEventOn
  (repeat' split) <;> simp

@[simp] theorem holdOn_frame (m : Fin 24) (r : RxMailbox) (s : State) :
    (holdOn m r s).params = s.params ∧
      (holdOn m r s).line = s.line ∧
      (holdOn m r s).rx = s.rx ∧
      (holdOn m r s).tx = s.tx ∧
      (holdOn m r s).timer = s.timer ∧
      (holdOn m r s).points = s.points ∧
      (holdOn m r s).sched = s.sched ∧
      (holdOn m r s).seq = s.seq ∧
      (holdOn m r s).link = s.link ∧
      (holdOn m r s).sync = s.sync ∧
      (holdOn m r s).queue = s.queue ∧
      (holdOn m r s).accept = s.accept ∧
      (holdOn m r s).nodes = s.nodes ∧
      (holdOn m r s).irq.enables = s.irq.enables ∧
      (holdOn m r s).irq.fault = s.irq.fault ∧
      (holdOn m r s).irq.causes = s.irq.causes ∧
      (holdOn m r s).irq.attention = s.irq.attention ∧
      (holdOn m r s).irq.nodeChange = s.irq.nodeChange ∧
      (holdOn m r s).irq.pointStatus = s.irq.pointStatus ∧
      (holdOn m r s).irq.counters = s.irq.counters ∧
      (holdOn m r s).cmd.code = s.cmd.code ∧
      (holdOn m r s).cmd.arg0 = s.cmd.arg0 ∧
      (holdOn m r s).cmd.arg1 = s.cmd.arg1 ∧
      (holdOn m r s).cmd.takenArg0 = s.cmd.takenArg0 ∧
      (holdOn m r s).cmd.takenArg1 = s.cmd.takenArg1 ∧
      (holdOn m r s).cmd.lost = s.cmd.lost ∧
      (holdOn m r s).win = s.win ∧
      (holdOn m r s).pending = s.pending := by
  unfold holdOn
  split <;> simp

@[simp] theorem releaseOn_frame (m : Fin 24) (r : RxMailbox) (s : State) :
    (releaseOn m r s).params = s.params ∧
      (releaseOn m r s).line = s.line ∧
      (releaseOn m r s).rx = s.rx ∧
      (releaseOn m r s).tx = s.tx ∧
      (releaseOn m r s).timer = s.timer ∧
      (releaseOn m r s).points = s.points ∧
      (releaseOn m r s).sched = s.sched ∧
      (releaseOn m r s).seq = s.seq ∧
      (releaseOn m r s).link = s.link ∧
      (releaseOn m r s).sync = s.sync ∧
      (releaseOn m r s).queue = s.queue ∧
      (releaseOn m r s).accept = s.accept ∧
      (releaseOn m r s).nodes = s.nodes ∧
      (releaseOn m r s).irq.enables = s.irq.enables ∧
      (releaseOn m r s).irq.fault = s.irq.fault ∧
      (releaseOn m r s).irq.causes = s.irq.causes ∧
      (releaseOn m r s).irq.nodeChange = s.irq.nodeChange ∧
      (releaseOn m r s).irq.pointStatus = s.irq.pointStatus ∧
      (releaseOn m r s).irq.counters = s.irq.counters ∧
      (releaseOn m r s).cmd.code = s.cmd.code ∧
      (releaseOn m r s).cmd.arg0 = s.cmd.arg0 ∧
      (releaseOn m r s).cmd.arg1 = s.cmd.arg1 ∧
      (releaseOn m r s).cmd.takenArg0 = s.cmd.takenArg0 ∧
      (releaseOn m r s).cmd.takenArg1 = s.cmd.takenArg1 ∧
      (releaseOn m r s).cmd.lost = s.cmd.lost ∧
      (releaseOn m r s).win = s.win ∧
      (releaseOn m r s).pending = s.pending := by
  unfold releaseOn
  dsimp only
  (repeat' split) <;> simp

@[simp] theorem configMailboxAction_frame (s : State) :
    (configMailboxAction s).params = s.params ∧
      (configMailboxAction s).line = s.line ∧
      (configMailboxAction s).rx = s.rx ∧
      (configMailboxAction s).tx = s.tx ∧
      (configMailboxAction s).timer = s.timer ∧
      (configMailboxAction s).points = s.points ∧
      (configMailboxAction s).sched = s.sched ∧
      (configMailboxAction s).seq = s.seq ∧
      (configMailboxAction s).link = s.link ∧
      (configMailboxAction s).sync = s.sync ∧
      (configMailboxAction s).accept = s.accept ∧
      (configMailboxAction s).nodes = s.nodes ∧
      (configMailboxAction s).irq.enables = s.irq.enables ∧
      (configMailboxAction s).irq.fault = s.irq.fault ∧
      (configMailboxAction s).irq.causes = s.irq.causes ∧
      (configMailboxAction s).irq.attention = s.irq.attention ∧
      (configMailboxAction s).irq.nodeChange = s.irq.nodeChange ∧
      (configMailboxAction s).irq.pointStatus = s.irq.pointStatus ∧
      (configMailboxAction s).irq.counters = s.irq.counters ∧
      (configMailboxAction s).cmd.code = s.cmd.code ∧
      (configMailboxAction s).cmd.arg0 = s.cmd.arg0 ∧
      (configMailboxAction s).cmd.arg1 = s.cmd.arg1 ∧
      (configMailboxAction s).cmd.takenArg0 = s.cmd.takenArg0 ∧
      (configMailboxAction s).cmd.takenArg1 = s.cmd.takenArg1 ∧
      (configMailboxAction s).cmd.lost = s.cmd.lost ∧
      (configMailboxAction s).win = s.win ∧
      (configMailboxAction s).pending = s.pending := by
  unfold configMailboxAction
  (repeat' split) <;> simp

@[simp] theorem clearCountersAction_frame (s : State) :
    (clearCountersAction s).params = s.params ∧
      (clearCountersAction s).line = s.line ∧
      (clearCountersAction s).rx = s.rx ∧
      (clearCountersAction s).tx = s.tx ∧
      (clearCountersAction s).timer = s.timer ∧
      (clearCountersAction s).points = s.points ∧
      (clearCountersAction s).sched = s.sched ∧
      (clearCountersAction s).seq = s.seq ∧
      (clearCountersAction s).link = s.link ∧
      (clearCountersAction s).sync = s.sync ∧
      (clearCountersAction s).queue = s.queue ∧
      (clearCountersAction s).accept = s.accept ∧
      (clearCountersAction s).nodes = s.nodes ∧
      (clearCountersAction s).irq.enables = s.irq.enables ∧
      (clearCountersAction s).irq.fault = s.irq.fault ∧
      (clearCountersAction s).irq.causes = s.irq.causes ∧
      (clearCountersAction s).irq.attention = s.irq.attention ∧
      (clearCountersAction s).irq.nodeChange = s.irq.nodeChange ∧
      (clearCountersAction s).irq.pointStatus = s.irq.pointStatus ∧
      (clearCountersAction s).cmd.code = s.cmd.code ∧
      (clearCountersAction s).cmd.arg0 = s.cmd.arg0 ∧
      (clearCountersAction s).cmd.arg1 = s.cmd.arg1 ∧
      (clearCountersAction s).cmd.takenArg0 = s.cmd.takenArg0 ∧
      (clearCountersAction s).cmd.takenArg1 = s.cmd.takenArg1 ∧
      (clearCountersAction s).cmd.lost = s.cmd.lost ∧
      (clearCountersAction s).win = s.win ∧
      (clearCountersAction s).pending = s.pending := by
  unfold clearCountersAction
  simp

@[simp] theorem actionOf_frame (code : Byte) (s : State) :
    (actionOf code s).params = s.params ∧
      (actionOf code s).sched.active = s.sched.active ∧
      (actionOf code s).sched.bankA = s.sched.bankA ∧
      (actionOf code s).sched.bankB = s.sched.bankB ∧
      (actionOf code s).accept = s.accept ∧
      (actionOf code s).irq.enables = s.irq.enables ∧
      (actionOf code s).irq.fault = s.irq.fault ∧
      (actionOf code s).irq.causes = s.irq.causes ∧
      (actionOf code s).cmd.code = s.cmd.code ∧
      (actionOf code s).cmd.arg0 = s.cmd.arg0 ∧
      (actionOf code s).cmd.arg1 = s.cmd.arg1 ∧
      (actionOf code s).cmd.takenArg0 = s.cmd.takenArg0 ∧
      (actionOf code s).cmd.takenArg1 = s.cmd.takenArg1 ∧
      (actionOf code s).cmd.lost = s.cmd.lost ∧
      (actionOf code s).win = s.win ∧
      (actionOf code s).pending = s.pending := by
  unfold actionOf
  split
  all_goals first | simp | (unfold onTx; (repeat' split) <;> simp) | (unfold onRx; (repeat' split) <;> simp)

@[simp] theorem writeCmd_frame (code : Byte) (s : State) :
    (writeCmd code s).params = s.params ∧
      (writeCmd code s).sched.active = s.sched.active ∧
      (writeCmd code s).sched.bankA = s.sched.bankA ∧
      (writeCmd code s).sched.bankB = s.sched.bankB ∧
      (writeCmd code s).accept = s.accept ∧
      (writeCmd code s).irq.enables = s.irq.enables ∧
      (writeCmd code s).irq.fault = s.irq.fault ∧
      (writeCmd code s).irq.causes = s.irq.causes ∧
      (writeCmd code s).cmd.arg0 = s.cmd.arg0 ∧
      (writeCmd code s).cmd.arg1 = s.cmd.arg1 ∧
      (writeCmd code s).win = s.win ∧
      (writeCmd code s).pending = s.pending := by
  unfold writeCmd command
  (repeat' split) <;> simp

@[simp] theorem startValidated_frame (s : State) :
    (startValidated s).params = s.params ∧
      (startValidated s).tx = s.tx ∧
      (startValidated s).timer = s.timer ∧
      (startValidated s).points = s.points ∧
      (startValidated s).sched = s.sched ∧
      (startValidated s).seq = s.seq ∧
      (startValidated s).link.silent = s.link.silent ∧
      (startValidated s).sync = s.sync ∧
      (startValidated s).boxes = s.boxes ∧
      (startValidated s).queue = s.queue ∧
      (startValidated s).accept = s.accept ∧
      (startValidated s).nodes = s.nodes ∧
      (startValidated s).irq.enables = s.irq.enables ∧
      (startValidated s).irq.fault = s.irq.fault ∧
      (startValidated s).irq.causes = s.irq.causes ∧
      (startValidated s).irq.attention = s.irq.attention ∧
      (startValidated s).irq.nodeChange = s.irq.nodeChange ∧
      (startValidated s).irq.pointStatus = s.irq.pointStatus ∧
      (startValidated s).irq.counters = s.irq.counters ∧
      (startValidated s).cmd.code = s.cmd.code ∧
      (startValidated s).cmd.arg0 = s.cmd.arg0 ∧
      (startValidated s).cmd.arg1 = s.cmd.arg1 ∧
      (startValidated s).cmd.takenArg0 = s.cmd.takenArg0 ∧
      (startValidated s).cmd.takenArg1 = s.cmd.takenArg1 ∧
      (startValidated s).cmd.lost = s.cmd.lost ∧
      (startValidated s).win = s.win ∧
      (startValidated s).pending = s.pending := by
  unfold startValidated
  split <;> simp

@[simp] theorem armValidated_frame (s : State) :
    (armValidated s).params = s.params ∧
      (armValidated s).line = s.line ∧
      (armValidated s).rx = s.rx ∧
      (armValidated s).tx = s.tx ∧
      (armValidated s).timer.cycle = s.timer.cycle ∧
      (armValidated s).timer.position = s.timer.position ∧
      (armValidated s).timer.csSeen = s.timer.csSeen ∧
      (armValidated s).points = s.points ∧
      (armValidated s).sched.bankA = s.sched.bankA ∧
      (armValidated s).sched.bankB = s.sched.bankB ∧
      (armValidated s).seq = s.seq ∧
      (armValidated s).link = s.link ∧
      (armValidated s).sync = s.sync ∧
      (armValidated s).boxes = s.boxes ∧
      (armValidated s).queue = s.queue ∧
      (armValidated s).accept = s.accept ∧
      (armValidated s).nodes = s.nodes ∧
      (armValidated s).irq.enables = s.irq.enables ∧
      (armValidated s).irq.fault = s.irq.fault ∧
      (armValidated s).irq.attention = s.irq.attention ∧
      (armValidated s).irq.nodeChange = s.irq.nodeChange ∧
      (armValidated s).irq.pointStatus = s.irq.pointStatus ∧
      (armValidated s).irq.counters = s.irq.counters ∧
      (armValidated s).cmd.code = s.cmd.code ∧
      (armValidated s).cmd.arg0 = s.cmd.arg0 ∧
      (armValidated s).cmd.arg1 = s.cmd.arg1 ∧
      (armValidated s).cmd.takenArg0 = s.cmd.takenArg0 ∧
      (armValidated s).cmd.takenArg1 = s.cmd.takenArg1 ∧
      (armValidated s).cmd.lost = s.cmd.lost ∧
      (armValidated s).win = s.win ∧
      (armValidated s).pending = s.pending := by
  unfold armValidated
  (repeat' split) <;> simp

@[simp] theorem writeData_frame (v : Byte) (s : State) :
    (writeData v s).line = s.line ∧
      (writeData v s).rx = s.rx ∧
      (writeData v s).tx = s.tx ∧
      (writeData v s).timer = s.timer ∧
      (writeData v s).sched.active = s.sched.active ∧
      (writeData v s).sched.shadow = s.sched.shadow ∧
      (writeData v s).seq = s.seq ∧
      (writeData v s).link = s.link ∧
      (writeData v s).sync = s.sync ∧
      (writeData v s).queue = s.queue ∧
      (writeData v s).irq.enables = s.irq.enables ∧
      (writeData v s).irq.counters = s.irq.counters ∧
      (writeData v s).cmd = s.cmd ∧
      (writeData v s).win.snapshotHigh = s.win.snapshotHigh ∧
      (writeData v s).win.snapshotCycle = s.win.snapshotCycle ∧
      (writeData v s).win.readData = s.win.readData ∧
      (writeData v s).pending = s.pending := by
  unfold writeData
  simp

@[simp] theorem busWrite_frame (a : BusAddress) (v : Byte) (s : State) :
    (busWrite a v s).sched.active = s.sched.active ∧
      (busWrite a v s).win.snapshotHigh = s.win.snapshotHigh ∧
      (busWrite a v s).win.snapshotCycle = s.win.snapshotCycle ∧
      (busWrite a v s).win.readData = s.win.readData ∧
      (busWrite a v s).pending = s.pending := by
  unfold busWrite
  split <;> simp

@[simp] theorem sendHead_frame (m : Fin 24) (t : TxMailbox) (s : State) :
    (sendHead m t s).params = s.params ∧
      (sendHead m t s).line = s.line ∧
      (sendHead m t s).timer = s.timer ∧
      (sendHead m t s).points = s.points ∧
      (sendHead m t s).sched = s.sched ∧
      (sendHead m t s).seq.nextIndex = s.seq.nextIndex ∧
      (sendHead m t s).link = s.link ∧
      (sendHead m t s).sync = s.sync ∧
      (sendHead m t s).queue.entries = s.queue.entries ∧
      (sendHead m t s).accept = s.accept ∧
      (sendHead m t s).irq.enables = s.irq.enables ∧
      (sendHead m t s).irq.fault = s.irq.fault ∧
      (sendHead m t s).irq.causes = s.irq.causes ∧
      (sendHead m t s).irq.attention = s.irq.attention ∧
      (sendHead m t s).irq.pointStatus = s.irq.pointStatus ∧
      (sendHead m t s).cmd = s.cmd ∧
      (sendHead m t s).win = s.win ∧
      (sendHead m t s).pending = s.pending := by
  unfold sendHead
  simp

@[simp] theorem elapse_frame (s : State) :
    (elapse s).params = s.params ∧
      (elapse s).line = s.line ∧
      (elapse s).timer = s.timer ∧
      (elapse s).points = s.points ∧
      (elapse s).sched = s.sched ∧
      (elapse s).seq.nextIndex = s.seq.nextIndex ∧
      (elapse s).link = s.link ∧
      (elapse s).sync = s.sync ∧
      (elapse s).queue.entries = s.queue.entries ∧
      (elapse s).accept = s.accept ∧
      (elapse s).irq.enables = s.irq.enables ∧
      (elapse s).irq.fault = s.irq.fault ∧
      (elapse s).irq.causes = s.irq.causes ∧
      (elapse s).irq.attention = s.irq.attention ∧
      (elapse s).irq.pointStatus = s.irq.pointStatus ∧
      (elapse s).cmd = s.cmd ∧
      (elapse s).win = s.win ∧
      (elapse s).pending = s.pending := by
  unfold elapse
  (repeat' split) <;> simp

end Sys2Proof.Machine
end

