-- ==== Sys2Proof/Laws/Cases.lean ====
section
/-! SUPPORT. What each shared operation does, said once: the small lemmas of the tables and the byte fields, and for every
operation that branches one lemma that lists its outcomes with what holds in each, to be cited in place of unfolding it. -/

namespace Sys2Proof.Machine

/-! ### Tables and byte fields -/

@[simp] theorem put_get_same {α : Type} {n : Nat} (v : Vector α n) (i : Fin n) (x : α) : (put v i x)[i] = x := by
  simp [put]

theorem put_get_other {α : Type} {n : Nat} (v : Vector α n) (i j : Fin n) (x : α) (h : j ≠ i) : (put v i x)[j] = v[j] := by
  have h' : i.val ≠ j.val := fun e => h (Fin.ext e.symm)
  simp [put, h']

@[simp] theorem mapTable_get {α β : Type} {n : Nat} (f : α → β) (v : Vector α n) (i : Fin n) :
    (mapTable f v)[i] = f v[i] := by
  simp [mapTable]

theorem hiByte_mkWord (hi lo : Byte) : hiByte (mkWord hi lo) = hi := by
  apply BitVec.eq_of_getLsbD_eq; intro i hi'
  have h1 : 8 + i < 16 := by omega
  have h2 : i < 16 := by omega
  simp [hiByte, mkWord, hi', h1, h2]

theorem loByte_mkWord (hi lo : Byte) : loByte (mkWord hi lo) = lo := by
  apply BitVec.eq_of_getLsbD_eq; intro i hi'
  simp [loByte, mkWord, hi']

theorem mailboxIndex_eq_some (b : Byte) (m : Fin 24) : mailboxIndex b = some m ↔ b.toNat = m.val := by
  unfold mailboxIndex
  split
  · simp [Fin.ext_iff]
  · simp; omega

theorem mailboxIndex_eq_none (b : Byte) : mailboxIndex b = none ↔ 23 < b.toNat := by
  unfold mailboxIndex
  split <;> simp <;> omega

/-- The lowest index is one that satisfies the test, and no lower one does. -/
theorem lowestIndex_some {α : Type} {n : Nat} {p : α → Bool} {v : Vector α n} {i : Fin n}
    (h : lowestIndex p v = some i) : p v[i] = true ∧ ∀ k : Fin n, k < i → p v[k] = false := by
  unfold lowestIndex at h
  split at h
  · rename_i j hj
    split at h
    · rename_i hlt
      cases h
      rw [List.findIdx?_eq_some_iff_getElem] at hj
      obtain ⟨_, hp, hk⟩ := hj
      refine ⟨by simpa using hp, fun k hk' => ?_⟩
      simpa using hk k.val hk'
    · cases h
  · cases h

/-- There is no lowest index exactly when no entry satisfies the test. -/
theorem lowestIndex_none {α : Type} {n : Nat} {p : α → Bool} {v : Vector α n}
    (h : lowestIndex p v = none) (k : Fin n) : p v[k] = false := by
  unfold lowestIndex at h
  split at h
  · rename_i j hj
    rw [List.findIdx?_eq_some_iff_getElem] at hj
    obtain ⟨hl, _⟩ := hj
    simp at hl
    simp [hl] at h
  · rename_i hj
    rw [List.findIdx?_eq_none_iff] at hj
    exact hj _ (by simp [Vector.mem_toList_iff])

/-! ### The command unit -/

theorem takeCommand_eq (code : Byte) (s : State) : takeCommand code s = takenAs code s := rfl

theorem completeWith_eq (r : ResultCode) (d i : Byte) (s : State) : completeWith r d i s = finishedAs r d i s := rfl

theorem complete_eq (r : ResultCode) (s : State) : complete r s = finishedAs r 0 0 s := rfl

/-- A write of a command is lost while one is in flight, and is taken otherwise (R177, R179). -/
theorem command_cases (code : Byte) (act : State → State) (s : State) :
    (s.cmd.inFlight ≠ none ∧ command code act s = { s with cmd := { s.cmd with lost := true } }) ∨
      (s.cmd.inFlight = none ∧ command code act s = act (takenAs code s)) := by
  unfold command busy
  cases h : s.cmd.inFlight <;> simp [takeCommand_eq]

/-- The mailbox a taken command names, from ARG0 (R177). -/
theorem namedMailbox_takenAs (code : Byte) (s : State) : namedMailbox (takenAs code s) = mailboxIndex s.cmd.arg0 := rfl

/-- What a command on a TX mailbox does, by the mailbox it names. -/
theorem onTx_cases (act : Fin 24 → TxMailbox → State → State) (s : State) :
    (namedMailbox s = none ∧ onTx act s = complete .badArg s) ∨
      (∃ m r, namedMailbox s = some m ∧ s.boxes[m] = .rx r ∧ onTx act s = complete .badArg s) ∨
      (∃ m t, namedMailbox s = some m ∧ s.boxes[m] = .tx t ∧ onTx act s = act m t s) := by
  unfold onTx
  split
  · exact .inl ⟨‹_›, rfl⟩
  · split
    · exact .inr (.inl ⟨_, _, ‹_›, ‹_›, rfl⟩)
    · exact .inr (.inr ⟨_, _, ‹_›, ‹_›, rfl⟩)

/-- What a command on an RX mailbox does, by the mailbox it names. -/
theorem onRx_cases (act : Fin 24 → RxMailbox → State → State) (s : State) :
    (namedMailbox s = none ∧ onRx act s = complete .badArg s) ∨
      (∃ m t, namedMailbox s = some m ∧ s.boxes[m] = .tx t ∧ onRx act s = complete .badArg s) ∨
      (∃ m r, namedMailbox s = some m ∧ s.boxes[m] = .rx r ∧ onRx act s = act m r s) := by
  unfold onRx
  split
  · exact .inl ⟨‹_›, rfl⟩
  · split
    · exact .inr (.inl ⟨_, _, ‹_›, ‹_›, rfl⟩)
    · exact .inr (.inr ⟨_, _, ‹_›, ‹_›, rfl⟩)

/-- A command in flight is abandoned: the shadow returns to IDLE when it was ARM. -/
theorem abandonCommand_eq (s : State) :
    abandonCommand s = { s with
      cmd := { s.cmd with inFlight := none }
      sched := { s.sched with shadow := if s.cmd.inFlight = some .arm then .idle else s.sched.shadow } } := by
  unfold abandonCommand
  rcases h : s.cmd.inFlight with _ | (_ | _ | _) <;> cases s <;> simp_all
  rename_i cmd _ _; cases cmd; simp_all

/-! ### Mailboxes -/

/-- A change of a TX mailbox. -/
theorem updateTx_tx {m : Fin 24} {t : TxMailbox} {s : State} (h : s.boxes[m] = .tx t) (f : TxMailbox → TxMailbox) :
    updateTx m f s = { s with boxes := put s.boxes m (.tx (f t)) } := by
  unfold updateTx; rw [h]

/-- An RX mailbox is not changed as a TX mailbox. -/
theorem updateTx_rx {m : Fin 24} {r : RxMailbox} {s : State} (h : s.boxes[m] = .rx r) (f : TxMailbox → TxMailbox) :
    updateTx m f s = s := by
  unfold updateTx; rw [h]

/-- A pending commit applied is the deferred commit of the specification of a mailbox (R102). -/
theorem applyPending_eq (t : TxMailbox) : t.applyPending = deferred t := by
  unfold TxMailbox.applyPending deferred TxMailbox.commit TxMailbox.committed installed
  split <;> rfl

/-- A delivery to an RX mailbox. -/
theorem deliver_rx {m : Fin 24} {r : RxMailbox} {s : State} (h : s.boxes[m] = .rx r) (f : Frame) :
    deliver m f s =
      applyNotice m (r.take s.timer.cycle f).2 { s with boxes := put s.boxes m (.rx (r.take s.timer.cycle f).1) } := by
  unfold deliver; rw [h]

/-- A TX mailbox takes no delivery. -/
theorem deliver_tx {m : Fin 24} {t : TxMailbox} {s : State} (h : s.boxes[m] = .tx t) (f : Frame) : deliver m f s = s := by
  unfold deliver; rw [h]

/-- A window write is taken by its collection, or refused (R174, R175). -/
theorem writeWindow_cases (a : WindowAddress) (v : Byte) (s : State) :
    (∃ t, writeByte (locate a) v s = some t ∧ writeWindow a v s = t) ∨
      (writeByte (locate a) v s = none ∧ writeWindow a v s = recordRefusal a s) := by
  unfold writeWindow
  cases h : writeByte (locate a) v s with
  | none => exact .inr ⟨rfl, rfl⟩
  | some t => exact .inl ⟨t, rfl, rfl⟩

/-! ### The head's wait -/

/-- After it is settled, the head waits exactly while the conditions of R111 hold. -/
theorem settleWait_ok (s : State) : WaitOk (settleWait s) := by
  have h : headMayWait (settleWait s) = headMayWait s := rfl
  unfold WaitOk; rw [h]; unfold settleWait
  cases headMayWait s <;> simp

/-- Settling a wait that stands as it should changes nothing. -/
theorem settleWait_of_ok {s : State} (h : WaitOk s) : settleWait s = s := by
  unfold WaitOk at h
  unfold settleWait; rw [← h]
  rcases s with ⟨_, _, _, _, _, _, _, _, _, _, _, ⟨e, w, t⟩⟩
  cases w <;> simp

/-! ### The link and the slots -/

/-- A change of link state to another sets LINK (R69). -/
theorem setLinkState_other {l : LinkState} {s : State} (h : s.link.state ≠ l) :
    setLinkState l s = setFlag .link { s with link := { s.link with state := l } } := by
  unfold setLinkState; rw [if_neg h]

@[simp] theorem setLinkState_same (s : State) : setLinkState s.link.state s = s := by simp [setLinkState]

/-- Entry to OFF from another state leaves the state of `offState` (R94). -/
theorem enterOff_eq {s : State} (h : s.link.state ≠ .off) : enterOff s = offState s := by
  unfold enterOff offState disarmOnOff
  by_cases hs : s.sched.shadow = .armed <;>
    simp [hs, stopTimer, closeSlot, setLinkState, h, setFlag, Receiver.hunting, Flag.bit] <;> rfl

/-- What the slot sequencer does when the frame it may follow has ended without HEARD (R63, R66). -/
theorem slotFrameEnded_cases (s : State) :
    ((∀ sl ∈ s.seq.slot, sl.follows = false) ∧ slotFrameEnded s = s) ∨
      (∃ sl, s.seq.slot = some sl ∧ sl.body = .receive .receiving false ∧
        slotFrameEnded s = setSlot { sl with body := .receive .awaiting false } s) ∨
      (∃ sl, s.seq.slot = some sl ∧ sl.body = .receive .receiving true ∧
        slotFrameEnded s = nodeMissed sl.source (closeSlot s)) := by
  unfold slotFrameEnded
  cases h : s.seq.slot with
  | none => exact .inl ⟨by simp, rfl⟩
  | some sl =>
    rcases hb : sl.body with _ | ⟨_ | _ | _, _ | _⟩ | _ <;> simp [Slot.follows, hb]

/-- The notice that a frame has opened changes the open slot alone (R63). -/
theorem slotFrameOpened_eq (s : State) :
    slotFrameOpened s = { s with seq := { s.seq with slot := s.seq.slot.map Slot.opened } } := by
  unfold slotFrameOpened
  rcases s with ⟨_, _, _, _, _, _, _, ⟨n, _ | ⟨i, a, f, m, src, body⟩⟩⟩
  · rfl
  · rcases body with _ | ⟨_ | _ | _, _⟩ | _ <;> rfl

/-- An assembly is abandoned with its error, and in HUNT there is none (R18). -/
theorem abandonAssembly_cases (c : Counter) (s : State) :
    (s.rx.assembly = .hunt ∧ abandonAssembly c s = s) ∨
      (s.rx.assembly ≠ .hunt ∧ abandonAssembly c s = slotFrameEnded (lineError c { s with rx := Receiver.hunting })) := by
  unfold abandonAssembly
  by_cases h : s.rx.assembly = .hunt <;> simp [h]

/-- The decision of a transmit slot at its opening (R61). -/
theorem admitTransmit_cases (e : Entry) (s : State) :
    admitTransmit e s = s ∨
      ∃ m t, e.mailbox.toNat = m.val ∧ s.boxes[m] = .tx t ∧ t.state = .loaded ∧ s.link.silent = false ∧ s.tx = none ∧
        ((s.line.level ≠ .idle ∧ admitTransmit e s = refuseSend m .blocked s) ∨
          (s.line.level = .idle ∧ e.window.toNat < (mailboxFrame .slotData t s).stuffedLength s.params ∧
            admitTransmit e s = refuseSend m .oversize s) ∨
          (s.line.level = .idle ∧ (mailboxFrame .slotData t s).stuffedLength s.params ≤ e.window.toNat ∧
            admitTransmit e s =
              beginFrame (.slot m) (mailboxFrame .slotData t s) (updateTx m (fun t => { t with state := .locked }) s))) := by
  by_cases hq : s.link.silent = true ∨ s.tx.isSome = true
  · left; unfold admitTransmit; rcases hq with hq | hq <;> simp [hq]
  · have hs : s.link.silent = false := by simp at hq; exact hq.1
    have ht : s.tx = none := by simp at hq; exact hq.2
    rcases hm : mailboxIndex e.mailbox with _ | m
    · left; unfold admitTransmit; simp [hm]
    · have hm' := (mailboxIndex_eq_some _ _).mp hm
      rcases hb : s.boxes[m] with t | r
      · by_cases hl : t.state = .loaded
        · right
          refine ⟨m, t, hm', hb, hl, hs, ht, ?_⟩
          by_cases hi : s.line.level = .idle
          · by_cases hw : e.window.toNat < (mailboxFrame .slotData t s).stuffedLength s.params
            · exact .inr (.inl ⟨hi, hw, by unfold admitTransmit; rw [hm]; simp only [hb]; simp [hs, ht, hl, lineBusy, hi, hw]⟩)
            · exact .inr (.inr ⟨hi, by omega, by unfold admitTransmit; rw [hm]; simp only [hb]; simp [hs, ht, hl, lineBusy, hi, hw]⟩)
          · exact .inl ⟨hi, by unfold admitTransmit; rw [hm]; simp only [hb]; simp [hs, ht, hl, lineBusy, hi]⟩
        · left; unfold admitTransmit; rw [hm]; simp only [hb]; simp [hl]
      · left; unfold admitTransmit; rw [hm]; simp only [hb]; simp

/-- The master's launch of the cycle-start frame (R76). -/
theorem launchCycleStart_cases (s : State) :
    (s.link.silent = true ∧ launchCycleStart s = s) ∨
      (s.link.silent = false ∧ s.line.level ≠ .idle ∧
        launchCycleStart s = setFlag .slot (updateCauses (fun c => { c with csBlocked := true }) s)) ∨
      (s.link.silent = false ∧ s.line.level = .idle ∧ s.tx ≠ none ∧ launchCycleStart s = s) ∨
      (s.link.silent = false ∧ s.line.level = .idle ∧ s.tx = none ∧
        launchCycleStart s = beginFrame .cycleStart (cycleStartFrame s) s) := by
  unfold launchCycleStart lineBusy
  by_cases h1 : s.link.silent = true <;> by_cases h2 : s.line.level = .idle <;> cases h3 : s.tx <;> simp_all

/-- A frame that is due at the end of a CT ends there; one that is not goes on (R13, R14, R57). -/
theorem endDueTransmission_cases (s : State) :
    ((∀ t ∈ s.tx, t.collided = false ∧ t.index < t.chars.length) ∧ endDueTransmission s = s) ∨
      (∃ t, s.tx = some t ∧ t.collided = false ∧ t.chars.length ≤ t.index ∧
        endDueTransmission s = completeTransmission t s) ∨
      (∃ t, s.tx = some t ∧ t.collided = true ∧ endDueTransmission s = collideTransmission t s) := by
  unfold endDueTransmission Transmission.allMatched
  rcases s.tx with _ | t
  · exact .inl ⟨by simp, rfl⟩
  · by_cases hc : t.collided = true
    · exact .inr (.inr ⟨t, rfl, hc, by simp [hc]⟩)
    · by_cases hl : t.chars.length ≤ t.index
      · exact .inr (.inl ⟨t, rfl, by simpa using hc, hl, by simp [hc, hl]⟩)
      · exact .inl ⟨by simp at hc ⊢; exact ⟨hc, by omega⟩, by simp [hc, hl]⟩

/-- The timer advances: not when it is stopped, else to the next position or to the boundary (R26). -/
theorem advanceTimer_cases (s : State) :
    (s.timer.length = none ∧ advanceTimer s = s) ∨
      (∃ length, s.timer.length = some length ∧ s.timer.position + 1 < length ∧
        advanceTimer s = settleWait (countTo (s.timer.position + 1) s)) ∨
      (∃ length, s.timer.length = some length ∧ length ≤ s.timer.position + 1 ∧
        advanceTimer s = settleWait (countedBoundary s)) := by
  unfold advanceTimer
  cases h : s.timer.length with
  | none => simp
  | some length =>
    by_cases hq : s.timer.position + 1 < length
    · exact .inr (.inl ⟨length, rfl, hq, by simp [hq]⟩)
    · exact .inr (.inr ⟨length, rfl, by omega, by simp [hq]⟩)

/-- The end of a CT: nothing with the timer stopped; else the CT counts, a due frame ends, and the timer advances (R26,
R57). -/
theorem endOfCt_cases (s : State) :
    (s.timer.length = none ∧ endOfCt s = s) ∨
      (s.timer.length ≠ none ∧ endOfCt s = advanceTimer (endDueTransmission (ctPasses s))) := by
  unfold endOfCt
  cases s.timer.length <;> simp

/-- The CS window end check reports a missed start or nothing (R29). -/
theorem csWindowEnd_cases (s : State) :
    ((isMaster s = true ∨ s.timer.csSeen = true) ∧ csWindowEnd s = s) ∨
      (isMaster s = false ∧ s.timer.csSeen = false ∧ csWindowEnd s = missedStart s) := by
  unfold csWindowEnd
  cases isMaster s <;> cases s.timer.csSeen <;> simp

/-! ### The pins -/

@[simp] theorem busRead_wdata (s : State) : busRead 0x07 s = readWindow s.win.pointer s := rfl

@[simp] theorem busRead_posL (s : State) : busRead 0x0D s = (positionBits s).setWidth 8 := rfl

theorem busRead_register (a : BusAddress) (s : State) (h : a ≠ 0x07) : busRead a s = readRegister a s :=
  if_neg h

/-- The data lines carry the register read, or are undriven (R171). -/
theorem dataLines_cases (bus : BusPort) (s : State) :
    (bus.select = true ∧ bus.read = true ∧ bus.write = false ∧ dataLines bus s = some (busRead bus.address s)) ∨
      ((bus.select = false ∨ bus.read = false ∨ bus.write = true) ∧ dataLines bus s = none) := by
  cases h1 : bus.select <;> cases h2 : bus.read <;> cases h3 : bus.write <;> simp [dataLines, BusPort.reads, h1, h2, h3]

end Sys2Proof.Machine
end

