-- ==== Sys2Proof/Tests/Slice0.lean ====
section
/-! SUPPORT. The model's own tests: ill-formed commands, the manual's worked examples as single steps, and for every statement
with hypotheses a theorem that shows what meets them. -/

namespace Sys2Proof.Tests

open Sys2Proof.Machine

/-! ### Small states -/

/-- The reset state with its link in a given state. -/
def inLink (l : LinkState) : State := { State.reset with link := ⟨l, false, 0⟩ }

/-- The reset state with mailbox 23 as given and named by ARG0. -/
def boxed (b : Mailbox) : State :=
  { State.reset with boxes := put State.reset.boxes 23 b, cmd := { State.reset.cmd with arg0 := 23 } }

/-- The reset state with a command in flight. -/
def busyWith (c : InFlight) : State := { State.reset with cmd := { State.reset.cmd with inFlight := some c, result := .pending } }

/-- A TX mailbox in a given mode and state. -/
def txIn (mode : TxMode) (x : TxState) : TxMailbox := { TxMailbox.fresh mode with state := x }

/-- An RX mailbox under a policy in a given state. -/
def rxIn (policy : RxPolicy) (x : RxState) : RxMailbox :=
  { RxMailbox.fresh policy with state := x, contentValid := x != .empty }

/-- A bank with schedule id 9 and one entry. -/
def bankWith (length : Word) (e : Entry) : Bank :=
  { id := 9, length := length, count := 1, entries := put Bank.zero.entries 0 e }

/-- A TRANSMIT entry of mailbox 0: start 60, window 16. -/
def txEntry : Entry := { start := 60, window := 16, kind := 0x01, exponent := 0, phase := 0, mailbox := 0, source := 0 }

/-- A follower RUNNING at position `p` of cycle 41, with cycle length 300 and mailbox 0 TX SCHEDULED with repeat, LOADED. -/
def running (p : Nat) : State :=
  { inLink .running with
    sched := { State.reset.sched with bankA := bankWith 300 txEntry }
    timer := { position := p, cycle := 41, length := some 300, csSeen := true }
    boxes := put State.reset.boxes 0 (.tx (txIn (.scheduled true) .loaded)) }

/-- `running 61` with a frame SENDING for a requester, and mailbox 0 in the mode given. -/
def sending (r : Requester) (mode : TxMode) : State :=
  { running 61 with
    tx := some { requester := r, chars := [0xC5, 0xD9], index := 0, collided := false }
    boxes := put State.reset.boxes 0 (.tx (txIn mode .locked)) }

/-- A receive slot of mailbox 6 for node 17, from 200 to 220. -/
def rxSlot (sub : ReceiveSub) (extended : Bool) : Slot :=
  { index := 4, start := 200, finish := 220, mailbox := 6, source := 17, body := .receive sub extended }

/-- An open window from 300 to 360. -/
def window : Slot := { index := 0, start := 300, finish := 360, mailbox := 0, source := 0, body := .openWindow }

/-- A state whose receive side is in the middle of a character. -/
def hearing (r : Receiver) (s : State) : State := { s with line := ⟨.character, 0, false⟩, rx := r }

/-- A state whose receive side is in the closing mark of a frame of `n + 1` characters. -/
def closing (f : Frame) (n : Nat) (s : State) : State :=
  hearing { assembly := .inFrame, buffer := f.inner, count := n, gap := none } s

/-- A cycle-start frame from node 1. -/
def csFrame (cycle : Word) (id : Byte) (length : Word) : Frame :=
  { dst := 255, src := 1, kind := .cycleStart, tag := 0, seq := loByte cycle,
    payload := [hiByte cycle, loByte cycle, id, hiByte length, loByte length] }

/-- A data frame without payload. -/
def dataFrame (kind : FrameKind) (dst src tag seq : Byte) : Frame :=
  { dst := dst, src := src, kind := kind, tag := tag, seq := seq, payload := [] }

/-! ### Well-formed commands -/

/-- A code of the command table is no unknown command (R177). -/
theorem test_unknown_command_refuses_table_code :
    (Instr.unknownCommand 0x01).wellFormed = false ∧ (Instr.unknownCommand 0x07).wellFormed = true := by decide

/-- HALT and LINK_RESET are never lost (R179). -/
theorem test_cmd_write_lost_refuses_halt :
    (Instr.cmdWriteLost 0x03).wellFormed = false ∧ (Instr.cmdWriteLost 0x06).wellFormed = false ∧
      (Instr.cmdWriteLost 0x20).wellFormed = true := by decide

/-- A register with a row of its own is no other register (R172). -/
theorem test_register_write_refuses_cmd :
    (Instr.registerWrite 0x00 1).wellFormed = false ∧ (Instr.registerWrite 0x01 1).wellFormed = true := by decide

/-- The table gives no row a bit, so no word spells a command. -/
theorem test_no_word_spells_a_command : decodeTableWord 8 0x01 = none ∧ State.reset.withFetchWord 8 0x01 = State.reset := by
  exact ⟨rfl, rfl⟩

/-! ### Values the manual works out -/

set_option maxRecDepth 8000 in
/-- The check value of R10. -/
theorem test_crc_check_value : crc [0x31, 0x32, 0x33, 0x34, 0x35, 0x36, 0x37, 0x38, 0x39] = 0x29B1 := by decide

set_option maxRecDepth 8000 in
/-- Example: Counting a Stuffed Length. -/
theorem test_stuffed_length : Frame.stuffedLength resetParams
    { dst := 1, src := 2, kind := .slotData, tag := 4, seq := 0xC5, payload := [0x12, 0xB1, 0x34] } = 15 := by decide

/-- Example: A Receive Sequence: the complement after ES, the OM that restarts the assembly, and 0x99 after ES. -/
theorem test_receive_sequence :
    (after (.characterComplete 0x3A) (hearing ⟨.escaped, [7, 3, 2], 5, none⟩ (running 100))).rx.buffer = [7, 3, 2, 0xC5] ∧
    (after (.characterComplete 0xC5) (hearing ⟨.inFrame, [7, 3, 2, 0xC5], 6, none⟩ (running 100))).rx =
      ⟨.inFrame, [], 1, some 0⟩ ∧
    counterValue .truncErr (after (.characterComplete 0xC5) (hearing ⟨.inFrame, [7, 3, 2, 0xC5], 6, none⟩ (running 100))) = 1 ∧
    (after (.characterComplete 0x99) (hearing ⟨.escaped, [0x0A], 3, none⟩ (running 100))).rx.assembly = .hunt ∧
    counterValue .escErr (after (.characterComplete 0x99) (hearing ⟨.escaped, [0x0A], 3, none⟩ (running 100))) = 1 := by
  decide

/-- Example: An Early Boundary Followed by a Backward Jump: the state before the frame closes. -/
def earlyBoundary : State :=
  let s := running 185
  closing (csFrame 42 9 200) 14 { s with
    sched := { s.sched with bankA := bankWith 200 { txEntry with start := 186, window := 10 } }
    timer := { s.timer with length := some 200 }
    points := put (put (put s.points 0 ⟨true, true, 5, true⟩) 1 ⟨true, false, 190, false⟩) 2 ⟨true, true, 12, true⟩ }

set_option maxRecDepth 8000 in
/-- Example: An Early Boundary Followed by a Backward Jump: the row of the setting and the deviation. -/
theorem test_early_boundary :
    let t := after (.characterComplete 0xD9) earlyBoundary
    t.timer = { position := 15, cycle := 42, length := some 200, csSeen := true } ∧ t.sync.deviation = -30 ∧
      counterValue .slotSkipped t = 1 ∧ t.irq.pointStatus = 0b0101 ∧ t.points[(1 : Fin 4)].enabled = true ∧
      flagSet .sync t = true := by
  decide

/-- The bank of Example: Validating a Bank, with the start of entry 2 given. -/
def exampleBank (start2 : Word) : Bank :=
  { id := 7, length := 400, count := 4,
    entries := put (put (put (put Bank.zero.entries 0 ⟨28, 20, 0x01, 0, 0, 2, 0⟩) 1 ⟨48, 24, 0x02, 1, 1, 5, 12⟩)
      2 ⟨start2, 40, 0x03, 0, 0, 0, 0⟩) 3 ⟨112, 10, 0x02, 2, 3, 9, 30⟩ }

/-- Example: Validating a Bank. -/
theorem test_validation :
    let boxes := put State.reset.boxes 2 (.tx (TxMailbox.fresh (.scheduled false)))
    validate boxes (exampleBank 70) = some ⟨10, 2⟩ ∧ validate boxes (exampleBank 72) = none := by decide

/-- Example: A Follower Meets a New Schedule and Then Loses the Line: the third miss. -/
theorem test_third_miss_loses_sync :
    let s := running 27
    let t := after .positionReached { s with timer := { s.timer with csSeen := false }, sync := { s.sync with missed := 2 } }
    t.link.state = .listen ∧ t.timer.position = 0 ∧ t.timer.cycle = 41 ∧ t.sync.missed = 3 ∧
      counterValue .csMissed t = 1 ∧ t.irq.causes.lost = true := by decide

/-- Mailbox 3 of Example: A Commit Deferred by a Transmit Slot, while its frame is sent. -/
def committing : State :=
  let b := txIn (.scheduled true) .locked
  let s := sending (.slot 3) (.scheduled true)
  { s with
    boxes := put s.boxes 3 (.tx { b with
      content := { b.content with sequence := 17, length := 4 }, staging := { b.staging with length := 6 } })
    cmd := { s.cmd with arg0 := 3 } }

/-- A test of the record of a TX mailbox; false of an RX mailbox. -/
def txHas (s : State) (m : Fin 24) (p : TxMailbox → Bool) : Bool :=
  match s.boxes[m] with
  | .tx b => p b
  | .rx _ => false

/-- A test of the record of an RX mailbox; false of a TX mailbox. -/
def rxHas (s : State) (m : Fin 24) (p : RxMailbox → Bool) : Bool :=
  match s.boxes[m] with
  | .rx b => p b
  | .tx _ => false

/-- Example: A Commit Deferred by a Transmit Slot: COMMIT, the refused staging write and the second COMMIT. -/
theorem test_commit_deferred :
    let t := after .commit committing
    t.cmd.result = .ok ∧ txHas t 3 (fun b => b.pendingCommit && b.content.sequence == 17) = true ∧
      writeByte (.mailbox 3 0x60) 1 t = none ∧ (after .commit t).cmd.result = .inFlight := by decide

/-- Example: A Commit Deferred by a Transmit Slot: the frame completes. -/
theorem test_deferred_commit_applied :
    let s := after .commit committing
    let t := after .transmissionCompletes { s with tx := s.tx.map (fun x => { x with index := 2 }) }
    txHas t 3 (fun b => b.state == .loaded && b.content.sequence == 18 && b.content.length == 6 && !b.pendingCommit &&
      b.lastOutcome == .sent) = true ∧ t.irq.attention = 8 := by decide

/-- Example: A Collision, a Turned-Away Retry and a Drop: mailbox 10 waits at the head, with a retry count and a position. -/
def waiting (p retry k : Nat) : State :=
  let s := running p
  let b : TxMailbox := { txIn .event .queued with content := { TxContent.zero with length := 4 } }
  { s with
    params := { s.params with address := 37, retryLimit := 1 }
    timer := { s.timer with length := some 400 }
    seq := ⟨1, some window⟩
    boxes := put (put s.boxes 10 (.tx { b with retry := retry })) 11 (.tx b)
    queue := ⟨[10, 11], some k, false⟩ }

set_option maxRecDepth 8000 in
/-- Example: A Collision, a Turned-Away Retry and a Drop: the head is served, or turned away. -/
theorem test_backoff :
    backoff (waiting 323 0 7) = 7 ∧ backoff (waiting 323 1 7) = 23 ∧
    txHas (after .backoffElapses (waiting 323 0 7)) 10 (fun b => b.state == .locked) = true ∧
    (after .backoffElapses (waiting 347 1 23)).queue = ⟨[10, 11], none, true⟩ := by decide

/-- Example: A Collision, a Turned-Away Retry and a Drop: the second collision drops the event. -/
theorem test_event_dropped :
    let s := waiting 324 1 0
    let t := after .transmissionCollides { s with
      tx := some ⟨.event 10, [0xC5, 0xD9], 0, true⟩
      boxes := put s.boxes 10 (.tx { txIn .event .locked with retry := 1 })
      queue := ⟨[10, 11], none, false⟩ }
    txHas t 10 (fun b => b.state == .loaded && b.retry == 2 && b.lastOutcome == .dropped) = true ∧
      t.queue = ⟨[11], some 0, false⟩ ∧ t.irq.attention = 0x400 ∧ counterValue .collisions t = 1 := by decide

/-- Mailbox 6 of Example: A KEEP Mailbox Read Under HOLD, at cycle 104. -/
def heldBox : RxMailbox :=
  { rxIn .keep .held with
    content := { RxBuffer.zero with source := 17, sequence := 40, cycle := 100 }
    nextPresent := true, next := { RxBuffer.zero with source := 17, sequence := 41, cycle := 102 }, lost := 1 }

/-- Example: A KEEP Mailbox Read Under HOLD: the deliveries of cycles 103 and 104. -/
theorem test_keep_under_hold :
    heldBox.take 103 (dataFrame .slotData 255 17 0 41) = ({ heldBox with lastHeard := 103 }, ⟨false, false⟩) ∧
    heldBox.take 104 (dataFrame .slotData 255 17 0 42) = ({ heldBox with lastHeard := 104, lost := 2 }, ⟨false, true⟩) := by
  decide

/-- Example: A KEEP Mailbox Read Under HOLD: the RELEASE in cycle 104. -/
theorem test_release_promotes :
    let t := after .release (boxed (.rx heldBox))
    rxHas t 23 (fun r => r.state == .full && r.content.sequence == 41 && r.content.cycle == 102 && !r.nextPresent) = true ∧
      t.irq.attention = 0x800000 := by decide

/-- The table of Example: Routing in an Open Window. -/
def routing : State :=
  let s := running 310
  { s with
    params := { s.params with address := 12 }
    boxes := put s.boxes 4 (.tx (txIn .event .free))
    seq := ⟨1, some window⟩
    accept := put (put (put (put s.accept 0 ⟨1, 5, 30, 8⟩) 1 ⟨1, 5, 255, 9⟩) 2 ⟨0, 7, 255, 8⟩) 3 ⟨1, 7, 255, 4⟩ }

/-- Example: Routing in an Open Window, frames 1 to 6. -/
theorem test_routing :
    rxHas (routeFrame (dataFrame .eventData 12 30 5 1) routing) 8 (fun r => r.state == .full) = true ∧
    rxHas (routeFrame (dataFrame .eventData 255 41 5 1) routing) 9 (fun r => r.state == .full) = true ∧
    counterValue .unrouted (routeFrame (dataFrame .eventData 12 41 7 1) routing) = 1 ∧
    routeFrame (dataFrame .eventData 20 30 5 1) routing = routing ∧
    counterValue .unrouted (routeFrame (dataFrame .eventData 12 30 9 1) routing) = 1 ∧
    counterValue .stray (routeFrame (dataFrame .slotData 255 30 5 1) routing) = 1 := by decide

/-- Example: One Peer, Two Entries: cycles 202 and 206. -/
theorem test_node_missed :
    let s := { running 100 with nodes := put State.reset.nodes 2 ⟨1, 17, 3, .late, 1, 200⟩ }
    (nodeMissed 17 s).nodes[(2 : Fin 16)] = ⟨1, 17, 3, .late, 2, 200⟩ ∧
    (nodeMissed 17 (nodeMissed 17 s)).nodes[(2 : Fin 16)] = ⟨1, 17, 3, .absent, 3, 200⟩ ∧
    (nodeMissed 17 (nodeMissed 17 s)).irq.nodeChange = 4 := by decide

/-- Example: A Burst of Refused Writes: the second refusal. -/
theorem test_window_fault :
    let s := running 100
    let t := after (.wdataWrite 7) { s with
      win := { s.win with pointer := 0x0101 }, irq := { s.irq with fault := ⟨true, false, 0x0100⟩ } }
    t.irq.fault = ⟨true, true, 0x0101⟩ ∧ t.win.pointer = 0x0102 ∧ t.irq.flags = 0x2000 := by decide

/-- Example: Filling a Staging Area: the stored destination. -/
theorem test_staging_write :
    let s := State.reset
    let t := after (.wdataWrite 0xFF) { s with
      win := { s.win with pointer := 0x0940 }, boxes := put s.boxes 2 (.tx (txIn (.scheduled false) .free)) }
    txHas t 2 (fun b => b.staging.destination == 0xFF) = true ∧ t.win.pointer = 0x0941 ∧ t.irq.flags = 0 := by decide

/-- Example: A Command Lost Behind ARM. -/
theorem test_command_lost :
    let t := after (.cmdWriteLost 0x20) (after .arm (running 100))
    t.cmd.code = 0x10 ∧ t.cmd.result = .pending ∧ t.cmd.lost = true ∧ t.sched.shadow = .validating ∧
      (after (.cmdstatWrite 2) t).cmd.lost = false := by decide

/-- The advance of the pointer past the end of window space (R174). -/
theorem test_pointer_wraps :
    (after .wdataRead { State.reset with win := { State.reset.win with pointer := 0x1FFF } }).win.pointer = 0 := by decide

set_option maxRecDepth 8000 in
/-- Example: A Master Starts Beside a Quiet Line: the wait of 328 CT, and the frame of 15 characters. -/
theorem test_startup_silence :
    let s := inLink .starting
    let t := after .startupSilenceCompletes { s with
      params := { s.params with role := 1 }, sched := { s.sched with bankA := bankWith 300 txEntry }
      link := ⟨.starting, false, 327⟩ }
    startupLimit { s with sched := { s.sched with bankA := bankWith 300 txEntry } } = 328 ∧
    t.link.state = .running ∧ t.timer = ⟨0, 0, some 300, false⟩ ∧ t.tx.map (fun x => x.chars.length) = some 15 := by
  decide

/-- Example: An Outcome Decided After the Window: the frame of node 17 closes at 233. -/
theorem test_extended_slot_heard :
    let s := { running 233 with seq := ⟨1, some (rxSlot .receiving true)⟩ }
    let t := routeFrame (dataFrame .slotData 255 17 3 1) s
    rxHas t 6 (fun r => r.state == .full && r.content.source == 17) = true ∧ t.seq.slot = none ∧
      t.irq.attention = 0x40 := by decide

/-! ### States that meet the hypotheses of the statements: a conjunct for each clause -/

/-- For TimeWithoutHappenings. The reset banks have length 0, so the limit is 28; and every happening that cannot occur. -/
theorem test_time_without_happenings_witness :
    (∀ n ∈ [0, 26, 27], let s := { inLink .starting with link := ⟨.starting, false, n⟩ }
      s.pending = [] ∧ s.line.level = .idle ∧ s.link.state = .starting ∧
        (n = 26 → s.link.silence + 1 < (bankOf s.sched.active s).length.toNat + 28) ∧
        (n = 27 → (bankOf s.sched.active s).length.toNat + 28 ≤ s.link.silence + 1)) ∧
    ((inLink .listen).pending = [] ∧ (inLink .listen).line.level = .idle ∧ (inLink .listen).link.state = .listen) ∧
    (State.reset.link.state = .off ∧ State.reset.line.level ≠ .character ∧ State.reset.line.level ≠ .heldLow ∧
      (∀ g ∈ State.reset.rx.gap, g = 0) ∧ State.reset.timer.length = none ∧
      State.reset.timer.length ≠ some (State.reset.timer.position + 1) ∧ State.reset.link.state ≠ .starting ∧
      (∀ k ∈ State.reset.queue.wait, k < backoff State.reset) ∧ (∀ x ∈ State.reset.tx, x.allMatched = false) ∧
      (∀ x ∈ State.reset.tx, x.allMatched = true) ∧ State.reset.cmd.inFlight = none) ∧
    (running 298).timer.length ≠ some ((running 298).timer.position + 1) ∧
    (∀ k ∈ (waiting 320 0 6).queue.wait, k < backoff (waiting 320 0 6)) := by decide

/-- The checks of START in the order of R72, each with the offset it reports. -/
def startChecks (p : Params) : List (Byte × Bool) :=
  let marks : List Byte := [p.om, p.cm, p.es]
  let passes (mark : Byte) (earlier : List Byte) : Bool := !earlier.contains mark && !marks.contains (~~~mark)
  [(0x00, p.role == 0 || p.role == 1), (0x01, p.address.toNat ≤ 239), (0x02, 16 ≤ p.div.toNat),
   (0x04, passes p.om []), (0x05, passes p.cm [p.om]), (0x06, passes p.es [p.om, p.cm]),
   (0x07, p.syncTolerance.toNat ≤ 15), (0x08, 1 ≤ p.syncLossLimit.toNat && p.syncLossLimit.toNat ≤ 7),
   (0x09, p.retryLimit.toNat ≤ 15)]

set_option maxRecDepth 8000 in
/-- For StartAnswers. One parameter beyond its range for each check, the two checks that a repeated mark fails, and the bounds. -/
theorem test_start_answers_witness :
    ((inLink .starting).cmd.inFlight = none ∧ (inLink .starting).link.state ≠ .off) ∧
    (State.reset.cmd.inFlight = none ∧ State.reset.link.state = .off) ∧
    (∀ c ∈ [(0x00#8, { resetParams with role := 2 }), (0x01, { resetParams with address := 240 }),
        (0x02, { resetParams with div := 15 }), (0x04, { resetParams with om := 0x26 }), (0x05, { resetParams with cm := 0xC5 }),
        (0x06, { resetParams with es := 0xD9 }), (0x07, { resetParams with syncTolerance := 16 }),
        (0x08, { resetParams with syncLossLimit := 0 }), (0x08, { resetParams with syncLossLimit := 8, retryLimit := 16 }),
        (0x09, { resetParams with retryLimit := 16 })],
      (startChecks c.2).find? (fun c => !c.2) = some (c.1, false) ∧
        (after .start { State.reset with params := c.2 }).cmd.result = .badParam ∧
        (after .start { State.reset with params := c.2 }).cmd.detail = c.1) ∧
    ∀ p ∈ [resetParams, { resetParams with
        role := 1, address := 239, div := 16, syncTolerance := 15, syncLossLimit := 7, retryLimit := 15 },
        { resetParams with syncLossLimit := 1 }],
      ∀ c ∈ startChecks p, c.2 = true := by decide

/-- For StopAndSilentCommands. The frame of the third clause SENDING in RUNNING, ALIGN and LISTEN. -/
theorem test_stop_answers_witness :
    (State.reset.cmd.inFlight = none ∧ State.reset.link.state = .off) ∧
    ((inLink .starting).cmd.inFlight = none ∧ (inLink .starting).link.state ≠ .off ∧ (inLink .starting).tx = none) ∧
    (∀ l ∈ [LinkState.running, .align, .listen], let s := { sending .cycleStart .event with link := ⟨l, false, 0⟩ }
      s.cmd.inFlight = none ∧ s.link.state ≠ .off ∧ s.link.state ≠ .stopping ∧ s.tx ≠ none) := by decide

/-- For HaltAnswers. -/
theorem test_halt_answers_witness :
    (State.reset.tx = none ∧ State.reset.link.state = .off ∧ (running 5).tx = none ∧ (running 5).link.state ≠ .off) ∧
    ((sending .cycleStart .event).tx = some ⟨.cycleStart, [0xC5, 0xD9], 0, false⟩ ∧
      (sending .cycleStart .event).link.state ≠ .off) ∧
    ((sending (.slot 0) (.scheduled true)).tx = some ⟨.slot 0, [0xC5, 0xD9], 0, false⟩ ∧
      (sending (.slot 0) (.scheduled true)).boxes[(0 : Fin 24)] = .tx (txIn (.scheduled true) .locked)) ∧
    ((sending (.event 0) .event).tx = some ⟨.event 0, [0xC5, 0xD9], 0, false⟩ ∧
      (sending (.event 0) .event).boxes[(0 : Fin 24)] = .tx (txIn .event .locked)) := by decide

/-- For StopAndSilentCommands. -/
theorem test_silent_commands_witness :
    (State.reset.cmd.inFlight = none ∧ State.reset.link.state = .off ∧ State.reset.link.silent = false) ∧
    ((inLink .listen).cmd.inFlight = none ∧ (inLink .listen).link.state ≠ .off) ∧
    (let s := { running 100 with link := ⟨.running, true, 0⟩ }
     s.cmd.inFlight = none ∧ s.link.silent = true ∧ s.queue.wait = none) := by decide

/-- For LinkResetRestoresRunTime. OFF with no frame; a slot's and an event's frame SENDING; a QUEUED and an RX mailbox. -/
theorem test_link_reset_witness :
    (State.reset.link.state = .off ∧ State.reset.tx = none) ∧
    ((boxed (.tx (txIn .event .queued))).tx = none ∧ (boxed (.tx (txIn .event .queued))).boxes[(23 : Fin 24)] =
      .tx (txIn .event .queued)) ∧ State.reset.boxes[(0 : Fin 24)] = .rx (RxMailbox.fresh .keep) ∧
    (∀ r ∈ [Requester.slot 0, .event 0],
      (sending r .event).link.state ≠ .off ∧ sendingMailbox (sending r .event) = some 0 ∧
        (after .linkReset (sending r .event)).tx = none ∧ (after .linkReset (sending r .event)).timer = ⟨0, 0, none, false⟩ ∧
        txHas (after .linkReset (sending r .event)) 0 (fun b => b.state == .loaded) = true) := by decide

/-- For ArmingAndValidation. -/
theorem test_arm_and_disarm_witness :
    (State.reset.cmd.inFlight = none ∧ State.reset.sched.shadow = .idle ∧ State.reset.sched.shadow ≠ .armed) ∧
    (let s := { running 9 with sched := { (running 9).sched with shadow := .armed } }
     s.cmd.inFlight = none ∧ s.sched.shadow ≠ .idle ∧ s.sched.shadow = .armed) := by decide

/-- For ArmingAndValidation. -/
theorem test_validation_done_witness :
    ((busyWith .start).cmd.inFlight = some .start ∧
      validate (busyWith .start).boxes (activeBank (busyWith .start)) = some ⟨1, 0xFF⟩) ∧
    (let s := { busyWith .start with sched := (running 0).sched, boxes := (running 0).boxes }
     s.cmd.inFlight = some .start ∧ validate s.boxes (activeBank s) = none ∧ s.link.state = .off) ∧
    ((busyWith .arm).cmd.inFlight = some .arm ∧
      validate (busyWith .arm).boxes (shadowBank (busyWith .arm)) = some ⟨1, 0xFF⟩) ∧
    (let u := busyWith .arm
     let s := { u with sched := { u.sched with bankB := bankWith 300 txEntry }, boxes := (running 0).boxes }
     s.cmd.inFlight = some .arm ∧ validate s.boxes (shadowBank s) = none ∧ s.link.state = .off ∧
       validate { s with link := ⟨.listen, false, 0⟩ }.boxes (shadowBank { s with link := ⟨.listen, false, 0⟩ }) = none) := by
  decide

/-- For CommitAndWithdraw, EventQueueCommands, HoldAndRelease and ConfigMailboxAnswers: an ARG0 of 24, and the mailboxes
named. -/
theorem test_mailbox_arguments_witness :
    let s := { State.reset with cmd := { State.reset.cmd with arg0 := 24 } }
    (s.cmd.inFlight = none ∧ 23 < s.cmd.arg0.toNat) ∧
    (let u := boxed (.rx (RxMailbox.fresh .keep))
     u.cmd.inFlight = none ∧ u.cmd.arg0.toNat = (23 : Fin 24).val ∧ u.boxes[(23 : Fin 24)] = .rx (RxMailbox.fresh .keep)) ∧
    (let u := boxed (.tx (txIn (.scheduled true) .free))
     u.cmd.inFlight = none ∧ u.cmd.arg0.toNat = (23 : Fin 24).val ∧
       u.boxes[(23 : Fin 24)] = .tx (txIn (.scheduled true) .free) ∧ (txIn (.scheduled true) .free).mode ≠ .event) := by
  decide

/-- A TX mailbox with a staging length. -/
def staged (n : Byte) (b : TxMailbox) : TxMailbox := { b with staging := { b.staging with length := n } }

/-- For CommitAndWithdraw. -/
theorem test_commit_answers_witness :
    ((boxed (.tx (staged 32 (txIn .event .queued)))).cmd.inFlight = none ∧
      (boxed (.tx (staged 32 (txIn .event .queued)))).cmd.arg0.toNat = (23 : Fin 24).val ∧
      (boxed (.tx (staged 32 (txIn .event .queued)))).boxes[(23 : Fin 24)] = .tx (staged 32 (txIn .event .queued))) ∧
    ({ txIn .event .locked with pendingCommit := true } : TxMailbox).pendingCommit = true ∧
    ((staged 33 (txIn .event .free)).pendingCommit = false ∧ 32 < (staged 33 (txIn .event .free)).staging.length.toNat) ∧
    ((staged 32 (txIn .event .locked)).pendingCommit = false ∧ (staged 32 (txIn .event .locked)).staging.length.toNat ≤ 32 ∧
      (staged 32 (txIn .event .locked)).state = .locked) ∧
    ((staged 32 (txIn .event .queued)).pendingCommit = false ∧ (staged 32 (txIn .event .queued)).staging.length.toNat ≤ 32 ∧
      (staged 32 (txIn .event .queued)).state ≠ .locked) := by decide

/-- For CommitAndWithdraw: an RX mailbox named. -/
theorem test_named_rx_witness : ∃ (m : Fin 24) (r : RxMailbox),
    (boxed (.rx (RxMailbox.fresh .keep))).cmd.arg0.toNat = m.val ∧
      (boxed (.rx (RxMailbox.fresh .keep))).boxes[m] = .rx r := ⟨23, RxMailbox.fresh .keep, by decide⟩

/-- For HoldAndRelease: a TX mailbox named. -/
theorem test_named_tx_witness : ∃ (m : Fin 24) (b : TxMailbox),
    (boxed (.tx (txIn .event .free))).cmd.arg0.toNat = m.val ∧ (boxed (.tx (txIn .event .free))).boxes[m] = .tx b :=
  ⟨23, txIn .event .free, by decide⟩

/-- For CommitAndWithdraw and EventQueueCommands. Each state of a TX mailbox, for WITHDRAW, SEND_EVENT
and CANCEL_EVENT. -/
theorem test_tx_states_witness : ∀ x ∈ [TxState.free, .loaded, .queued, .locked],
    let s := boxed (.tx (txIn .event x))
    s.cmd.inFlight = none ∧ s.cmd.arg0.toNat = (23 : Fin 24).val ∧ s.boxes[(23 : Fin 24)] = .tx (txIn .event x) ∧
      (txIn .event x).mode = .event ∧ (txIn .event x).state = x := by decide

/-- For EventQueueCommands. A queue of eight entries, and one of seven, for SEND_EVENT. -/
theorem test_send_event_room_witness :
    let s := boxed (.tx (txIn .event .loaded))
    8 ≤ { s with queue := ⟨[0, 1, 2, 3, 4, 5, 6, 7], none, false⟩ }.queue.entries.length ∧
    { s with queue := ⟨[0, 1, 2, 3, 4, 5, 6], none, false⟩ }.queue.entries.length < 8 := by decide

/-- For HoldAndRelease. -/
theorem test_hold_and_release_witness : (∀ x ∈ [RxState.empty, .full, .held],
    let s := boxed (.rx (rxIn .keep x))
    s.cmd.inFlight = none ∧ s.cmd.arg0.toNat = (23 : Fin 24).val ∧ s.boxes[(23 : Fin 24)] = .rx (rxIn .keep x) ∧
      (rxIn .keep x).state = x) ∧ (rxIn .keep .held).nextPresent = false ∧
    (heldBox.state = .held ∧ heldBox.nextPresent = true) := by decide

/-- For ConfigMailboxAnswers. -/
theorem test_config_mailbox_witness :
    let s (code : Byte) : State := { State.reset with cmd := { State.reset.cmd with arg0 := 23, arg1 := code } }
    ((s 0x02).cmd.inFlight = none ∧ (s 0x02).cmd.arg0.toNat = (23 : Fin 24).val ∧
      (s 0x02).cmd.arg1 ∉ [0x00#8, 0x01, 0x10, 0x11, 0x12]) ∧
    ((s 0x12).cmd.arg1 ∈ [0x00#8, 0x01, 0x10, 0x11, 0x12] ∧ { s 0x12 with link := ⟨.listen, false, 0⟩ }.link.state ≠ .off) ∧
    ∀ code ∈ [0x00#8, 0x01, 0x10, 0x11, 0x12], (s code).cmd.arg1 = code ∧ (s code).link.state = .off := by decide

/-- For ClearCountersAndUnknownCodes. -/
theorem test_clear_counters_witness :
    (busyWith .arm).cmd.inFlight ≠ none ∧ State.reset.cmd.inFlight = none ∧
    0x07#8 ∉ [0x01#8, 0x02, 0x03, 0x04, 0x05, 0x06, 0x10, 0x11, 0x20, 0x21, 0x22, 0x23, 0x24, 0x25, 0x26, 0x30] := by decide

/-- For CommandsWhileBusy. A command in flight, two codes at the edge of HALT's, and a mark set while none is in flight. -/
theorem test_commands_while_busy_witness :
    ((busyWith .stop).cmd.inFlight ≠ none ∧ (0x04 : Byte) ≠ 0x03 ∧ (0x04 : Byte) ≠ 0x06) ∧
      Instr.wdataRead.wellFormed = true ∧
      (let s := { State.reset with cmd := { State.reset.cmd with lost := true } }
       s.cmd.lost = true ∧ s.cmd.inFlight = none) := by decide

/-- For CommandsWhileBusy, WindowPointer, DirectRegisters, FlagsEnablesAndRequestLine, FlagsStayUntilCleared and
HeldAndConfiguredStateStays. For the statements about what a command leaves alone: commands that answer a next state. -/
theorem test_frame_witness :
    exec .startBitConfirmed (running 100) = .next (after .startBitConfirmed (running 100)) ∧
      exec .wdataRead (running 100) = .next (after .wdataRead (running 100)) ∧
      exec (.wdataWrite 1) (running 100) = .next (after (.wdataWrite 1) (running 100)) ∧
      exec .hardwareReset (running 100) = .next (after .hardwareReset (running 100)) ∧
      exec .halt (busyWith .arm) = .next (after .halt (busyWith .arm)) := ⟨rfl, rfl, rfl, rfl, rfl⟩

set_option maxRecDepth 8000 in
/-- For DataPort. -/
theorem test_data_port_witness :
    locate 0x000A = .outside ∧
    (let s := { State.reset with win := { State.reset.win with pointer := 0x0080 } }
     writeByte (locate s.win.pointer) 1 s = some { s with accept := put s.accept 0 ⟨1, 0, 0, 0⟩ }) ∧
    (let s := { State.reset with win := { State.reset.win with pointer := 0x000A } }
     writeByte (locate s.win.pointer) 1 s = none) := by decide

/-- For WindowLayout. -/
theorem test_window_layout_witness :
    (running 0).boxes[(0 : Fin 24)] = .tx (txIn (.scheduled true) .loaded) ∧
      (running 0).boxes[(23 : Fin 24)] = .rx (RxMailbox.fresh .keep) ∧ (0x5F : Fin 128) < 0x60 ∧ (0x40 : Fin 128) ≤ 0x5F ∧
      (0x1F : Fin 128) < 0x20 := by decide

/-- For WindowWrites. A host point whose fired mark is set keeps it through a write. -/
theorem test_stored_write_witness :
    (∀ b, WindowByte.point 0 2 ≠ .status b) ∧ (∀ n b, WindowByte.point 0 2 ≠ .node n b) ∧
      (writeByte (.point 0 2) 0xFF State.reset).isSome = true ∧
      (let s := { State.reset with points := put State.reset.points 0 ⟨true, true, 5, true⟩ }
       (writeByte (.point 0 0) 0x00 s).map (fun t => t.points[(0 : Fin 4)]) = some ⟨false, true, 5, true⟩) := by decide

/-- For StatusAndNodeTableWrites. -/
theorem test_status_and_node_witness :
    ((7 : Fin 16).val < 8 ∧ (0xFE : Byte).getLsbD 0 = false ∧ (0x01 : Byte).getLsbD 0 = true ∧ 9 ≤ (9 : Fin 16).val) ∧
      (6 : Fin 8) ≠ 7 := by decide

/-- For DirectRegisters. -/
theorem test_snapshot_witness :
    { (running 0) with timer := ⟨0x3FFF, 41, none, false⟩ }.timer.position < 0x4000 := by decide

/-- For DirectRegisters. -/
theorem test_direct_registers_witness :
    (0x12 : BusAddress) ∈ [0x03#5, 0x04, 0x08, 0x0D, 0x0E, 0x0F, 0x10, 0x12] ∧ 0x13 ≤ (0x13 : BusAddress).toNat ∧
      0x13 ≤ (0x1F : BusAddress).toNat := by decide

/-- For LineAndOutputs. -/
theorem test_line_busy_and_idle_witness :
    ((inLink .listen).link.state ≠ .off ∧ (inLink .listen).line.level = .idle) ∧
    { inLink .listen with line := ⟨.heldLow, 0, false⟩ }.line.level = .heldLow := by decide

/-- For CharacterByAssemblyState. The states of the frame assembly, with no slot and with a buffer of 0, 39 and 40
bytes. -/
theorem test_character_witness : ∀ r ∈ [Receiver.hunting, ⟨.inFrame, List.replicate 39 0, 40, none⟩,
      ⟨.inFrame, List.replicate 40 0, 41, none⟩, ⟨.escaped, List.replicate 39 0, 41, none⟩,
      ⟨.escaped, List.replicate 40 0, 42, none⟩],
    let s := hearing r (inLink .listen)
    WaitOk s ∧ s.link.state ≠ .off ∧ s.line.level = .character ∧ s.tx = none ∧ (∀ sl ∈ s.seq.slot, sl.follows = false) := by
  decide

/-- For CharacterByAssemblyState. The characters of each clause, at the marks of reset. -/
theorem test_character_values_witness :
    (0x55 : Byte) ≠ resetParams.om ∧ isMark resetParams 0x55 = false ∧
    (resetParams.es ≠ resetParams.om ∧ resetParams.es ≠ resetParams.cm ∧ resetParams.cm ≠ resetParams.om) ∧
    (isMark resetParams 0xC5 = true ∧ (0x3A : Byte) = ~~~0xC5) ∧ (List.replicate 39 (0 : Byte)).length < 40 ∧
    40 ≤ (List.replicate 40 (0 : Byte)).length ∧ checkFrame (List.replicate 39 0) = .invalid .lenErr ∧
    (isMark resetParams (~~~0x99) = false ∧ (0x99 : Byte) ≠ resetParams.om ∧ isMark resetParams (~~~resetParams.om) = false) := by
  decide

/-- For AssemblyAbandoned. A stop-bit error and the gap timer, with no slot and with a RECEIVE slot that follows the frame. -/
theorem test_assembly_abandoned_witness : ∀ slot ∈ [none, some (rxSlot .receiving false), some (rxSlot .receiving true)],
    let s := { hearing ⟨.inFrame, [], 1, none⟩ (running 210) with seq := ⟨1, slot⟩ }
    let u := { s with line := ⟨.idle, 1, true⟩, rx := ⟨.escaped, [7], 3, some 1⟩ }
    (s.link.state ≠ .off ∧ s.tx = none ∧ s.line.level = .character ∧ s.rx.assembly ≠ .hunt) ∧
      (u.link.state ≠ .off ∧ u.tx = none ∧ u.rx.gap = some 1 ∧ u.rx.assembly ≠ .hunt) := by decide

/-- For AssemblyAbandoned. -/
theorem test_assembly_hunting_witness :
    let s := hearing Receiver.hunting (running 210)
    s.link.state ≠ .off ∧ s.tx = none ∧ s.line.level = .character ∧ s.rx.assembly = .hunt := by decide

/-- For SentFrameIsHeard. -/
theorem test_sent_frame_witness :
    let f := { dataFrame .slotData 1 2 3 4 with payload := List.replicate 32 0xC5 }
    paramFault resetParams = none ∧ f.payload.length ≤ 32 ∧ (inLink .listen).params = resetParams ∧
      (inLink .listen).link.state ≠ .off ∧ (inLink .listen).tx = none ∧ (inLink .listen).line.level = .idle ∧
      (inLink .listen).rx.assembly = .hunt ∧ (csFrame 1 9 300).payload.length = 5 := by decide

/-- For LineAndOutputs. -/
theorem test_readback_witness :
    let s := hearing Receiver.hunting (sending .cycleStart .event)
    s.tx = some ⟨.cycleStart, [0xC5, 0xD9], 0, false⟩ ∧ s.link.state ≠ .off ∧ s.line.level = .character ∧
      [(0xC5 : Byte), 0xD9][0]? = some 0xC5 ∧ (0xC4 : Byte) ≠ 0xC5 := by decide

set_option maxRecDepth 8000 in
/-- For ReceiveSlotTakesFrame. A frame of node 17 and one of node 9 in each sub-state of the receive slot. -/
theorem test_receive_slot_witness : ∀ f ∈ [dataFrame .slotData 0 17 3 1, dataFrame .slotData 20 17 3 1, dataFrame .slotData 255 9 3 1],
    ∀ body ∈ [(ReceiveSub.awaiting, false), (.receiving, false), (.receiving, true), (.done, false)],
    let s := closing f 9 { running 210 with seq := ⟨1, some (rxSlot body.1 body.2)⟩ }
    ClosingMark f s ∧ WaitOk s ∧ s.link.state = .running ∧ f.kind ≠ .cycleStart ∧ s.seq.slot = some (rxSlot body.1 body.2) ∧
      s.boxes[(6 : Fin 24)] = .rx (RxMailbox.fresh .keep) := by decide

/-- For ReceiveSlotTakesFrame. The frames of `test_receive_slot_witness` by destination: this node, another node, all
nodes. -/
theorem test_receive_slot_addresses_witness :
    ForThisNode (dataFrame .slotData 0 17 3 1) (running 210) ∧ ¬ForThisNode (dataFrame .slotData 20 17 3 1) (running 210) ∧
      ForThisNode (dataFrame .slotData 255 9 3 1) (running 210) ∧ (17 : Byte) = (rxSlot .awaiting false).source ∧
      (9 : Byte) ≠ (rxSlot .awaiting false).source := by decide

/-- For DeliveryByStateAndPolicy. The states and policies of a delivery, each with a frame that is a repeat and one that
is not. -/
theorem test_delivery_witness :
    (heldBox.nextPresent = true ∧ heldBox.next.source = 17 ∧ heldBox.next.sequence = 41) ∧
    ((rxIn .keep .full).nextPresent = false ∧ (rxIn .keep .full).contentValid = true ∧ (rxIn .keep .full).content.source = 0) ∧
    (rxIn .keep .empty).state = .empty ∧ ((rxIn .overwrite .full).state = .full ∧ (rxIn .overwrite .full).policy = .overwrite) ∧
    ((rxIn .keep .held).state = .held ∧ (rxIn .keep .held).nextPresent = false) ∧ (heldBox.policy = .keep) ∧
    { heldBox with policy := .overwrite }.policy = .overwrite := by decide

set_option maxRecDepth 8000 in
/-- For FramesOutsideReceiveSlots. -/
theorem test_frames_outside_witness :
    (∀ f ∈ [dataFrame .eventData 12 30 5 1, dataFrame .eventData 12 41 7 1, dataFrame .eventData 20 30 5 1,
        dataFrame .eventData 12 30 9 1, dataFrame .slotData 255 30 5 1],
      let s := closing f 9 { routing with queue := ⟨[], none, false⟩ }
      ClosingMark f s ∧ WaitOk s ∧ f.kind ≠ .cycleStart ∧ s.link.state = .running ∧ openWindowOpen s = true) ∧
    EntryMatches routing.accept[(0 : Fin 16)] (dataFrame .eventData 12 30 5 1) ∧
    (EntryMatches routing.accept[(3 : Fin 16)] (dataFrame .eventData 12 41 7 1) ∧
      ∀ k : Fin 16, k < 3 → ¬EntryMatches routing.accept[k] (dataFrame .eventData 12 41 7 1)) ∧
    (∀ n : Fin 16, ¬EntryMatches routing.accept[n] (dataFrame .eventData 12 30 9 1)) ∧
    routing.boxes[(4 : Fin 24)] = .tx (txIn .event .free) ∧ routing.boxes[(8 : Fin 24)] = .rx (RxMailbox.fresh .keep) := by
  decide

set_option maxRecDepth 8000 in
/-- For FramesOutsideReceiveSlots. -/
theorem test_frames_outside_running_witness :
    let f := dataFrame .eventData 0 30 5 1
    let s := closing f 9 (inLink .listen)
    ClosingMark f s ∧ WaitOk s ∧ s.link.state ≠ .running ∧ s.seq.slot = none := by decide

set_option maxRecDepth 8000 in
/-- For MasterConflict. -/
theorem test_master_conflict_witness : ∀ l ∈ [LinkState.starting, .running],
    let f := csFrame 5 9 300
    let u := inLink l
    let s := closing f 14 { u with params := { u.params with role := 1 } }
    ClosingMark f s ∧ f.kind = .cycleStart ∧ s.params.role = 1 ∧ s.link.state = l := by decide

set_option maxRecDepth 8000 in
/-- For FollowerStartsFromListen. A frame of the active bank, of an ARMED shadow, and of neither, at the least and the
largest cycle length. -/
theorem test_follower_start_witness :
    (let f := csFrame 5 9 300
     let s := closing f 14 { inLink .listen with sched := (running 0).sched }
     ClosingMark f s ∧ f.kind = .cycleStart ∧ s.params.role ≠ 1 ∧ s.link.state = .listen ∧ s.seq.slot = none ∧
       NamesSchedule (bankOf s.sched.active s) f) ∧
    (let f := csFrame 5 9 64
     let u := inLink .listen
     let s := closing f 14 { u with sched := { u.sched with bankB := bankWith 64 { txEntry with start := 28 }, shadow := .armed } }
     ClosingMark f s ∧ ¬NamesSchedule (bankOf s.sched.active s) f ∧ s.sched.shadow = .armed ∧
       NamesSchedule (bankOf s.sched.active.other s) f) ∧
    (let f := csFrame 5 8 16383
     let s := closing f 14 (inLink .listen)
     ClosingMark f s ∧ ¬NamesSchedule (bankOf s.sched.active s) f ∧ ¬(s.sched.shadow = .armed)) := by decide

set_option maxRecDepth 8000 in
/-- For FollowerResynchronises. The same three in RUNNING and ALIGN, for resynchronisation at positions that call for an
early boundary and that do not. -/
theorem test_follower_resync_witness :
    (let f := csFrame 42 9 200
     ClosingMark f earlyBoundary ∧ f.kind = .cycleStart ∧ earlyBoundary.params.role ≠ 1 ∧ earlyBoundary.link.state = .running ∧
       earlyBoundary.timer.length = some 200 ∧ NamesSchedule (bankOf earlyBoundary.sched.active earlyBoundary) f) ∧
    (let f := csFrame 41 8 64
     let u := running 14
     let s := closing f 14 { u with sched := { u.sched with bankB := { bankWith 64 { txEntry with start := 28 } with id := 8 }, shadow := .armed } }
     ClosingMark f s ∧ s.timer.length = some 300 ∧ ¬NamesSchedule (bankOf s.sched.active s) f ∧ s.sched.shadow = .armed ∧
       NamesSchedule (bankOf s.sched.active.other s) f) ∧
    (let f := csFrame 41 8 16383
     let s := closing f 14 { running 17 with link := ⟨.align, false, 0⟩ }
     ClosingMark f s ∧ s.link.state = .align ∧ ¬NamesSchedule (bankOf s.sched.active s) f ∧ ¬(s.sched.shadow = .armed)) := by
  decide

/-- A follower STOPPING with a frame SENDING, all of whose readbacks matched or that collided, at the position of `sending`. -/
def stopping (r : Requester) (mode : TxMode) (index : Nat) (collided : Bool) : State :=
  let s := sending r mode
  { s with
    link := ⟨.stopping, false, 0⟩, cmd := (busyWith .stop).cmd
    tx := some { requester := r, chars := [0xC5, 0xD9], index := index, collided := collided } }

/-- For PositionAdvances. The last CT before a boundary, the CT to 28 with a cycle start seen, and a CT in STOPPING with a
readback to come. -/
theorem test_position_advances_witness :
    ((running 298).timer.length = some 300 ∧ (running 298).timer.position + 1 < 300 ∧ (running 298).timer.position ≠ 27 ∧
      (running 298).link.state ≠ .stopping) ∧
    ((running 27).timer.position = 27 ∧ (running 27).timer.csSeen = true ∧ (running 27).link.state ≠ .stopping) ∧
    (let s := stopping .cycleStart .event 1 false
     s.timer.length = some 300 ∧ s.timer.position + 1 < 300 ∧ s.timer.position ≠ 27 ∧ FrameGoesOn s) := by decide

/-- `running 27` with the CS-seen mark clear and a missed count; mailbox 0's entry opens at 28. -/
def unseen (missed : Nat) : State :=
  let s := running 27
  { s with
    timer := { s.timer with csSeen := false }, sync := { s.sync with missed := missed }
    sched := { s.sched with bankA := bankWith 300 { txEntry with start := 28 } } }

/-- For WindowEndCheck. The missed start below the limit, at it and with the count at its limit; a cycle start seen; a master. -/
theorem test_window_end_witness :
    (∀ missed ∈ [0, 1, 2, 3], let u := unseen missed
      u.timer.length = some 300 ∧ 28 < 300 ∧ u.timer.position = 27 ∧ u.params.role ≠ 1 ∧ u.timer.csSeen = false ∧
        FrameGoesOn u ∧ u.params.syncLossLimit.toNat = 3 ∧ u.link.state = .running) ∧
    (scheduleOf (unseen 0))[(unseen 0).seq.nextIndex]? = some { txEntry with start := 28 } ∧
    ((running 27).timer.length = some 300 ∧ (running 27).timer.position = 27 ∧ (running 27).timer.csSeen = true ∧
      (running 27).link.state ≠ .stopping) ∧
    (let s := { unseen 0 with params := { (unseen 0).params with role := 1 } }
     s.timer.length = some 300 ∧ s.timer.position = 27 ∧ s.params.role = 1 ∧ s.link.state ≠ .stopping) := by decide

/-- A master in the last CT of cycle 41, with a shadow state, SILENT and a line level. -/
def master (shadow : ShadowState) (silent : Bool) (level : LineLevel) : State :=
  let u := running 299
  { u with
    params := { u.params with role := 1 }, link := ⟨.running, silent, 0⟩, line := ⟨level, 0, false⟩
    sched := { u.sched with shadow := shadow, bankB := { bankWith 400 txEntry with id := 8 } } }

set_option maxRecDepth 8000 in
/-- For CycleBoundary. A follower, and a master that swaps, launches, finds the line busy, or is SILENT: what each leaves. -/
theorem test_cycle_boundary_witness :
    (∀ s ∈ [running 299, master .armed false .idle, master .idle false .character, master .idle true .idle],
      s.timer.length = some (s.timer.position + 1) ∧ validate s.boxes (bankOf s.sched.active s) = none ∧ FrameGoesOn s) ∧
    (let t := after .cycleBoundary (master .armed false .idle)
     t.sched.active = .b ∧ t.timer.length = some 400 ∧ t.irq.flags = 0x0041 ∧ t.irq.causes.swap = true ∧
       t.tx.map (·.requester) = some .cycleStart) ∧
    (let t := after .cycleBoundary (master .idle false .character)
     t.tx = none ∧ t.irq.flags = 0x0801 ∧ t.irq.causes.csBlocked = true) ∧
    (let t := after .cycleBoundary (master .idle true .idle)
     t.tx = none ∧ t.irq.flags = 0x0001) := by decide

/-- For StartupSilenceCompletes. The count that the next CT brings to the length plus 28. -/
theorem test_startup_witness :
    let u := inLink .starting
    let s := { u with
      params := { u.params with role := 1 }, sched := (running 0).sched, boxes := (running 0).boxes
      link := ⟨.starting, false, 327⟩ }
    s.link.state = .starting ∧ s.line.level = .idle ∧ s.tx = none ∧ validate s.boxes (bankOf s.sched.active s) = none ∧
      (bankOf s.sched.active s).length.toNat + 28 ≤ s.link.silence + 1 := by decide

/-- For TransmitSlotOpens. An entry that opens at 60, and one at 28 beside a missed start that does not lose sync: the mailbox
LOADED, SILENT clear, the line idle or busy. -/
theorem test_transmit_slot_witness :
    (∀ p ∈ [(running 59, txEntry), (unseen 1, { txEntry with start := 28 })],
      let s := p.1
      let e := p.2
      s.timer.length = some 300 ∧ s.timer.position + 1 < 300 ∧ s.timer.position + 1 = e.start.toNat ∧ SyncHolds s ∧
        s.link.state = .running ∧ s.tx = none ∧ s.seq.slot = none ∧ (scheduleOf s)[s.seq.nextIndex]? = some e ∧
        e.kind = 0x01 ∧ s.timer.cycle.toNat % 2 ^ e.exponent.toNat = e.phase.toNat ∧ e.mailbox.toNat = (0 : Fin 24).val ∧
        s.boxes[(0 : Fin 24)] = .tx (txIn (.scheduled true) .loaded)) ∧
    (running 59).link.silent = false ∧ (running 59).line.level = .idle ∧
    { running 59 with line := ⟨.character, 0, false⟩ }.line.level ≠ .idle := by decide

set_option maxRecDepth 8000 in
/-- For TransmitSlotOpens. The frame of 10 characters fits a window of 16, and one of 17 characters does not. -/
theorem test_transmit_slot_length_witness :
    (mailboxFrame .slotData (txIn (.scheduled true) .loaded) (running 59)).stuffedLength resetParams ≤ txEntry.window.toNat ∧
    (let b := txIn (.scheduled true) .loaded
     txEntry.window.toNat <
       (mailboxFrame .slotData { b with content := { b.content with length := 7 } } (running 59)).stuffedLength resetParams) := by
  decide

/-- For HeadBackoff. A waiting head one CT before its backoff, and at it. -/
theorem test_head_backoff_witness :
    let b : TxMailbox := { txIn .event .queued with content := { TxContent.zero with length := 4 } }
    (let s := waiting 320 0 6
     s.timer.length = some 400 ∧ s.timer.position + 1 < 400 ∧ s.timer.position ≠ 27 ∧ WaitOk s ∧ s.queue.wait = some 6 ∧
       s.queue.entries.head? = some 10 ∧ s.boxes[(10 : Fin 24)] = .tx b ∧ s.seq.slot = some window ∧
       s.timer.position + 1 < window.finish ∧
       ∀ e ∈ (bankOf s.sched.active s).entries.toList, e.start.toNat ≠ s.timer.position + 1) ∧
    (let s := waiting 347 0 7
     WaitOk s ∧ s.queue.wait = some 7 ∧ 2 + s.params.address.toNat % 16 + 16 * b.retry ≤ 7) := by decide

set_option maxRecDepth 8000 in
/-- For HeadBackoff. The head's frame of 14 characters ends with the window from 346, and one past it from 347. -/
theorem test_head_fit_witness :
    let b : TxMailbox := { txIn .event .queued with content := { TxContent.zero with length := 4 } }
    346 + (mailboxFrame .eventData b (waiting 346 0 7)).stuffedLength resetParams ≤ window.finish ∧
    window.finish < 347 + (mailboxFrame .eventData b (waiting 347 0 7)).stuffedLength resetParams := by decide

/-- For TransmissionCompletes and TransmissionCollides. Transmissions of the three requesters, all matched and collided,
with the mailbox of each. -/
theorem test_transmission_ends_witness :
    (∀ x ∈ [(⟨.cycleStart, [0xC5], 1, false⟩ : Transmission), ⟨.slot 0, [0xC5], 1, false⟩, ⟨.event 10, [0xC5], 1, false⟩],
      x.collided = false ∧ x.chars.length ≤ x.index ∧ x.allMatched = true) ∧
    (∀ x ∈ [(⟨.cycleStart, [0xC5], 0, true⟩ : Transmission), ⟨.slot 0, [0xC5], 0, false⟩, ⟨.event 10, [0xC5], 0, true⟩],
      (x.collided = true ∨ x.index < x.chars.length) ∧ x.allMatched = false) ∧
    (sending (.slot 0) (.scheduled true)).link.state ≠ .stopping ∧
    ((sending (.slot 0) (.scheduled true)).boxes[(0 : Fin 24)] = .tx (txIn (.scheduled true) .locked) ∧
      (txIn (.scheduled true) .locked).mode = .scheduled true) ∧
    (let s := waiting 330 1 0
     s.boxes[(10 : Fin 24)] = .tx { txIn .event .queued with content := { TxContent.zero with length := 4 }, retry := 1 } ∧
       s.queue.entries = 10 :: [11] ∧ (10 : Fin 24) ∉ [(11 : Fin 24)] ∧ s.params.retryLimit.toNat ≤ 1) ∧
    (0 < (waiting 330 0 0).params.retryLimit.toNat) := by decide

/-- For StoppingEnds. Each requester, sent and collided, below the retry limit and at it, as a happening of its own and with
the end of a CT. -/
theorem test_stopping_ends_witness :
    (∀ r ∈ [Requester.cycleStart, .slot 0], ∀ p ∈ [(2, false), (1, false), (1, true)],
      let s := stopping r (.scheduled true) p.1 p.2
      s.tx = some ⟨r, [0xC5, 0xD9], p.1, p.2⟩ ∧ s.link.state = .stopping ∧ s.timer.length ≠ none ∧
        s.boxes[(0 : Fin 24)] = .tx (txIn (.scheduled true) .locked)) ∧
    (∀ retry ∈ [2, 3], let s := stopping (.event 0) .event 1 true
      let u := { s with
        boxes := put s.boxes 0 (.tx { txIn .event .locked with retry := retry }), queue := ⟨[0, 4], none, false⟩ }
      u.boxes[(0 : Fin 24)] = .tx { txIn .event .locked with retry := retry } ∧ u.queue.entries = 0 :: [4] ∧
        (0 : Fin 24) ∉ [(4 : Fin 24)] ∧ (retry < u.params.retryLimit.toNat ↔ retry = 2) ∧
        (after .positionReached u).link.state = .off ∧ (after .positionReached u).cmd.result = .ok) := by decide

/-- For NodeOutcomes. Two entries for node 17, of which the lower is followed, by the states of R149 and R150. -/
theorem test_node_outcomes_witness :
    let s := { running 100 with nodes := put (put State.reset.nodes 2 ⟨1, 17, 3, .late, 2, 203⟩) 5 ⟨1, 17, 2, .absent, 2, 0⟩ }
    (s.nodes[(2 : Fin 16)].valid ≠ 0 ∧ s.nodes[(2 : Fin 16)].address = 17) ∧
    (∀ k : Fin 16, k < 2 → ¬(s.nodes[k].valid ≠ 0 ∧ s.nodes[k].address = 17)) ∧
    (s.nodes[(2 : Fin 16)].state ≠ .absent ∧ s.nodes[(2 : Fin 16)].misses + 1 = s.nodes[(2 : Fin 16)].threshold) ∧
    (∀ k : Fin 16, ¬(s.nodes[k].valid ≠ 0 ∧ s.nodes[k].address = 18)) := by decide

/-- A running state with a command waiting meets every invariant, and its step answers a next state. -/
def kept : State := { running 59 with pending := [.positionReached] }

/-- For MailboxesAndNodesKept. -/
theorem test_invariants_witness_records :
    RxStatesOk kept ∧ LengthsOk kept ∧ PendingCommitOk kept ∧ NodesOk kept := by decide

/-- For ControllerKept. -/
theorem test_invariants_witness_controller :
    CommandUnitOk kept ∧ TransmitterOk kept ∧ TimerOk kept ∧ ParamsOk kept ∧ RoleOk kept ∧ MissedOk kept ∧ DeviationOk kept := by
  decide

/-- For LocksAndQueueKept. -/
theorem test_invariants_witness_queue :
    CommandUnitOk kept ∧ TransmitterOk kept ∧ LocksOk kept ∧ QueueOk kept ∧ WaitOk kept := by decide

/-- For BanksTimerAndAssemblyKept. -/
theorem test_invariants_witness_timer :
    CommandUnitOk kept ∧ TransmitterOk kept ∧ AssemblyOk kept ∧ BanksOk kept ∧ TimerOk kept ∧ SlotOk kept := by
  refine ⟨?_, ?_, ?_, ?_, ?_, ?_⟩ <;> decide

/-- For the four invariants: the step. -/
theorem test_invariants_witness_step : step kept = .next (after .positionReached (running 59)) := rfl

/-- For FlagsStayUntilCleared. -/
theorem test_flags_stay_witness :
    let s := { running 100 with irq := { (running 100).irq with flags := 0x2001 } }
    Instr.wdataRead.wellFormed = true ∧ flagSet .cycle s = true ∧ flagSet .winFault s = true ∧
      (0x02 : Byte).getLsbD (Flag.cycle.bit % 8) = false := by decide

set_option maxRecDepth 8000 in
/-- For FramesBeginOnlyInRunning. The entry of `running` opens at 60 and its frame begins. -/
theorem test_frames_begin_witness :
    WaitOk (running 59) ∧ (running 59).tx = none ∧ (after .positionReached (running 59)).tx ≠ none := by decide

/-- For HeldAndConfiguredStateStays. -/
theorem test_held_witness :
    let s := { boxed (.rx heldBox) with link := ⟨.listen, false, 0⟩ }
    (s.link.state ≠ .off ∧ s.boxes[(23 : Fin 24)] = .rx heldBox ∧ heldBox.state = .held ∧ s.sched.shadow = .idle ∧
      s.cmd.arg0.toNat ≠ (22 : Fin 24).val) ∧
    ((Instr.cmdWriteLost 0x25).wellFormed = true ∧ { s with cmd := (busyWith .arm).cmd }.cmd.inFlight ≠ none) := by decide

/-- For LayoutsAndCodes. The sync record at the ends of its range, and the byte that shows a deviation of -30. -/
theorem test_record_layouts_witness :
    let s (d : Int) : State := { State.reset with sync := { State.reset.sync with missed := 7, deviation := d } }
    (∀ d ∈ [(-128 : Int), -30, 127], DeviationOk (s d) ∧ (s d).sync.missed < 256) ∧
      readByte (s (-30)) (.status 12) = 0xE2 := by decide

/-- The bus port with chip select asserted, in a read, a write or both. -/
def port (read write : Bool) (a : BusAddress) : BusPort := { select := true, read := read, write := write, address := a }

/-- For LineAndOutputs and HardwareResetValues. The outputs while SENDING and with the transmitter IDLE (R4), and the data lines:
a read of LSTAT in RUNNING, of the window byte at the pointer, and no read, after a WDATA read too (R171). -/
theorem test_outputs :
    outputs (port false false 0) (sending .cycleStart .event) = ⟨some 0xC5, true, false, none⟩ ∧
      (outputs (port false false 0) (running 5)).de = false ∧ (outputs (port false false 0) (running 5)).txd = none ∧
      (outputs (port true false 0x08) (running 5)).data = some 4 ∧
      (let s := { State.reset with win := { State.reset.win with pointer := 0x0004 } }
       (outputs (port true false 0x07) s).data = some 0xC5 ∧ (after .wdataRead s).win.readData = some 0xC5 ∧
         (outputs (port false true 0x07) (after .wdataRead s)).data = none ∧
         (outputs (port true true 0x07) s).data = none) := by decide

/-- For AssemblyAbandoned. A good character in each assembly, in a RECEIVE slot that follows the frame; the characters are those
of `test_character_values_witness`. -/
theorem test_assembly_character_witness : ∀ extended ∈ [false, true], ∀ r ∈ [(⟨.inFrame, List.replicate 39 0, 40, none⟩ : Receiver),
      ⟨.inFrame, List.replicate 40 0, 41, none⟩, ⟨.escaped, List.replicate 40 0, 42, none⟩],
    let s := { hearing r (running 210) with seq := ⟨1, some (rxSlot .receiving extended)⟩ }
    WaitOk s ∧ s.link.state ≠ .off ∧ s.line.level = .character ∧ s.tx = none ∧
      s.seq.slot = some (rxSlot .receiving extended) ∧ (rxSlot .receiving extended).body = .receive .receiving extended := by
  decide

/-- The bytes of a frame with a header and payload given and its CRC added. -/
def sealed (bytes : List Byte) : List Byte := bytes ++ [hiByte (crc bytes), loByte (crc bytes)]

set_option maxRecDepth 8000 in
/-- For FailedFrameCounted. A run of bytes for each check of R19, at its bounds. -/
theorem test_failed_frame_witness :
    (∀ bytes ∈ [[], List.replicate 7 (0 : Byte), [0, 0, 2, 0, 0, 33, 0, 0], [0, 0, 2, 0, 0, 1, 0, 0]],
      (bytes.length < 8 ∨ 8 ≤ bytes.length ∧ (32 < (bytes.getD 5 0).toNat ∨ bytes.length ≠ 8 + (bytes.getD 5 0).toNat)) ∧
        checkFrame bytes = .invalid .lenErr) ∧
    (let bytes : List Byte := [0, 0, 4, 0, 0, 0, 0, 0]
     bytes.length = 8 + (bytes.getD 5 0).toNat ∧ crc (bytes.take 6) ≠ bytes.getD 6 0 ++ bytes.getD 7 0 ∧
       checkFrame bytes = .invalid .crcErr) ∧
    (∀ kind ∈ [0x00#8, 0x04], let bytes := sealed [0, 0, kind, 0, 0, 0]
     bytes.length = 8 + (bytes.getD 5 0).toNat ∧ crc (bytes.take 6) = bytes.getD 6 0 ++ bytes.getD 7 0 ∧
       checkFrame bytes = .invalid .formatErr) ∧
    (∀ head ∈ [[255#8, 1, 1, 0, 5, 4, 0, 5, 9, 1], [254, 1, 1, 0, 5, 5, 0, 5, 9, 1, 44], [255, 1, 1, 0, 5, 5, 0, 5, 0, 1, 44],
        [255, 1, 1, 0, 5, 5, 0, 5, 9, 0, 63], [255, 1, 1, 0, 5, 5, 0, 5, 9, 64, 0]],
      let bytes := sealed head
      bytes.length = 8 + (bytes.getD 5 0).toNat ∧
        crc (bytes.take (bytes.length - 2)) = bytes.getD (bytes.length - 2) 0 ++ bytes.getD (bytes.length - 1) 0 ∧
        checkFrame bytes = .invalid .formatErr) := by decide

set_option maxRecDepth 8000 in
/-- For EarlyBoundaryAndSwap. The early boundary of the worked example, with each kind of open slot. -/
theorem test_early_boundary_witness : ∀ slot ∈ [none, some { window with finish := 198 }, some (rxSlot .awaiting false),
      some (rxSlot .receiving false), some (rxSlot .receiving true), some (rxSlot .done false),
      some { window with finish := 198, body := .transmit }],
    let f := csFrame 42 9 200
    let s := { earlyBoundary with seq := ⟨0, slot⟩ }
    ClosingMark f s ∧ f.kind = .cycleStart ∧ s.params.role ≠ 1 ∧ s.link.state = .running ∧ s.timer.length = some 200 ∧
      s.rx.count + 1 ≤ 28 ∧ s.rx.count + 1 ≤ s.timer.position ∧ 200 ≤ 2 * (s.timer.position - (s.rx.count + 1)) ∧
      s.link.silent = false ∧ ∀ e ∈ scheduleOf s, 28 ≤ e.start.toNat := by decide

/-- A follower that hears the frame of its ARMED shadow, of one entry from 40 on, at position 30 of 300. -/
def swapping (length : Word) (slot : Option Slot) : State :=
  let u := running 30
  closing (csFrame 41 8 length) 14 { u with
    sched := { u.sched with bankB := { bankWith length { txEntry with start := 40, window := 10 } with id := 8 }, shadow := .armed }
    seq := ⟨0, slot⟩ }

set_option maxRecDepth 8000 in
/-- For EarlyBoundaryAndSwap. A swap with no slot, and with a slot to 64 that a length of 64 does not reach and one of
65 does. -/
theorem test_swap_witness :
    let slot : Slot := { rxSlot .awaiting false with start := 28, finish := 64 }
    (∀ p ∈ [(64#16, none), (64, some slot), (65, some slot)],
      let f := csFrame 41 8 p.1
      let s := swapping p.1 p.2
      ClosingMark f s ∧ f.kind = .cycleStart ∧ s.params.role ≠ 1 ∧ s.link.state = .running ∧ s.timer.length = some 300 ∧
        ¬NamesSchedule (bankOf s.sched.active s) f ∧ s.sched.shadow = .armed ∧
        NamesSchedule (bankOf s.sched.active.other s) f ∧ s.rx.count + 1 < slot.finish ∧
        2 * (s.timer.position - (s.rx.count + 1)) < 300 ∧ ∀ e ∈ scheduleOf s, 28 ≤ e.start.toNat) ∧
      (after (.characterComplete 0xD9) (swapping 65 (some slot))).seq = ⟨1, some slot⟩ ∧
      (after (.characterComplete 0xD9) (swapping 64 (some slot))).seq = ⟨0, none⟩ := by decide

/-- `running 59`, or at another position before its start, with an entry of a kind, active in the cycle or not, and a slot. -/
def reaching (kind exponent : Byte) (start : Word) (slot : Option Slot) : State :=
  let u := running (start.toNat - 1)
  let e := { txEntry with start := start, kind := kind, exponent := exponent, mailbox := 6, source := 17 }
  { u with
    timer := { u.timer with csSeen := false }
    sched := { u.sched with bankA := bankWith 300 e }
    seq := ⟨0, slot⟩ }

/-- For EntryReached. A RECEIVE and an OPEN entry at 60 and at 28, active and not, with no slot and with an extended one; and
RUNNING or not. -/
theorem test_entry_reached_witness : ∀ p ∈ [(0x02#8, 0x00#8, 28#16, LinkState.running), (0x03, 0x00, 60, .running),
      (0x03, 0x01, 28, .running), (0x02, 0x00, 60, .align)], ∀ slot ∈ [none, some (rxSlot .receiving true)],
    let kind := p.1
    let exponent := p.2.1
    let start := p.2.2.1
    let s := { reaching kind exponent start slot with link := ⟨p.2.2.2, false, 0⟩ }
    let e : Entry := { start := start, window := 16, kind := kind, exponent := exponent, phase := 0, mailbox := 6, source := 17 }
    s.timer.length = some 300 ∧ s.timer.position + 1 < 300 ∧ s.timer.position + 1 = e.start.toNat ∧ SyncHolds s ∧
      FrameGoesOn s ∧ (scheduleOf s)[s.seq.nextIndex]? = some e ∧
      (∀ sl ∈ s.seq.slot, sl.body = .receive .receiving true) ∧
      (s.timer.cycle.toNat % 2 ^ e.exponent.toNat = e.phase.toNat ↔ exponent = 0) := by decide

/-- `running 59` with a slot's frame SENDING that has all its readbacks, or collided. -/
def ending (index : Nat) (collided : Bool) : State :=
  let s := running 59
  { s with
    tx := some { requester := .slot 1, chars := [0xC5, 0xD9], index := index, collided := collided }
    boxes := put s.boxes 1 (.tx (txIn (.scheduled false) .locked)) }

set_option maxRecDepth 8000 in
/-- For EntryReached. A frame that ends as offset 60 is reached ends before the TRANSMIT slot there opens and begins its own. -/
theorem test_frame_ends_at_offset :
    (∀ p ∈ [(2, false), (0, true)], let s := ending p.1 p.2
      s.tx.isSome = true ∧ s.link.state ≠ .stopping ∧ s.timer.length ≠ none ∧ s.line.ctIdle = false ∧
        (after .positionReached s).tx.map (·.requester) = some (.slot 0)) ∧
    txHas (after .positionReached (ending 2 false)) 1 (fun b => b.state == .free && b.lastOutcome == .sent) = true ∧
    txHas (after .positionReached (ending 0 true)) 1 (fun b => b.state == .loaded && b.lastOutcome == .collided) = true := by
  decide

/-- For SlotEnds. Each kind of slot, at its end. -/
theorem test_slot_ends_witness : ∀ sl ∈ [{ window with finish := 220 }, { window with finish := 220, body := .transmit },
      rxSlot .awaiting false, rxSlot .receiving false, rxSlot .done false, rxSlot .receiving true],
    let s := { running 219 with seq := ⟨1, some sl⟩ }
    s.timer.length = some 300 ∧ s.timer.position + 1 < 300 ∧ s.timer.position ≠ 27 ∧ FrameGoesOn s ∧ s.seq.slot = some sl ∧
      sl.finish = s.timer.position + 1 ∧ (scheduleOf s)[s.seq.nextIndex]? = none := by decide

/-- For HeadWaits. A state that meets all the conditions, and one that fails each; and commands after which a wait begins or
finds another head. -/
theorem test_head_waits_witness :
    (let s := waiting 323 0 7
     s.seq.slot = some window ∧ window.body = .openWindow ∧ s.link.state = .running ∧ s.link.silent = false ∧ s.tx = none ∧
       s.queue.entries.head? = some 10 ∧ txHas s 10 (fun b => b.state == .queued) = true ∧ s.queue.turnedAway = false ∧
       headMayWait s = true ∧ WaitOk s) ∧
    (∀ u ∈ [{ waiting 323 0 7 with seq := ⟨1, none⟩ }, { waiting 323 0 7 with link := ⟨.running, true, 0⟩ },
        { waiting 323 0 7 with link := ⟨.stopping, false, 0⟩ }, { waiting 323 0 7 with tx := (sending .cycleStart .event).tx },
        { waiting 323 0 7 with queue := ⟨[], none, false⟩ }, { waiting 323 0 7 with queue := ⟨[10], none, true⟩ }],
      headMayWait u = false) ∧
    (let s := { waiting 323 0 7 with cmd := { State.reset.cmd with arg0 := 10 } }
     WaitOk s ∧ (after .cancelEvent s).queue = ⟨[11], some 0, false⟩) := by decide

/-- The checks of one entry in the order of R46, each with its reason. -/
def entryChecks (boxes : Vector Mailbox 24) (b : Bank) (i : Nat) : List (Nat × Bool) :=
  let entry (i : Nat) : Entry := b.entries.toList.getD i
    { start := 0, window := 0, kind := 0, exponent := 0, phase := 0, mailbox := 0, source := 0 }
  let finish (i : Nat) : Nat := (entry i).start.toNat + (entry i).window.toNat
  let fits (e : Entry) : Bool := match boxes.toList[e.mailbox.toNat]? with
    | some (.tx t) => e.kind == 0x01 && t.mode != .event
    | some (.rx _) => e.kind == 0x02
    | none => false
  let e := entry i
  [(4, e.kind == 0x01 || e.kind == 0x02 || e.kind == 0x03), (5, 28 ≤ e.start.toNat),
   (6, (if e.kind = 0x03 then 16 else 10) ≤ e.window.toNat),
   (7, e.exponent.toNat ≤ 6 && e.phase.toNat < 2 ^ e.exponent.toNat), (8, e.kind == 0x03 || fits e),
   (9, e.kind != 0x02 || e.source.toNat ≤ 239), (10, i == 0 || finish (i - 1) ≤ (entry i).start.toNat)]

set_option maxRecDepth 8000 in
/-- For ValidationReason. One bank for each reason, at the bounds of R46 and R47. -/
theorem test_validation_reason_witness :
    let boxes := (running 0).boxes
    let ok := bankWith 64 { txEntry with start := 28, window := 32 }
    (∀ p ∈ [(1, { ok with id := 0, length := 63 }), (2, { ok with length := 63 }), (2, { ok with length := 16384 }),
        (3, { ok with count := 33 }), (11, bankWith 64 { txEntry with start := 28, window := 33 })],
      validate boxes p.2 = some ⟨p.1, 0xFF⟩) ∧
    (∀ p ∈ [(4, { txEntry with kind := 0x04 }), (5, { txEntry with start := 27 }), (6, { txEntry with window := 9 }),
        (6, { txEntry with kind := 0x03, window := 15 }), (7, { txEntry with exponent := 7 }), (7, { txEntry with phase := 1 }),
        (8, { txEntry with mailbox := 24 }), (8, { txEntry with kind := 0x02 }),
        (9, { txEntry with kind := 0x02, mailbox := 6, source := 240 })],
      let b := bankWith 300 p.2
      (entryChecks boxes b 0).find? (fun c => !c.2) = some (p.1, false) ∧ validate boxes b = some ⟨p.1, 0⟩) ∧
    (let b := { ok with count := 2, length := 300, entries := put ok.entries 1 { txEntry with start := 59 } }
     (∀ c ∈ entryChecks boxes b 0, c.2 = true) ∧ (entryChecks boxes b 1).find? (fun c => !c.2) = some (10, false) ∧
       validate boxes b = some ⟨10, 1⟩) ∧
    ((∀ c ∈ entryChecks boxes ok 0, c.2 = true) ∧ ok.length.toNat < 28 + 33 + 4 ∧ validate boxes ok = none) := by decide

/-- For CommandsWhileBusy, EntryReached and HeadWaits: the commands of their witnesses answer a next state. -/
theorem test_next_witness :
    (let s := { State.reset with cmd := { State.reset.cmd with lost := true } }
     exec .wdataRead s = .next (after .wdataRead s)) ∧
    exec .transmissionCompletes (ending 2 false) = .next (after .transmissionCompletes (ending 2 false)) ∧
    exec .transmissionCollides (ending 0 true) = .next (after .transmissionCollides (ending 0 true)) ∧
    (let s := { waiting 323 0 7 with cmd := { State.reset.cmd with arg0 := 10 } }
     exec .cancelEvent s = .next (after .cancelEvent s)) := ⟨rfl, rfl, rfl, rfl⟩

/-- `running` with an open slot, in the closing mark of a frame that names its bank. -/
def framed (role : Byte) (p : Nat) (sl : Slot) : State :=
  let s := running p
  closing (csFrame 41 9 300) 14 { s with params := { s.params with role := role }, seq := ⟨0, some sl⟩ }

set_option maxRecDepth 8000 in
/-- For CycleStartInSlot. Each kind of slot, on a master and on a follower that jumps forward, and one that jumps back. -/
theorem test_cycle_start_in_slot_witness :
    ∀ sl ∈ [window, rxSlot .awaiting false, rxSlot .receiving false, rxSlot .receiving true],
    ∀ c ∈ [(0x01#8, 3), (0x00, 3), (0x00, 164)],
      let f := csFrame 41 9 300
      let s := framed c.1 c.2 sl
      ClosingMark f s ∧ f.kind = .cycleStart ∧ s.link.state = .running ∧ s.seq.slot = some sl ∧ s.timer.length = some 300 ∧
        (s.params.role = 1 ∨ NamesSchedule (bankOf s.sched.active s) f ∧ s.rx.count + 1 < 28 ∧ s.rx.count + 1 < sl.finish ∧
          (∀ e ∈ scheduleOf s, 28 ≤ e.start.toNat)) ∧
        (s.timer.position < s.rx.count + 1 ∨ 2 * (s.timer.position - (s.rx.count + 1)) < 300) := by decide

set_option maxRecDepth 8000 in
/-- For CycleStartInSlot. Position 164 of 300 is the last at which a frame of 15 characters is no early boundary. -/
theorem test_cycle_start_slot_back :
    (framed 0 164 (rxSlot .receiving false)).rx.count + 1 = 15 ∧ 2 * (164 - 15) < 300 ∧ 300 ≤ 2 * (165 - 15) ∧
      (after (.characterComplete 0xD9) (framed 0 164 (rxSlot .receiving false))).seq.slot = some (rxSlot .awaiting false) ∧
      (after (.characterComplete 0xD9) (framed 1 164 (rxSlot .receiving true))).seq.slot = none := by decide

/-- A follower in the closing mark of a frame of 28 characters, with an entry at 28 as its next, at a position of 100. -/
def jumping (l : LinkState) (p next : Nat) (e : Entry) (id : Byte) (shadow : ShadowState) : State :=
  let u := running p
  closing (csFrame 41 id 100) 27 { u with
    link := ⟨l, false, 0⟩
    timer := { u.timer with length := if l = .listen then none else some 100 }
    sched := { u.sched with bankA := bankWith 100 e, bankB := { bankWith 100 e with id := 8 }, shadow := shadow }
    seq := ⟨next, none⟩ }

set_option maxRecDepth 8000 in
/-- For JumpReaches28. From LISTEN, by an early boundary and from 17; the active bank named, an ARMED shadow, and neither. -/
theorem test_jump_reaches_28_witness :
    ∀ l ∈ [(LinkState.listen, 0), (.align, 17), (.running, 17), (.running, 84)],
    ∀ b ∈ [(0x09#8, ShadowState.idle), (0x08, .armed), (0x07, .idle)],
      let f := csFrame 41 b.1 100
      let e := { txEntry with start := 28 }
      let s := jumping l.1 l.2 0 e b.1 b.2
      ClosingMark f s ∧ s.params.role ≠ 1 ∧ s.link.state = l.1 ∧ (l.1 ≠ .listen → s.timer.length = some 100) ∧
        s.rx.count + 1 = 28 ∧ s.timer.position = l.2 ∧ s.seq.slot = none ∧ (scheduleOf s)[0]? = some e ∧
        (b.1 = 9 ↔ NamesSchedule (bankOf s.sched.active s) f) ∧
        (b.1 = 8 ↔ s.sched.shadow = .armed ∧ NamesSchedule (bankOf s.sched.active.other s) f) := by decide

set_option maxRecDepth 8000 in
/-- For JumpReaches28. What the three banks leave of a TRANSMIT entry with a LOADED mailbox, and what RECEIVE and OPEN leave. -/
theorem test_jump_reaches_28 :
    let e := { txEntry with start := 28 }
    let leaves (e : Entry) (id : Byte) (shadow : ShadowState) : State :=
      after (.characterComplete 0xD9) (jumping .running 17 0 e id shadow)
    ((leaves e 9 .idle).tx.map (·.requester) = some (.slot 0) ∧ (leaves e 9 .idle).seq.nextIndex = 1) ∧
    ((leaves e 8 .armed).tx = none ∧ (leaves e 8 .armed).seq = ⟨1, none⟩) ∧
    ((leaves e 7 .idle).tx.map (·.requester) = some (.slot 0) ∧ (leaves e 7 .idle).seq = ⟨1, none⟩) ∧
    (leaves { e with kind := 0x02 } 9 .idle).seq.slot.map (·.body) = some (.receive .awaiting false) ∧
    (leaves { e with kind := 0x03 } 9 .idle).seq.slot.map (·.body) = some .openWindow := by decide

set_option maxRecDepth 8000 in
/-- For EarlyBoundaryAndSwap. An early boundary whose frame of 28 characters reaches a TRANSMIT entry at 28. -/
theorem test_early_boundary_28_witness :
    let f := csFrame 41 9 100
    let s := jumping .running 84 1 { txEntry with start := 28 } 9 .idle
    ClosingMark f s ∧ s.rx.count + 1 ≤ 28 ∧ s.rx.count + 1 ≤ s.timer.position ∧
      100 ≤ 2 * (s.timer.position - (s.rx.count + 1)) ∧ (∀ e ∈ scheduleOf s, 28 ≤ e.start.toNat) ∧
      (after (.characterComplete 0xD9) s).tx.map (·.requester) = some (.slot 0) := by decide

/-- `running 59` with a slot that ends at 60, or is extended, and the TRANSMIT entry at 60 as its next. -/
def meeting (sl : Slot) : State := { running 59 with seq := ⟨0, some sl⟩ }

set_option maxRecDepth 8000 in
/-- For SlotEnds. Each kind of slot that ends at the start of the next entry, and an extended one, over which a TRANSMIT entry
opens and sends. -/
theorem test_slot_meets_entry_witness : ∀ sl ∈ [{ window with finish := 60 }, { window with finish := 60, body := .transmit },
      { rxSlot .awaiting false with finish := 60 }, { rxSlot .receiving false with finish := 60 },
      { rxSlot .done false with finish := 60 }, rxSlot .receiving true],
    let s := meeting sl
    s.timer.length = some 300 ∧ s.timer.position + 1 < 300 ∧ SyncHolds s ∧ FrameGoesOn s ∧ s.seq.slot = some sl ∧
      (sl.finish = s.timer.position + 1 ∨ sl.body = .receive .receiving true) ∧
      (scheduleOf s)[s.seq.nextIndex]? = some txEntry ∧ txEntry.start.toNat = s.timer.position + 1 ∧
      s.timer.cycle.toNat % 2 ^ txEntry.exponent.toNat = txEntry.phase.toNat ∧ s.link.state = .running ∧
      (after .positionReached s).tx.map (·.requester) = some (.slot 0) ∧
      (after .positionReached s).seq.slot.map (·.body) = some .transmit := by decide

end Sys2Proof.Tests
end

section
/-! # HOLD and RELEASE (06_receive_mailboxes_and_the_acceptance_table.md, R134, R135)

First the two checks every mailbox command shares (is a command in flight, which mailbox does ARG0 name), then what HOLD and
RELEASE do on an RX mailbox by its state, then the obligation. -/

namespace Sys2Proof.Machine

/-! ### Taking a command that names an RX mailbox -/

/-- ARG0 names no RX mailbox: it is above 23, or the mailbox it names is TX (the first check of R134 and R135). -/
def NamesNoRx (s : State) : Prop :=
  23 < s.cmd.arg0.toNat ∨ ∃ (m : Fin 24) (b : TxMailbox), s.cmd.arg0.toNat = m.val ∧ s.boxes[m] = .tx b

/-- With none in flight, a command is taken with its code and arguments recorded (R177). -/
theorem command_of_not_inFlight {s : State} (h : s.cmd.inFlight = none) (code : Byte) (act : State → State) :
    command code act s = act (takenAs code s) := by
  obtain ⟨hne, -⟩ | ⟨-, heq⟩ := command_cases code act s
  · exact absurd h hne
  · exact heq

/-- A mailbox command reads the mailbox it names from ARG0 as it stood when the command was taken (R177). -/
theorem namedMailbox_takenAs_eq_some {s : State} {m : Fin 24} (h : s.cmd.arg0.toNat = m.val) (code : Byte) :
    namedMailbox (takenAs code s) = some m := by
  rw [namedMailbox_takenAs, mailboxIndex_eq_some]; exact h

theorem onRx_of_named_rx {s : State} {m : Fin 24} {r : RxMailbox} (hm : namedMailbox s = some m)
    (hr : s.boxes[m] = .rx r) (act : Fin 24 → RxMailbox → State → State) : onRx act s = act m r s := by
  unfold onRx; rw [hm]; simp only [hr]

theorem onRx_of_named_tx {s : State} {m : Fin 24} {b : TxMailbox} (hm : namedMailbox s = some m)
    (hb : s.boxes[m] = .tx b) (act : Fin 24 → RxMailbox → State → State) : onRx act s = complete .badArg s := by
  unfold onRx; rw [hm]; simp only [hb]

theorem onRx_of_named_none {s : State} (hm : namedMailbox s = none) (act : Fin 24 → RxMailbox → State → State) :
    onRx act s = complete .badArg s := by
  unfold onRx; rw [hm]

/-- A command on an RX mailbox that names none answers BAD_ARG and does nothing else. -/
theorem command_onRx_badArg {s : State} (h : s.cmd.inFlight = none) (hn : NamesNoRx s) (code : Byte)
    (act : Fin 24 → RxMailbox → State → State) :
    command code (onRx act) s = completedAs code .badArg 0 0 s := by
  rw [command_of_not_inFlight h]
  obtain habove | ⟨m, b, hm, hb⟩ := hn
  · exact onRx_of_named_none ((namedMailbox_takenAs code s).trans ((mailboxIndex_eq_none _).mpr habove)) act
  · exact onRx_of_named_tx (namedMailbox_takenAs_eq_some hm code) hb act

/-- A command on an RX mailbox that names one acts on that mailbox. -/
theorem command_onRx_rx {s : State} {m : Fin 24} {r : RxMailbox} (h : s.cmd.inFlight = none)
    (hm : s.cmd.arg0.toNat = m.val) (hr : s.boxes[m] = .rx r) (code : Byte)
    (act : Fin 24 → RxMailbox → State → State) :
    command code (onRx act) s = act m r (takenAs code s) := by
  rw [command_of_not_inFlight h]
  exact onRx_of_named_rx (namedMailbox_takenAs_eq_some hm code) hr act

/-! ### HOLD by the state of the mailbox (R134) -/

theorem holdOn_empty {r : RxMailbox} (hr : r.state = .empty) (m : Fin 24) (s : State) :
    holdOn m r s = complete .notReady s := by
  unfold holdOn; rw [hr]

theorem holdOn_held {r : RxMailbox} (hr : r.state = .held) (m : Fin 24) (s : State) :
    holdOn m r s = complete .badState s := by
  unfold holdOn; rw [hr]

theorem holdOn_full {r : RxMailbox} (hr : r.state = .full) (m : Fin 24) (s : State) :
    holdOn m r s = complete .ok (setBox m (.rx r.hold) s) := by
  unfold holdOn; rw [hr]

/-! ### RELEASE by the state of the mailbox (R135) -/

/-- A held mailbox gives its next buffer, where it has one, to the content, and that is a promotion. -/
theorem release_promotes {r : RxMailbox} (hr : r.state = .held) (hn : r.nextPresent = true) :
    r.release = ({ r with
      state := .full, content := r.next, contentValid := true, nextPresent := false, overrun := false }, true) :=
  if_pos ⟨hr, hn⟩

/-- Any other release empties the mailbox, with its content kept, and promotes nothing. -/
theorem release_empties {r : RxMailbox} (h : r.state = .full ∨ (r.state = .held ∧ r.nextPresent = false)) :
    r.release = ({ r with state := .empty, overrun := false }, false) := by
  refine if_neg fun ⟨hheld, hpresent⟩ => ?_
  obtain hfull | ⟨-, habsent⟩ := h
  · rw [hfull] at hheld; cases hheld
  · rw [habsent] at hpresent; cases hpresent

theorem releaseOn_empty {r : RxMailbox} (hr : r.state = .empty) (m : Fin 24) (s : State) :
    releaseOn m r s = complete .badState s := by
  unfold releaseOn; rw [hr]

/-- On a FULL or HELD mailbox RELEASE stores what `RxMailbox.release` gives and raises attention for a promotion. -/
theorem releaseOn_not_empty {r : RxMailbox} (hr : r.state ≠ .empty) (m : Fin 24) (s : State) :
    releaseOn m r s = complete .ok
      (if r.release.2 then raiseAttention m (setBox m (.rx r.release.1) s) else setBox m (.rx r.release.1) s) := by
  unfold releaseOn
  cases hstate : r.state with
  | empty => exact absurd hstate hr
  | full => rfl
  | held => rfl

theorem releaseOn_empties {r : RxMailbox} (h : r.state = .full ∨ (r.state = .held ∧ r.nextPresent = false))
    (m : Fin 24) (s : State) :
    releaseOn m r s = complete .ok (setBox m (.rx { r with state := .empty, overrun := false }) s) := by
  have hne : r.state ≠ .empty := by
    obtain hfull | ⟨hheld, -⟩ := h
    · simp [hfull]
    · simp [hheld]
  rw [releaseOn_not_empty hne, release_empties h]; rfl

theorem releaseOn_promotes {r : RxMailbox} (hr : r.state = .held) (hn : r.nextPresent = true) (m : Fin 24) (s : State) :
    releaseOn m r s = complete .ok (raiseAttention m (setBox m (.rx { r with
      state := .full, content := r.next, contentValid := true, nextPresent := false, overrun := false }) s)) := by
  have hne : r.state ≠ .empty := by simp [hr]
  rw [releaseOn_not_empty hne, release_promotes hr hn]; rfl

/-- A completion after a raised attention bit has set MBX and CMD together (R163, R181). -/
theorem complete_raiseAttention (c : ResultCode) (m : Fin 24) (s : State) :
    complete c (raiseAttention m s) = { finishedAs c 0 0 s with
      irq := { s.irq with
        flags := s.irq.flags ||| 0x0084
        attention := s.irq.attention ||| BitVec.twoPow 24 m.val } } := by
  have hflags : (s.irq.flags ||| BitVec.twoPow 14 Flag.mbx.bit) ||| 0x0080 = s.irq.flags ||| 0x0084 := by
    rw [BitVec.or_assoc]; rfl
  rw [complete_eq, ← hflags]; rfl

/-! ### The obligation -/

/-- Settles O12: the two BAD_ARG parts are the shared check of the mailbox named, and each clause on an RX mailbox is the
equation of HOLD or RELEASE for that state of it. -/
theorem holdAndRelease : Obligations.HoldAndRelease := by
  refine ⟨fun s hidle hn => congrArg Host.Outcome.next (command_onRx_badArg hidle hn 0x24 holdOn),
    fun s hidle hn => congrArg Host.Outcome.next (command_onRx_badArg hidle hn 0x25 releaseOn), ?_⟩
  intro s m r hidle hm hr
  have hhold : exec .hold s = .next (holdOn m r (takenAs 0x24 s)) :=
    congrArg Host.Outcome.next (command_onRx_rx hidle hm hr 0x24 holdOn)
  have hrelease : exec .release s = .next (releaseOn m r (takenAs 0x25 s)) :=
    congrArg Host.Outcome.next (command_onRx_rx hidle hm hr 0x25 releaseOn)
  rw [hhold, hrelease]
  refine ⟨fun hempty => ?_, fun hheld => ?_, fun hfull => ?_, fun hempty => ?_, fun hgone => ?_, fun hheld hnext => ?_⟩
  · rw [holdOn_empty hempty]; rfl
  · rw [holdOn_held hheld]; rfl
  · rw [holdOn_full hfull]; rfl
  · rw [releaseOn_empty hempty]; rfl
  · rw [releaseOn_empties hgone]; rfl
  · rw [releaseOn_promotes hheld hnext, complete_raiseAttention]; rfl

end Sys2Proof.Machine
end

section
/-! # CLEAR_COUNTERS and the codes outside the command table (08_interrupts_attention_and_error_counters.md, R167; R177)

First the command that is not taken, then what CLEAR_COUNTERS zeroes, then the codes for which the command
unit has no action, then the obligation. -/

namespace Sys2Proof.Machine

/-! ### A command while another is in flight (R179) -/

theorem command_of_inFlight {s : State} (h : s.cmd.inFlight ≠ none) (code : Byte) (act : State → State) :
    command code act s = { s with cmd := { s.cmd with lost := true } } := by
  obtain ⟨-, heq⟩ | ⟨hidle, -⟩ := command_cases code act s
  · exact heq
  · exact absurd hidle h

/-! ### What CLEAR_COUNTERS zeroes (R167) -/

@[simp] theorem counterValue_zeroCounters (c : Counter) (s : State) : counterValue c (zeroCounters s) = 0 := by
  simp [counterValue, zeroCounters]

/-- Each counter reads 0 after CLEAR_COUNTERS: its completion touches no counter. -/
theorem counterValue_clearCountersAction (c : Counter) (s : State) : counterValue c (clearCountersAction s) = 0 :=
  counterValue_zeroCounters c s

theorem clearCountersAction_boxes_get (s : State) (m : Fin 24) :
    (clearCountersAction s).boxes[m] = s.boxes[m].zeroLost :=
  mapTable_get Mailbox.zeroLost s.boxes m

/-- The whole state after CLEAR_COUNTERS: apart from its completion with OK, only the mailboxes and the counters change. -/
theorem clearCountersAction_eq (s : State) :
    clearCountersAction s = { finishedAs .ok 0 0 s with
      boxes := mapTable Mailbox.zeroLost s.boxes
      irq := { (finishedAs .ok 0 0 s).irq with counters := .replicate _ 0 } } := rfl

/-! ### The codes of the command table (R177) -/

/-- The codes for which the command unit has an action. -/
def commandCodes : List Byte :=
  [0x01, 0x02, 0x03, 0x04, 0x05, 0x06, 0x10, 0x11, 0x20, 0x21, 0x22, 0x23, 0x24, 0x25, 0x26, 0x30]

/-- Every branch of the command table but the last is taken by a code of the table. -/
theorem actionOf_of_notMem {code : Byte} (h : code ∉ commandCodes) (s : State) :
    actionOf code s = complete .unknownCmd s := by
  have hne : ∀ k ∈ commandCodes, code.toNat ≠ k.toNat := fun k hk heq => h (BitVec.eq_of_toNat_eq heq ▸ hk)
  simp only [commandCodes, List.forall_mem_cons, BitVec.reduceToNat] at hne
  unfold actionOf
  split
  case h_17 => rfl
  all_goals simp_all

/-- HALT and LINK_RESET stand in the table, so a code outside it is a command like any other: lost while one is in flight. -/
theorem writeCmd_of_notMem {code : Byte} (h : code ∉ commandCodes) (s : State) :
    writeCmd code s = command code (actionOf code) s := by
  have hurgent : ¬(code = haltCode ∨ code = linkResetCode) := by
    rintro (rfl | rfl) <;> exact h (by decide)
  unfold writeCmd
  rw [if_neg hurgent]

theorem writeCmd_unknown {s : State} (hidle : s.cmd.inFlight = none) {code : Byte} (h : code ∉ commandCodes) :
    writeCmd code s = completedAs code .unknownCmd 0 0 s :=
  calc writeCmd code s = command code (actionOf code) s := writeCmd_of_notMem h s
    _ = actionOf code (takenAs code s) := command_of_not_inFlight hidle code _
    _ = complete .unknownCmd (takenAs code s) := actionOf_of_notMem h _
    _ = completedAs code .unknownCmd 0 0 s := complete_eq _ _

/-! ### The obligation -/

/-- Settles O14: whether the command is taken is the shared rule of the command unit; taken, CLEAR_COUNTERS completes on the
state with the counters and lost counts at 0, and a code outside the table falls through every row of it. -/
theorem clearCountersAndUnknownCodes : Obligations.ClearCountersAndUnknownCodes := by
  refine ⟨fun s hbusy => congrArg Host.Outcome.next (command_of_inFlight hbusy 0x30 clearCountersAction),
    fun s hidle => ⟨⟨clearCountersAction (takenAs 0x30 s), ?taken, ?frame, ?counters, ?boxes⟩, ?unknown⟩⟩
  case taken => exact congrArg Host.Outcome.next (command_of_not_inFlight hidle 0x30 clearCountersAction)
  case frame => exact clearCountersAction_eq _
  case counters => exact fun c => counterValue_clearCountersAction c _
  case boxes =>
    intro m
    refine (clearCountersAction_boxes_get (takenAs 0x30 s) m).trans (?_ : s.boxes[m].zeroLost = _)
    cases s.boxes[m] with
    | tx b => rfl
    | rx r => rfl
  case unknown => exact fun code hcode => congrArg Host.Outcome.next (writeCmd_unknown hidle hcode)

end Sys2Proof.Machine
end

section
/-! # The window pointer (09_the_host_window.md, R173; R174 for its advance)

First the pointer's two parts as the pointer registers store and show them, then what a command, an access or a happening
leaves of the host window, said once for every command, then the obligation. -/

namespace Sys2Proof.Machine

/-! ### The two parts of the pointer -/

/-- Masking in a new high part is joining it to the old low part. -/
theorem highPart_replaced (p : WindowAddress) (v : Byte) :
    (p &&& 0xFF#13) ||| ((v.setWidth 13 &&& 0x1F) <<< 8) = v.extractLsb' 0 5 ++ p.extractLsb' 0 8 := by
  refine BitVec.eq_of_getLsbD_eq fun i hi => ?_
  rw [BitVec.getLsbD_append]
  interval_cases i <;> simp

/-- Masking in a new low part is joining it to the old high part. -/
theorem lowPart_replaced (p : WindowAddress) (v : Byte) :
    (p &&& 0x1F00#13) ||| v.setWidth 13 = p.extractLsb' 8 5 ++ v := by
  refine BitVec.eq_of_getLsbD_eq fun i hi => ?_
  rw [BitVec.getLsbD_append]
  interval_cases i <;> simp

/-- A write to WPTR_H replaces pointer bits 12 to 8 (R173). -/
theorem storePointerHigh_eq (v : Byte) (s : State) :
    storePointerHigh v s =
      { s with win := { s.win with pointer := v.extractLsb' 0 5 ++ s.win.pointer.extractLsb' 0 8 } } :=
  congrArg (fun p => { s with win := { s.win with pointer := p } }) (highPart_replaced s.win.pointer v)

/-- A write to WPTR_L replaces pointer bits 7 to 0 (R173). -/
theorem storePointerLow_eq (v : Byte) (s : State) :
    storePointerLow v s = { s with win := { s.win with pointer := s.win.pointer.extractLsb' 8 5 ++ v } } :=
  congrArg (fun p => { s with win := { s.win with pointer := p } }) (lowPart_replaced s.win.pointer v)

/-- A read of WPTR_H returns pointer bits 12 to 8, with 0 above (R173). -/
theorem readRegister_wptrH (s : State) : readRegister 0x05 s = 0#3 ++ s.win.pointer.extractLsb' 8 5 := by
  change (s.win.pointer >>> 8).setWidth 8 = _
  refine BitVec.eq_of_getLsbD_eq fun i hi => ?_
  rw [BitVec.getLsbD_append]
  interval_cases i <;> simp

/-- A read of WPTR_L returns pointer bits 7 to 0 (R173). -/
theorem readRegister_wptrL (s : State) : readRegister 0x06 s = s.win.pointer.extractLsb' 0 8 := by
  change s.win.pointer.setWidth 8 = _
  ext i hi
  simp

/-! ### The advance of the pointer -/

/-- The pointer counts modulo the 8192 addresses of window space (R174). -/
theorem advancePointer_toNat (s : State) :
    (advancePointer s).win.pointer.toNat = (s.win.pointer.toNat + 1) % 0x2000 :=
  BitVec.toNat_add s.win.pointer 1

/-- Either access of WDATA moves the pointer on by one address, whatever becomes of the byte (R174). -/
theorem wdata_advances {c : Instr} (hc : c = .wdataRead ∨ ∃ v, c = .wdataWrite v) {s t : State}
    (h : exec c s = .next t) : t.win.pointer.toNat = (s.win.pointer.toNat + 1) % 0x2000 := by
  obtain rfl | ⟨v, rfl⟩ := hc
  · obtain rfl : advancePointer (recordRead (busRead 0x07 s) s) = t := Host.Outcome.next.inj h
    rw [advancePointer_toNat, recordRead_win_pointer]
  · obtain rfl : advancePointer (writeWindow s.win.pointer v s) = t := Host.Outcome.next.inj h
    have hwin : (writeWindow s.win.pointer v s).win = s.win := by simp
    rw [advancePointer_toNat, hwin]

/-! ### What leaves the host window as it was -/

/-- A step with this outcome leaves the pointer, the snapshot and the byte last returned. -/
def KeepsWindow (s : State) (o : Outcome) : Prop := ∀ t, o = .next t → t.win = s.win

theorem keepsWindow_next {s u : State} (h : u.win = s.win) : KeepsWindow s (.next u) := by
  rintro _ ⟨⟩; exact h

/-- A happening that the state guards keeps the host window when its effect does. -/
theorem keepsWindow_guarded {s u : State} {p : Prop} [Decidable p] (h : u.win = s.win) :
    KeepsWindow s (if p then .next u else .next s) := by
  split
  · exact keepsWindow_next h
  · exact keepsWindow_next rfl

theorem onTx_win {act : Fin 24 → TxMailbox → State → State} (h : ∀ m t s, (act m t s).win = s.win) (s : State) :
    (onTx act s).win = s.win := by
  obtain ⟨-, heq⟩ | ⟨m, r, -, -, heq⟩ | ⟨m, t, -, -, heq⟩ := onTx_cases act s
  · rw [heq, complete_win]
  · rw [heq, complete_win]
  · rw [heq, h]

theorem onRx_win {act : Fin 24 → RxMailbox → State → State} (h : ∀ m r s, (act m r s).win = s.win) (s : State) :
    (onRx act s).win = s.win := by
  obtain ⟨-, heq⟩ | ⟨m, t, -, -, heq⟩ | ⟨m, r, -, -, heq⟩ := onRx_cases act s
  · rw [heq, complete_win]
  · rw [heq, complete_win]
  · rw [heq, h]

/-- A write to CMD keeps the host window, lost or taken, when the command's action does. -/
theorem keepsWindow_command {act : State → State} (h : ∀ s, (act s).win = s.win) (code : Byte) (s : State) :
    KeepsWindow s (.next (command code act s)) := by
  obtain ⟨-, heq⟩ | ⟨-, heq⟩ := command_cases code act s
  · rw [heq]; exact keepsWindow_next rfl
  · rw [heq]; exact keepsWindow_next (h _)

theorem keepsWindow_validationDone (s : State) : KeepsWindow s (execValidationDone s) := by
  unfold execValidationDone
  split
  · exact keepsWindow_next (by simp)
  · exact keepsWindow_next (by simp)
  · exact keepsWindow_next rfl
  · exact keepsWindow_next rfl

theorem keepsWindow_transmissionCompletes (s : State) : KeepsWindow s (execTransmissionCompletes s) := by
  unfold execTransmissionCompletes
  split
  · exact keepsWindow_next rfl
  · exact keepsWindow_guarded (by simp)

theorem keepsWindow_transmissionCollides (s : State) : KeepsWindow s (execTransmissionCollides s) := by
  unfold execTransmissionCollides
  split
  · exact keepsWindow_next rfl
  · split
    · exact keepsWindow_next rfl
    · exact keepsWindow_next (by simp)

/-- Of the direct registers, only WPTR_H, WPTR_L and WDATA change the host window when written (R172). -/
theorem busWrite_win {a : BusAddress} (hhigh : a ≠ 0x05) (hlow : a ≠ 0x06) (hdata : a ≠ 0x07) (v : Byte) (s : State) :
    (busWrite a v s).win = s.win := by
  unfold busWrite
  split
  case h_4 haddr => exact absurd (BitVec.eq_of_toNat_eq haddr) hhigh
  case h_5 haddr => exact absurd (BitVec.eq_of_toNat_eq haddr) hlow
  case h_6 haddr => exact absurd (BitVec.eq_of_toNat_eq haddr) hdata
  all_goals simp

theorem busWrite_win_of_wellFormed {a : BusAddress} {v : Byte} (h : (Instr.registerWrite a v).wellFormed = true)
    (s : State) : (busWrite a v s).win = s.win := by
  have hnotOwn : ∀ b ∈ ownRowRegisters, a ≠ b := by
    rintro b hb rfl
    simp [Instr.wellFormed, hb] at h
  exact busWrite_win (hnotOwn _ (by decide)) (hnotOwn _ (by decide)) (hnotOwn _ (by decide)) v s

/-- The rows whose rules speak of the host window: the accesses of WDATA, of POS_L and of the pointer registers, and the
hardware reset (R173, R174, R176, R190). -/
def SpeaksOfWindow (c : Instr) : Prop :=
  c = .wdataRead ∨ (∃ v, c = .wdataWrite v) ∨ c = .posLRead ∨ (∃ v, c = .wptrHWrite v) ∨ (∃ v, c = .wptrLWrite v) ∨
    c = .hardwareReset

/-- Every other row leaves the host window as it was. -/
theorem speaksOfWindow_or_keepsWindow {c : Instr} (hwf : c.wellFormed = true) (s : State) :
    SpeaksOfWindow c ∨ KeepsWindow s (exec c s) := by
  cases c with
  | wdataRead | wdataWrite | posLRead | wptrHWrite | wptrLWrite | hardwareReset => exact .inl (by simp [SpeaksOfWindow])
  | start | stop | goSilent | resume | arm | disarm | configMailbox | clearCounters =>
    exact .inr (keepsWindow_command (by simp) _ s)
  | halt | linkReset => exact .inr (keepsWindow_next (by simp))
  | commit | withdraw | sendEvent | cancelEvent => exact .inr (keepsWindow_command (onTx_win (by simp)) _ s)
  | hold | release => exact .inr (keepsWindow_command (onRx_win (by simp)) _ s)
  | unknownCommand | cmdWriteLost => exact .inr (keepsWindow_next (by simp))
  | validationDone => exact .inr (keepsWindow_validationDone s)
  | iflgWrite | ienWrite | cmdstatWrite => exact .inr (keepsWindow_next (by simp))
  | registerWrite a v => exact .inr (keepsWindow_next (busWrite_win_of_wellFormed hwf s))
  | startBitConfirmed | characterComplete | stopBitError | gapTimerExpires | lineHighAfterStopBitError =>
    exact .inr (keepsWindow_guarded (by simp))
  | positionReached => exact .inr (keepsWindow_next (by simp))
  | cycleBoundary | startupSilenceCompletes | backoffElapses => exact .inr (keepsWindow_guarded (by simp))
  | transmissionCompletes => exact .inr (keepsWindow_transmissionCompletes s)
  | transmissionCollides => exact .inr (keepsWindow_transmissionCollides s)

/-! ### The obligation -/

/-- Settles O16: the parts of the pointer are slices of it, and of the rows that change the host window at all, a read of
POS_L alone keeps the pointer, since it changes only the snapshot and the byte returned. -/
theorem windowPointer : Obligations.WindowPointer := by
  refine ⟨fun v s => ⟨congrArg Host.Outcome.next (storePointerHigh_eq v s),
    congrArg Host.Outcome.next (storePointerLow_eq v s), readRegister_wptrH s, readRegister_wptrL s⟩,
    fun c s t hwf hexec => ⟨fun hc => wdata_advances hc hexec, ?reset, ?others⟩⟩
  case reset =>
    rintro rfl
    obtain rfl := Host.Outcome.next.inj hexec
    rfl
  case others =>
    intro hread hwrite hhigh hlow hreset
    obtain (h | ⟨v, h⟩ | rfl | ⟨v, h⟩ | ⟨v, h⟩ | h) | hkeeps := speaksOfWindow_or_keepsWindow hwf s
    · exact absurd h hread
    · exact absurd h (hwrite v)
    · obtain rfl := Host.Outcome.next.inj hexec
      rfl
    · exact absurd h (hhigh v)
    · exact absurd h (hlow v)
    · exact absurd h hreset
    · rw [hkeeps t hexec]

end Sys2Proof.Machine
end

section
/-! # What a command of the table can do to the state

Every row of the table is a write of a direct register, a read, the hardware reset, or a happening with its condition. One
inversion lemma says so for `exec`, one for a register write and one for a write of CMD; the invariants below start from
them. -/

open Sys2Proof

namespace Sys2Proof.Machine

/-! ### Rows that write a direct register (R172) -/

/-- The direct register and the byte that a row writes; none for a read, the reset and a happening. -/
def asWrite : Instr → Option (BusAddress × Byte)
  | .start => some (0x00, 0x01)
  | .stop => some (0x00, 0x02)
  | .halt => some (0x00, 0x03)
  | .goSilent => some (0x00, 0x04)
  | .resume => some (0x00, 0x05)
  | .linkReset => some (0x00, 0x06)
  | .arm => some (0x00, 0x10)
  | .disarm => some (0x00, 0x11)
  | .commit => some (0x00, 0x20)
  | .withdraw => some (0x00, 0x21)
  | .sendEvent => some (0x00, 0x22)
  | .cancelEvent => some (0x00, 0x23)
  | .hold => some (0x00, 0x24)
  | .release => some (0x00, 0x25)
  | .configMailbox => some (0x00, 0x26)
  | .clearCounters => some (0x00, 0x30)
  | .unknownCommand code => some (0x00, code)
  | .cmdWriteLost code => some (0x00, code)
  | .wdataWrite v => some (0x07, v)
  | .wptrHWrite v => some (0x05, v)
  | .wptrLWrite v => some (0x06, v)
  | .iflgWrite .reg0 v => some (0x09, v)
  | .iflgWrite .reg1 v => some (0x0A, v)
  | .ienWrite .reg0 v => some (0x0B, v)
  | .ienWrite .reg1 v => some (0x0C, v)
  | .cmdstatWrite v => some (0x11, v)
  | .registerWrite a v => some (a, v)
  | _ => none

/-- A row that writes a direct register is that write of the bus. -/
theorem exec_of_asWrite {c : Instr} {a : BusAddress} {v : Byte} (h : asWrite c = some (a, v)) (s : State) :
    exec c s = .next (busWrite a v s) := by
  cases c
  case iflgWrite r _ => cases r <;> cases h <;> rfl
  case ienWrite r _ => cases r <;> cases h <;> rfl
  all_goals cases h <;> rfl

/-- What a row of the table makes of a state: the register write that it is, its own effect where its condition holds, or
nothing. -/
inductive Acts (s : State) : Instr → State → Prop
  | write {c : Instr} {a : BusAddress} {v : Byte} (h : asWrite c = some (a, v)) : Acts s c (busWrite a v s)
  | nothing {c : Instr} (h : asWrite c = none) : Acts s c s
  | startValidated (h : s.cmd.inFlight = some .start) : Acts s .validationDone (startValidated s)
  | armValidated (h : s.cmd.inFlight = some .arm) : Acts s .validationDone (armValidated s)
  | wdataRead : Acts s .wdataRead (advancePointer (recordRead (busRead 0x07 s) s))
  | posLRead : Acts s .posLRead { s with win := { s.win with
      readData := some (busRead 0x0D s)
      snapshotHigh := (positionBits s >>> 8).setWidth 6
      snapshotCycle := s.timer.cycle } }
  | hardwareReset : Acts s .hardwareReset { State.reset with pending := s.pending }
  | startBitConfirmed (h : receiving s = true) (hl : s.line.level = .idle) : Acts s .startBitConfirmed (confirmStartBit s)
  | characterComplete (v : Byte) (h : receiving s = true) (hl : s.line.level = .character) :
      Acts s (.characterComplete v) (completeCharacter v s)
  | stopBitError (h : receiving s = true) (hl : s.line.level = .character) : Acts s .stopBitError (characterFails s)
  | gapTimerExpires (h : gapReached s = true) : Acts s .gapTimerExpires (abandonAssembly .truncErr s)
  | positionReached : Acts s .positionReached (endOfCt s)
  | cycleBoundary (h : s.timer.length = some (s.timer.position + 1)) : Acts s .cycleBoundary (endOfCt s)
  | startupSilenceCompletes (h : s.link.state = .starting) (hl : s.line.level = .idle) (hr : silenceReached s = true) :
      Acts s .startupSilenceCompletes (settleWait (completeStartup s))
  | backoffElapses (h : backoffReached s = true) : Acts s .backoffElapses (elapse s)
  | transmissionCompletes (t : Transmission) (h : s.tx = some t) (hm : t.allMatched = true) :
      Acts s .transmissionCompletes (completeTransmission t s)
  | transmissionCollides (t : Transmission) (h : s.tx = some t) (hm : t.allMatched = false) :
      Acts s .transmissionCollides (collideTransmission t s)
  | lineHighAfterStopBitError (h : receiving s = true) (hl : s.line.level = .heldLow) :
      Acts s .lineHighAfterStopBitError (lineBecomesIdle s)

/-- Where the condition of a happening is a proposition, it takes its effect under it and none otherwise. -/
theorem acts_guarded {c : Instr} {s u : State} {p : Prop} [Decidable p] (hc : asWrite c = none) (h : p → Acts s c u) :
    ∃ t, (if p then .next u else .next s : Outcome) = .next t ∧ Acts s c t := by
  by_cases hp : p
  · exact ⟨u, if_pos hp, h hp⟩
  · exact ⟨s, if_neg hp, .nothing hc⟩

theorem exec_validationDone_eq (s : State) : exec .validationDone s = execValidationDone s := rfl

theorem exec_transmissionCompletes_eq (s : State) : exec .transmissionCompletes s = execTransmissionCompletes s := rfl

theorem exec_transmissionCollides_eq (s : State) : exec .transmissionCollides s = execTransmissionCollides s := rfl

theorem validationDone_acts (s : State) : ∃ t, exec .validationDone s = .next t ∧ Acts s .validationDone t := by
  rcases h : s.cmd.inFlight with _ | _ | _ | _
  · exact ⟨s, by simp [exec_validationDone_eq, execValidationDone, h], .nothing rfl⟩
  · exact ⟨_, by simp [exec_validationDone_eq, execValidationDone, h], .startValidated h⟩
  · exact ⟨_, by simp [exec_validationDone_eq, execValidationDone, h], .armValidated h⟩
  · exact ⟨s, by simp [exec_validationDone_eq, execValidationDone, h], .nothing rfl⟩

theorem transmissionCompletes_acts (s : State) :
    ∃ t, exec .transmissionCompletes s = .next t ∧ Acts s .transmissionCompletes t := by
  rcases h : s.tx with _ | t
  · exact ⟨s, by simp [exec_transmissionCompletes_eq, execTransmissionCompletes, h], .nothing rfl⟩
  · cases hm : t.allMatched with
    | true => exact ⟨_, by simp [exec_transmissionCompletes_eq, execTransmissionCompletes, h, hm], .transmissionCompletes t h hm⟩
    | false => exact ⟨s, by simp [exec_transmissionCompletes_eq, execTransmissionCompletes, h, hm], .nothing rfl⟩

theorem transmissionCollides_acts (s : State) :
    ∃ t, exec .transmissionCollides s = .next t ∧ Acts s .transmissionCollides t := by
  rcases h : s.tx with _ | t
  · exact ⟨s, by simp [exec_transmissionCollides_eq, execTransmissionCollides, h], .nothing rfl⟩
  · cases hm : t.allMatched with
    | true => exact ⟨s, by simp [exec_transmissionCollides_eq, execTransmissionCollides, h, hm], .nothing rfl⟩
    | false => exact ⟨_, by simp [exec_transmissionCollides_eq, execTransmissionCollides, h, hm], .transmissionCollides t h hm⟩

/-- Every row answers a next state, and that state is one that `Acts` lists. -/
theorem exec_total (c : Instr) (s : State) : ∃ t, exec c s = .next t ∧ Acts s c t := by
  rcases hw : asWrite c with _ | ⟨a, v⟩
  · cases c
    case validationDone => exact validationDone_acts s
    case wdataRead => exact ⟨_, rfl, .wdataRead⟩
    case posLRead => exact ⟨_, rfl, .posLRead⟩
    case hardwareReset => exact ⟨_, rfl, .hardwareReset⟩
    case startBitConfirmed => exact acts_guarded rfl fun h => .startBitConfirmed h.1 h.2
    case characterComplete v => exact acts_guarded rfl fun h => .characterComplete v h.1 h.2
    case stopBitError => exact acts_guarded rfl fun h => .stopBitError h.1 h.2
    case gapTimerExpires => exact acts_guarded rfl fun h => .gapTimerExpires h
    case positionReached => exact ⟨_, rfl, .positionReached⟩
    case cycleBoundary => exact acts_guarded rfl fun h => .cycleBoundary h
    case startupSilenceCompletes => exact acts_guarded rfl fun h => .startupSilenceCompletes h.1 h.2.1 h.2.2
    case backoffElapses => exact acts_guarded rfl fun h => .backoffElapses h
    case transmissionCompletes => exact transmissionCompletes_acts s
    case transmissionCollides => exact transmissionCollides_acts s
    case lineHighAfterStopBitError => exact acts_guarded rfl fun h => .lineHighAfterStopBitError h.1 h.2
    case iflgWrite r v => cases r <;> cases hw
    case ienWrite r v => cases r <;> cases hw
    all_goals cases hw
  · exact ⟨_, exec_of_asWrite hw s, .write hw⟩

/-- The next state that a row answers is one that `Acts` lists. -/
theorem acts_of_exec {c : Instr} {s t : State} (h : exec c s = .next t) : Acts s c t := by
  obtain ⟨u, hu, ha⟩ := exec_total c s
  obtain rfl : u = t := Host.Outcome.next.inj (hu.symm.trans h)
  exact ha

/-- A step is one CT without a happening, or the front command on the state with the rest of the queue. -/
theorem step_cases {s t : State} (h : step s = .next t) :
    t = idleCt s ∨ ∃ c rest, s.pending = c :: rest ∧ Acts { s with pending := rest } c t := by
  unfold step at h
  split at h
  · exact .inl (Host.Outcome.next.inj h).symm
  · exact .inr ⟨_, _, ‹_›, acts_of_exec h⟩

/-! ### A write of a direct register, and a write of CMD -/

/-- What a write of a direct register makes of a state (R172). -/
inductive Writes (s : State) : BusAddress → Byte → State → Prop
  | cmd (code : Byte) : Writes s 0x00 code (writeCmd code s)
  | arg0 (v : Byte) : Writes s 0x01 v { s with cmd := { s.cmd with arg0 := v } }
  | arg1 (v : Byte) : Writes s 0x02 v { s with cmd := { s.cmd with arg1 := v } }
  | pointerHigh (v : Byte) : Writes s 0x05 v (storePointerHigh v s)
  | pointerLow (v : Byte) : Writes s 0x06 v (storePointerLow v s)
  | data (v : Byte) : Writes s 0x07 v (writeData v s)
  | flags0 (v : Byte) : Writes s 0x09 v (clearFlags .reg0 v s)
  | flags1 (v : Byte) : Writes s 0x0A v (clearFlags .reg1 v s)
  | enables0 (v : Byte) : Writes s 0x0B v (writeEnables .reg0 v s)
  | enables1 (v : Byte) : Writes s 0x0C v (writeEnables .reg1 v s)
  | cmdstat (v : Byte) : Writes s 0x11 v (clearCmdLost v s)
  | nothing {a : BusAddress} {v : Byte} (h : a ∉ ([0x00, 0x01, 0x02, 0x05, 0x06, 0x07, 0x09, 0x0A, 0x0B, 0x0C, 0x11] : List BusAddress)) : Writes s a v s

theorem busWrite_writes (a : BusAddress) (v : Byte) (s : State) : Writes s a v (busWrite a v s) := by
  by_cases h : a ∈ ([0x00, 0x01, 0x02, 0x05, 0x06, 0x07, 0x09, 0x0A, 0x0B, 0x0C, 0x11] : List BusAddress)
  · simp only [List.mem_cons, List.not_mem_nil, or_false] at h
    obtain rfl | rfl | rfl | rfl | rfl | rfl | rfl | rfl | rfl | rfl | rfl := h
    exacts [.cmd v, .arg0 v, .arg1 v, .pointerHigh v, .pointerLow v, .data v, .flags0 v, .flags1 v, .enables0 v,
      .enables1 v, .cmdstat v]
  · have hnothing : busWrite a v s = s := by
      have hne : ∀ b ∈ ([0x00, 0x01, 0x02, 0x05, 0x06, 0x07, 0x09, 0x0A, 0x0B, 0x0C, 0x11] : List BusAddress),
          a.toNat ≠ b.toNat := fun b hb heq => h (BitVec.eq_of_toNat_eq heq ▸ hb)
      simp only [List.forall_mem_cons, BitVec.reduceToNat] at hne
      unfold busWrite
      split
      case h_12 => rfl
      all_goals simp_all
    rw [hnothing]; exact .nothing h

/-- HALT and LINK_RESET, which are taken whether or not a command is in flight (R180). -/
def Urgent (code : Byte) : Prop := code = haltCode ∨ code = linkResetCode

/-- A write of CMD is lost while a command is in flight, unless it is HALT or LINK_RESET; else its action is taken (R177,
R179, R180). -/
theorem writeCmd_cases (code : Byte) (s : State) :
    (s.cmd.inFlight ≠ none ∧ ¬Urgent code ∧ writeCmd code s = { s with cmd := { s.cmd with lost := true } }) ∨
      ((s.cmd.inFlight = none ∨ Urgent code) ∧ writeCmd code s = actionOf code (takenAs code s)) := by
  unfold writeCmd
  by_cases hu : code = haltCode ∨ code = linkResetCode
  · exact .inr ⟨.inr hu, by rw [if_pos hu, takeCommand_eq]⟩
  · rw [if_neg hu]
    obtain ⟨hbusy, heq⟩ | ⟨hidle, heq⟩ := command_cases code (actionOf code) s
    · exact .inl ⟨hbusy, hu, heq⟩
    · exact .inr ⟨.inl hidle, heq⟩

/-! ### Every command completes -/

theorem acts_pending {s t : State} {c : Instr} (h : Acts s c t) : t.pending = s.pending := by
  cases h <;> simp

/-- Settles O3: every row answers one of the states that `Acts` lists, and each of them has the commands still waiting. -/
theorem everyCommandCompletes : Obligations.EveryCommandCompletes := fun c s =>
  let ⟨t, hexec, hacts⟩ := exec_total c s
  ⟨t, hexec, acts_pending hacts⟩

end Sys2Proof.Machine
end

section
/-! # What the happenings of the line and the timer keep

Flags, mailboxes, node entries, the transmitter and the event queue are changed by a happening through a few operations only.
A predicate that these operations keep, and that reads nothing else of the state, is kept by every happening: `Kept` names
these operations, and each operation of the model has one lemma here. The end of a transmission, the backoff of the head and
the commands of the host stand with the predicates they concern. -/

namespace Sys2Proof.Machine

/-! ### A change of the mailboxes may be taken after the abandonment of an assembly, which reads none -/

theorem nodeMissed_boxes (source : Byte) (s : State) (v : Vector Mailbox 24) :
    nodeMissed source { s with boxes := v } = { nodeMissed source s with boxes := v } := by
  have hselect : selectNode source { s with boxes := v } = selectNode source s := rfl
  cases h : selectNode source s with
  | none => simp only [nodeMissed, hselect, h]
  | some n =>
    simp only [nodeMissed, hselect, h]
    by_cases hc : s.nodes[n].state ≠ .absent ∧ s.nodes[n].missed.state = .absent
    · rw [if_pos hc, if_pos hc]; rfl
    · rw [if_neg hc, if_neg hc]

theorem slotFrameEnded_boxes (s : State) (v : Vector Mailbox 24) :
    slotFrameEnded { s with boxes := v } = { slotFrameEnded s with boxes := v } := by
  unfold slotFrameEnded
  rcases s.seq.slot with _ | ⟨i, a, e, m, src, _ | ⟨_ | _ | _, _ | _⟩ | _⟩
  case some.receive.receiving.true => exact nodeMissed_boxes src (closeSlot s) v
  all_goals rfl

theorem abandonAssembly_boxes (c : Counter) (s : State) (v : Vector Mailbox 24) :
    abandonAssembly c { s with boxes := v } = { abandonAssembly c s with boxes := v } := by
  unfold abandonAssembly
  by_cases h : s.rx.assembly = .hunt
  · rw [if_pos h, if_pos h]
  · rw [if_neg h, if_neg h]; exact slotFrameEnded_boxes (lineError c { s with rx := Receiver.hunting }) v

/-! ### A frame that the checks pass, and the readback -/

/-- The checks pass no frame with more than 32 payload bytes (R19, checks 1 and 2). -/
theorem checkFrame_payload_length {buffer : List Byte} {f : Frame} (h : checkFrame buffer = .valid f) :
    f.payload.length ≤ 32 := by
  unfold checkFrame at h
  simp only at h
  split at h
  · cases h
  · split at h
    · cases h
    next hlen =>
      split at h
      · cases h
      · split at h
        · cases h
        · split at h
          · cases h
          · cases h
            simp at hlen ⊢
            omega

theorem judgeReadback_requester (v : Byte) (t : Transmission) : (judgeReadback v t).requester = t.requester := by
  unfold judgeReadback
  split
  · split <;> rfl
  · rfl

theorem readbackError_requester (t : Transmission) : (readbackError t).requester = t.requester := by
  unfold readbackError
  split <;> rfl

/-! ### A missed start (R85) -/

/-- A missed cycle start as it is counted, before the limit is looked at. -/
def countMissed (s : State) : State :=
  setFlag .sync (updateCauses (fun c => { c with missed := true }) (bump .csMissed { s with sync := { s.sync with
    missed := if s.sync.missed < s.params.syncLossLimit.toNat then s.sync.missed + 1 else s.sync.missed } }))

@[simp] theorem countMissed_frame (s : State) :
    (countMissed s).params = s.params ∧
      (countMissed s).line = s.line ∧
      (countMissed s).rx = s.rx ∧
      (countMissed s).tx = s.tx ∧
      (countMissed s).timer = s.timer ∧
      (countMissed s).points = s.points ∧
      (countMissed s).sched = s.sched ∧
      (countMissed s).seq = s.seq ∧
      (countMissed s).link = s.link ∧
      (countMissed s).sync.deviation = s.sync.deviation ∧
      (countMissed s).sync.id = s.sync.id ∧
      (countMissed s).sync.length = s.sync.length ∧
      (countMissed s).boxes = s.boxes ∧
      (countMissed s).queue = s.queue ∧
      (countMissed s).accept = s.accept ∧
      (countMissed s).nodes = s.nodes ∧
      (countMissed s).irq.enables = s.irq.enables ∧
      (countMissed s).irq.fault = s.irq.fault ∧
      (countMissed s).irq.attention = s.irq.attention ∧
      (countMissed s).irq.nodeChange = s.irq.nodeChange ∧
      (countMissed s).irq.pointStatus = s.irq.pointStatus ∧
      (countMissed s).cmd = s.cmd ∧
      (countMissed s).win = s.win ∧
      (countMissed s).pending = s.pending :=
  ⟨rfl, rfl, rfl, rfl, rfl, rfl, rfl, rfl, rfl, rfl, rfl, rfl, rfl, rfl, rfl, rfl, rfl, rfl, rfl, rfl, rfl, rfl, rfl, rfl⟩

/-- A missed start is counted, and at the limit sync is lost in ALIGN and RUNNING (R85, R86). -/
theorem missedStart_cases (s : State) :
    ((countMissed s).sync.missed = s.params.syncLossLimit.toNat ∧ (s.link.state = .align ∨ s.link.state = .running) ∧
        missedStart s = syncLoss (countMissed s)) ∨
      (¬((countMissed s).sync.missed = s.params.syncLossLimit.toNat ∧
          (s.link.state = .align ∨ s.link.state = .running)) ∧ missedStart s = countMissed s) := by
  by_cases h : (countMissed s).sync.missed = s.params.syncLossLimit.toNat ∧
      (s.link.state = .align ∨ s.link.state = .running)
  · exact .inl ⟨h.1, h.2, if_pos h⟩
  · exact .inr ⟨h, if_neg h⟩

/-- A fold keeps what each of its steps keeps. -/
theorem holds_foldl {P : State → Prop} {α : Type} {f : State → α → State} (hf : ∀ {s} x, P s → P (f s x)) (l : List α)
    {s : State} (h : P s) : P (l.foldl f s) := by
  induction l generalizing s with
  | nil => exact h
  | cons x l ih => exact ih (hf x h)

/-- The states agree in flags, mailboxes, node entries, transmitter and queue entries. -/
structure SameRecords (s t : State) : Prop where
  flags : t.irq.flags = s.irq.flags
  boxes : t.boxes = s.boxes
  nodes : t.nodes = s.nodes
  tx : t.tx = s.tx
  entries : t.queue.entries = s.queue.entries

/-- The predicate reads the records alone, and every operation by which a happening changes them keeps it. -/
structure Kept (P : State → Prop) : Prop where
  same : ∀ {s t}, P s → SameRecords s t → P t
  flag : ∀ {s} (f : Flag), P s → P (setFlag f s)
  heard : ∀ {s} (n : Fin 16) (cycle : Word), P s → P { s with nodes := put s.nodes n (s.nodes[n].heard cycle) }
  missed : ∀ {s} (n : Fin 16), P s → P { s with nodes := put s.nodes n s.nodes[n].missed }
  taken : ∀ {s} {m : Fin 24} {r : RxMailbox} {f : Frame} (cycle : Word), s.boxes[m] = .rx r → f.payload.length ≤ 32 →
    P s → P { s with boxes := put s.boxes m (.rx (r.take cycle f).1) }
  refused : ∀ {s} {m : Fin 24} {b : TxMailbox} (o : LastOutcome), s.boxes[m] = .tx b → P s →
    P { s with boxes := put s.boxes m (.tx { b with lastOutcome := o }) }
  slotSends : ∀ {s} {m : Fin 24} {b : TxMailbox} {t : Transmission}, s.boxes[m] = .tx b → b.state = .loaded → s.tx = none →
    t.requester = .slot m → P s → P { s with boxes := put s.boxes m (.tx { b with state := .locked }), tx := some t }
  launches : ∀ {s} {t : Transmission}, s.tx = none → t.requester = .cycleStart → P s → P { s with tx := some t }
  readback : ∀ {s} {t t' : Transmission}, s.tx = some t → t'.requester = t.requester → P s → P { s with tx := some t' }

namespace Kept

variable {P : State → Prop} (hP : Kept P) {s : State}
include hP

/-! ### Operations that leave the records as they were, but for flags -/

theorem bump (c : Counter) (h : P s) : P (bump c s) := hP.same h ⟨rfl, rfl, rfl, rfl, rfl⟩

theorem lineError (c : Counter) (h : P s) : P (lineError c s) := hP.flag _ (hP.bump c h)

theorem raiseAttention (m : Fin 24) (h : P s) : P (raiseAttention m s) :=
  hP.flag _ (hP.same h ⟨rfl, rfl, rfl, rfl, rfl⟩)

theorem raiseNodeChange (n : Fin 16) (h : P s) : P (raiseNodeChange n s) :=
  hP.flag _ (hP.same h ⟨rfl, rfl, rfl, rfl, rfl⟩)

theorem updateCauses (f : Causes → Causes) (h : P s) : P (updateCauses f s) := hP.same h ⟨rfl, rfl, rfl, rfl, rfl⟩

theorem closeSlot (h : P s) : P (closeSlot s) := hP.same h ⟨rfl, rfl, rfl, rfl, rfl⟩

theorem setSlot (sl : Slot) (h : P s) : P (setSlot sl s) := hP.same h ⟨rfl, rfl, rfl, rfl, rfl⟩

theorem settleWait (h : P s) : P (settleWait s) := hP.same h ⟨rfl, rfl, rfl, rfl, rfl⟩

theorem setLinkState (l : LinkState) (h : P s) : P (setLinkState l s) := by
  unfold Machine.setLinkState
  split
  · exact h
  · exact hP.flag _ (hP.same h ⟨rfl, rfl, rfl, rfl, rfl⟩)

theorem exchangeBanks (h : P s) : P (exchangeBanks s) := by
  unfold Machine.exchangeBanks
  refine hP.flag _ (hP.updateCauses _ ?_)
  split
  · exact hP.same h ⟨rfl, rfl, rfl, rfl, rfl⟩
  · exact hP.same h ⟨rfl, rfl, rfl, rfl, rfl⟩

theorem stopTimer (h : P s) : P (stopTimer s) := hP.same h ⟨rfl, rfl, rfl, rfl, rfl⟩

theorem disarmOnOff (h : P s) : P (disarmOnOff s) := by
  unfold Machine.disarmOnOff
  split
  · exact hP.same h ⟨rfl, rfl, rfl, rfl, rfl⟩
  · exact h

theorem enterOff (h : P s) : P (enterOff s) :=
  hP.same (hP.setLinkState .off (hP.disarmOnOff (hP.stopTimer h))) ⟨rfl, rfl, rfl, rfl, rfl⟩

theorem completeWith (r : ResultCode) (d i : Byte) (h : P s) : P (completeWith r d i s) :=
  hP.flag _ (hP.same h ⟨rfl, rfl, rfl, rfl, rfl⟩)

theorem complete (r : ResultCode) (h : P s) : P (complete r s) := hP.completeWith r 0 0 h

theorem stayInFlight (c : InFlight) (h : P s) : P (stayInFlight c s) := hP.same h ⟨rfl, rfl, rfl, rfl, rfl⟩

theorem finishStopping (h : P s) : P (finishStopping s) := by
  unfold Machine.finishStopping
  split
  · exact hP.complete .ok (hP.enterOff h)
  · exact h

theorem clearFired (h : P s) : P (clearFired s) := hP.same h ⟨rfl, rfl, rfl, rfl, rfl⟩

theorem firePoints (q : Nat) (h : P s) : P (firePoints q s) := by
  unfold Machine.firePoints
  split
  · exact h
  · exact hP.flag _ (hP.same h ⟨rfl, rfl, rfl, rfl, rfl⟩)

/-! ### Node entries and deliveries -/

theorem nodeHeard (source : Byte) (h : P s) : P (nodeHeard source s) := by
  unfold Machine.nodeHeard
  split
  · exact h
  next n _ =>
    split
    · exact hP.heard n _ h
    · exact hP.raiseNodeChange n (hP.heard n _ h)

theorem nodeMissed (source : Byte) (h : P s) : P (nodeMissed source s) := by
  unfold Machine.nodeMissed
  split
  · exact h
  next n _ =>
    simp only
    split
    · exact hP.raiseNodeChange n (hP.missed n h)
    · exact hP.missed n h

theorem applyNotice (m : Fin 24) (n : Notice) (h : P s) : P (applyNotice m n s) := by
  have hover : P (if n.overrun then setFlag .overrun s else s) := by
    split
    · exact hP.flag _ h
    · exact h
  unfold Machine.applyNotice
  simp only
  split
  · exact hP.raiseAttention m hover
  · exact hover

theorem deliver (m : Fin 24) {f : Frame} (hf : f.payload.length ≤ 32) (h : P s) : P (deliver m f s) := by
  cases hb : s.boxes[m] with
  | tx b => rw [deliver_tx hb]; exact h
  | rx r => rw [deliver_rx hb]; exact hP.applyNotice m _ (hP.taken _ hb hf h)

theorem routeEvent {f : Frame} (hf : f.payload.length ≤ 32) (h : P s) : P (routeEvent f s) := by
  unfold Machine.routeEvent
  split
  · split
    · exact hP.deliver _ hf h
    · exact hP.bump _ h
  · exact h

theorem strayFrame (f : Frame) (h : P s) : P (strayFrame f s) := by
  unfold Machine.strayFrame
  split
  · exact hP.bump _ h
  · exact h

/-! ### Slots and the beginning of a frame -/

theorem slotFrameOpened (h : P s) : P (slotFrameOpened s) := by
  rw [slotFrameOpened_eq]; exact hP.same h ⟨rfl, rfl, rfl, rfl, rfl⟩

theorem slotFrameEnded (h : P s) : P (slotFrameEnded s) := by
  obtain ⟨-, heq⟩ | ⟨sl, -, -, heq⟩ | ⟨sl, -, -, heq⟩ := slotFrameEnded_cases s
  · rw [heq]; exact h
  · rw [heq]; exact hP.setSlot _ h
  · rw [heq]; exact hP.nodeMissed _ (hP.closeSlot h)

theorem abandonAssembly (c : Counter) (h : P s) : P (abandonAssembly c s) := by
  obtain ⟨-, heq⟩ | ⟨-, heq⟩ := abandonAssembly_cases c s
  · rw [heq]; exact h
  · rw [heq]; exact hP.slotFrameEnded (hP.lineError c (hP.same h ⟨rfl, rfl, rfl, rfl, rfl⟩))

theorem updateOutcome (m : Fin 24) (o : LastOutcome) (h : P s) : P (updateTx m (fun b => { b with lastOutcome := o }) s) := by
  cases hb : s.boxes[m] with
  | tx b => rw [updateTx_tx hb]; exact hP.refused o hb h
  | rx r => rw [updateTx_rx hb]; exact h

theorem refuseSend (m : Fin 24) (o : LastOutcome) (h : P s) : P (refuseSend m o s) :=
  hP.raiseAttention m (hP.flag _ (hP.bump _ (hP.updateOutcome m o h)))

theorem beginSlotFrame {m : Fin 24} {b : TxMailbox} (hb : s.boxes[m] = .tx b) (hl : b.state = .loaded) (ht : s.tx = none)
    (f : Frame) (h : P s) : P (beginFrame (.slot m) f (updateTx m (fun b => { b with state := .locked }) s)) := by
  rw [updateTx_tx hb]
  have habandon : P (Machine.abandonAssembly .truncErr s) := hP.abandonAssembly _ h
  unfold beginFrame
  rw [Machine.abandonAssembly_boxes]
  refine hP.same (hP.slotSends (t := ⟨.slot m, f.characters s.params, 0, false⟩) ?_ hl ?_ rfl habandon) ?_
  · simpa using hb
  · simpa using ht
  · constructor <;> simp

theorem beginLaunch (ht : s.tx = none) (f : Frame) (h : P s) : P (beginFrame .cycleStart f s) :=
  hP.launches (by simpa using ht) rfl (hP.abandonAssembly .truncErr h)

theorem admitTransmit (e : Entry) (h : P s) : P (admitTransmit e s) := by
  obtain heq | ⟨m, b, -, hb, hl, -, ht, ⟨-, heq⟩ | ⟨-, -, heq⟩ | ⟨-, -, heq⟩⟩ := admitTransmit_cases e s
  · rw [heq]; exact h
  · rw [heq]; exact hP.refuseSend m _ h
  · rw [heq]; exact hP.refuseSend m _ h
  · rw [heq]; exact hP.beginSlotFrame hb hl ht _ h

theorem closeForOpening (h : P s) : P (closeForOpening s) := by
  unfold Machine.closeForOpening
  split
  · exact h
  · split
    · exact hP.nodeMissed _ (hP.closeSlot h)
    · exact hP.closeSlot h

theorem openEntry (i : Nat) (e : Entry) (h : P s) : P (openEntry i e s) := by
  unfold Machine.openEntry
  split
  · exact h
  · exact hP.admitTransmit e (hP.setSlot _ (hP.closeForOpening h))
  · exact hP.setSlot _ (hP.closeForOpening h)
  · exact hP.setSlot _ (hP.closeForOpening h)

theorem slotWindowEnd (h : P s) : P (slotWindowEnd s) := by
  unfold Machine.slotWindowEnd
  split
  · exact h
  · split
    · exact hP.closeSlot h
    · exact hP.closeSlot h
    · exact hP.nodeMissed _ (hP.closeSlot h)
    · exact hP.closeSlot h
    · exact hP.setSlot _ h

theorem reachSlotEnd (q : Nat) (h : P s) : P (reachSlotEnd q s) := by
  unfold Machine.reachSlotEnd
  split
  · split
    · exact hP.slotWindowEnd h
    · exact h
  · exact h

theorem reachEntry (swapping : Bool) (q : Nat) (h : P s) : P (reachEntry swapping q s) := by
  unfold Machine.reachEntry
  split
  · exact h
  next e _ =>
    split
    · have hopen : P (if s.link.state = .running ∧ swapping = false ∧ e.activeIn s.timer.cycle = true then
          Machine.openEntry s.seq.nextIndex e s else s) := by
        split
        · exact hP.openEntry _ e h
        · exact h
      exact hP.same hopen ⟨rfl, rfl, rfl, rfl, rfl⟩
    · exact h

theorem passOver (p : Nat) (e : Entry) (h : P s) : P (passOver p s e) := by
  unfold Machine.passOver
  split
  · split
    · exact h
    · split
      · split
        · exact hP.refuseSend _ _ h
        · exact h
      · exact h
  · exact h

theorem passOverRest (p : Nat) (h : P s) : P (passOverRest p s) := by
  unfold Machine.passOverRest
  split
  · exact holds_foldl (hP.passOver p) _ h
  · exact h

theorem receiveSlotTakes (sl : Slot) (sub : ReceiveSub) (extended : Bool) {f : Frame} (hf : f.payload.length ≤ 32)
    (h : P s) : P (receiveSlotTakes sl sub extended f s) := by
  have hdelivered : P (if addressedHere f s then
      match mailboxIndex sl.mailbox with
      | some m => Machine.deliver m f s
      | none => s
    else s) := by
    split
    · split
      · exact hP.deliver _ hf h
      · exact h
    · exact h
  unfold Machine.receiveSlotTakes
  simp only
  split
  · split
    · exact hP.closeSlot (hP.nodeHeard _ hdelivered)
    · exact hP.setSlot _ (hP.nodeHeard _ hdelivered)
  · split
    · exact hP.nodeMissed _ (hP.closeSlot (hP.bump _ h))
    · split
      · exact hP.setSlot _ (hP.bump _ h)
      · exact hP.bump _ h

theorem routeFrame {f : Frame} (hf : f.payload.length ≤ 32) (h : P s) : P (routeFrame f s) := by
  unfold Machine.routeFrame
  split
  · split
    · exact hP.strayFrame f h
    · split
      · exact hP.strayFrame f h
      · split
        · exact hP.routeEvent hf h
        · exact hP.strayFrame f h
      · exact hP.receiveSlotTakes _ _ _ hf h
  · exact h

/-! ### The Cycle Timer -/

theorem reachOffset (swapping : Bool) (q : Nat) (h : P s) : P (reachOffset swapping q s) :=
  hP.firePoints q (hP.reachEntry swapping q (hP.reachSlotEnd q h))

theorem boundaryEffects (h : P s) : P (boundaryEffects s) :=
  hP.reachOffset false 0 (hP.flag .cycle (hP.same (hP.clearFired h) ⟨rfl, rfl, rfl, rfl, rfl⟩))

theorem launchCycleStart (h : P s) : P (launchCycleStart s) := by
  obtain ⟨-, heq⟩ | ⟨-, -, heq⟩ | ⟨-, -, -, heq⟩ | ⟨-, -, ht, heq⟩ := launchCycleStart_cases s
  · rw [heq]; exact h
  · rw [heq]; exact hP.flag _ (hP.updateCauses _ h)
  · rw [heq]; exact h
  · rw [heq]; exact hP.beginLaunch ht _ h

theorem masterSwap (h : P s) : P (masterSwap s) := by
  unfold Machine.masterSwap
  split
  · exact hP.exchangeBanks h
  · exact h

theorem countedBoundary (h : P s) : P (countedBoundary s) := by
  unfold Machine.countedBoundary
  simp only
  split
  · exact hP.launchCycleStart (hP.masterSwap (hP.boundaryEffects h))
  · exact hP.boundaryEffects h

theorem syncLoss (h : P s) : P (syncLoss s) := hP.setLinkState _ (hP.updateCauses _ (hP.stopTimer h))

theorem countMissed (h : P s) : P (countMissed s) :=
  hP.flag _ (hP.updateCauses _ (hP.bump _ (hP.same h ⟨rfl, rfl, rfl, rfl, rfl⟩)))

theorem missedStart (h : P s) : P (missedStart s) := by
  obtain ⟨-, -, heq⟩ | ⟨-, heq⟩ := missedStart_cases s
  · rw [heq]; exact hP.syncLoss (hP.countMissed h)
  · rw [heq]; exact hP.countMissed h

theorem csWindowEnd (h : P s) : P (csWindowEnd s) := by
  obtain ⟨-, heq⟩ | ⟨-, -, heq⟩ := csWindowEnd_cases s
  · rw [heq]; exact h
  · rw [heq]; exact hP.missedStart h

theorem ctPasses (h : P s) : P (ctPasses s) := hP.same h ⟨rfl, rfl, rfl, rfl, rfl⟩

theorem countTo (q : Nat) (h : P s) : P (countTo q s) := by
  have hpos : P { s with timer := { s.timer with position := q } } := hP.same h ⟨rfl, rfl, rfl, rfl, rfl⟩
  unfold Machine.countTo
  simp only
  split
  · split
    · exact hP.csWindowEnd hpos
    · exact hP.reachOffset _ _ (hP.csWindowEnd hpos)
  · split
    · exact hpos
    · exact hP.reachOffset _ _ hpos

theorem advanceTimer (h : P s) : P (advanceTimer s) := by
  obtain ⟨-, heq⟩ | ⟨_, -, -, heq⟩ | ⟨_, -, -, heq⟩ := advanceTimer_cases s
  · rw [heq]; exact h
  · rw [heq]; exact hP.settleWait (hP.countTo _ h)
  · rw [heq]; exact hP.settleWait (hP.countedBoundary h)

theorem completeStartup (h : P s) : P (completeStartup s) :=
  hP.launchCycleStart (hP.reachOffset false 0
    (hP.same (hP.clearFired (hP.setLinkState .running h)) ⟨rfl, rfl, rfl, rfl, rfl⟩))

theorem idleCt (h : P s) : P (idleCt s) := by
  unfold Machine.idleCt
  split
  · split
    · exact hP.same h ⟨rfl, rfl, rfl, rfl, rfl⟩
    · exact h
  · split
    · exact hP.same h ⟨rfl, rfl, rfl, rfl, rfl⟩
    · exact h
  · exact h

/-! ### Cycle-start frames -/

theorem recordConflict (f : Frame) (h : P s) : P (recordConflict f s) :=
  hP.flag _ (hP.updateCauses _ (hP.same h ⟨rfl, rfl, rfl, rfl, rfl⟩))

theorem masterHearsCs (f : Frame) (h : P s) : P (masterHearsCs f s) := by
  unfold Machine.masterHearsCs
  split
  · exact hP.recordConflict f (hP.same h ⟨rfl, rfl, rfl, rfl, rfl⟩)
  · exact hP.recordConflict f (hP.same h ⟨rfl, rfl, rfl, rfl, rfl⟩)
  · exact h

theorem earlyBoundary (p : Nat) (h : P s) : P (earlyBoundary p s) :=
  hP.boundaryEffects (hP.slotWindowEnd (hP.passOverRest p h))

theorem reachAll (swapping : Bool) (offsets : List Nat) (h : P s) : P (reachAll swapping offsets s) :=
  holds_foldl (fun q => hP.reachOffset swapping q) offsets h

theorem resync (f : Frame) (n length : Nat) (h : P s) : P (resync f n length s) := by
  have hboundary : P (if belongsToNext s.timer.position n length then Machine.earlyBoundary s.timer.position s else s) := by
    split
    · exact hP.earlyBoundary _ h
    · exact h
  exact hP.same (hP.reachAll _ _ (hP.same (t := setPosition n _) hboundary ⟨rfl, rfl, rfl, rfl, rfl⟩))
    ⟨rfl, rfl, rfl, rfl, rfl⟩

theorem checkCycleNumber (f : Frame) (h : P s) : P (checkCycleNumber f s) := by
  unfold Machine.checkCycleNumber
  split
  · exact h
  · exact hP.flag _ (hP.updateCauses _ (hP.same h ⟨rfl, rfl, rfl, rfl, rfl⟩))

theorem checkDeviation (d : Int) (h : P s) : P (checkDeviation d s) := by
  unfold Machine.checkDeviation
  split
  · exact hP.flag _ (hP.updateCauses _ h)
  · exact h

theorem startFromListen (f : Frame) (n : Nat) (h : P s) : P (startFromListen f n s) :=
  hP.reachAll false _ (hP.same (hP.clearFired h) ⟨rfl, rfl, rfl, rfl, rfl⟩)

theorem followerSwap (n : Nat) (h : P s) : P (followerSwap n s) := by
  unfold Machine.followerSwap
  simp only
  split
  · exact hP.same (hP.exchangeBanks h) ⟨rfl, rfl, rfl, rfl, rfl⟩
  · split
    · exact hP.same (hP.exchangeBanks h) ⟨rfl, rfl, rfl, rfl, rfl⟩
    · exact hP.same (hP.slotWindowEnd (hP.exchangeBanks h)) ⟨rfl, rfl, rfl, rfl, rfl⟩

theorem runActiveBank (h : P s) : P (runActiveBank s) :=
  hP.same (hP.setLinkState .running h) ⟨rfl, rfl, rfl, rfl, rfl⟩

theorem goToAlign (f : Frame) (h : P s) : P (goToAlign f s) := by
  have hmismatch : P (if s.link.state = .align then s else
      setFlag .bank (Machine.updateCauses (fun c => { c with mismatch := true })
        (Machine.setLinkState .align (Machine.closeSlot s)))) := by
    split
    · exact h
    · exact hP.flag _ (hP.updateCauses _ (hP.setLinkState _ (hP.closeSlot h)))
  exact hP.same hmismatch ⟨rfl, rfl, rfl, rfl, rfl⟩

theorem compareBanks (f : Frame) (n : Nat) (h : P s) : P (compareBanks f n s) := by
  unfold Machine.compareBanks
  split
  · exact hP.runActiveBank h
  · split
    · exact hP.runActiveBank (hP.followerSwap n h)
    · exact hP.goToAlign f h

theorem recordAccepted (f : Frame) (h : P s) : P (recordAccepted f s) := hP.same h ⟨rfl, rfl, rfl, rfl, rfl⟩

theorem acceptCs (f : Frame) (n : Nat) (h : P s) : P (acceptCs f n s) := by
  unfold Machine.acceptCs
  split
  · exact hP.compareBanks f n (hP.recordAccepted f (hP.startFromListen f n h))
  · exact hP.compareBanks f n (hP.recordAccepted f (hP.checkDeviation _ (hP.checkCycleNumber f (hP.resync f n _ h))))
  · exact hP.compareBanks f n (hP.recordAccepted f (hP.checkDeviation _ (hP.checkCycleNumber f (hP.resync f n _ h))))
  · exact h

theorem handCycleStart (f : Frame) (n : Nat) (h : P s) : P (handCycleStart f n s) := by
  unfold Machine.handCycleStart
  simp only
  split
  · exact hP.masterHearsCs f (hP.slotFrameEnded h)
  · exact hP.acceptCs f n (hP.slotFrameEnded h)

/-! ### The receive side -/

theorem openAssembly (h : P s) : P (openAssembly s) := hP.slotFrameOpened (hP.same h ⟨rfl, rfl, rfl, rfl, rfl⟩)

theorem appendByte (b : Byte) (h : P s) : P (appendByte b s) := by
  unfold Machine.appendByte
  split
  · exact hP.abandonAssembly _ h
  · exact hP.same h ⟨rfl, rfl, rfl, rfl, rfl⟩

theorem endAssembly (h : P s) : P (endAssembly s) := by
  have hhunt : P { s with rx := Receiver.hunting } := hP.same h ⟨rfl, rfl, rfl, rfl, rfl⟩
  unfold Machine.endAssembly
  simp only
  split
  · exact hP.slotFrameEnded (hP.lineError _ hhunt)
  next f hf =>
    split
    · exact hP.handCycleStart f _ hhunt
    · exact hP.routeFrame (checkFrame_payload_length hf) hhunt

theorem countCharacter (h : P s) : P (countCharacter s) := hP.same h ⟨rfl, rfl, rfl, rfl, rfl⟩

theorem inFrameCharacter (v : Byte) (h : P s) : P (inFrameCharacter v s) := by
  unfold Machine.inFrameCharacter
  simp only
  split
  · exact hP.openAssembly (hP.abandonAssembly _ (hP.countCharacter h))
  · split
    · exact hP.endAssembly (hP.countCharacter h)
    · split
      · exact hP.same (hP.countCharacter h) ⟨rfl, rfl, rfl, rfl, rfl⟩
      · exact hP.appendByte v (hP.countCharacter h)

theorem escapedCharacter (v : Byte) (h : P s) : P (escapedCharacter v s) := by
  unfold Machine.escapedCharacter
  simp only
  split
  · exact hP.appendByte _ (hP.countCharacter h)
  · split
    · exact hP.openAssembly (hP.abandonAssembly _ (hP.countCharacter h))
    · exact hP.abandonAssembly _ (hP.countCharacter h)

theorem takeCharacter (v : Byte) (h : P s) : P (takeCharacter v s) := by
  unfold Machine.takeCharacter
  split
  · split
    · exact hP.openAssembly h
    · exact h
  · exact hP.inFrameCharacter v h
  · exact hP.escapedCharacter v h

theorem completeCharacter (v : Byte) (h : P s) : P (completeCharacter v s) := by
  have hidle : P (lineBecomesIdle s) := hP.same h ⟨rfl, rfl, rfl, rfl, rfl⟩
  unfold Machine.completeCharacter
  simp only
  split
  next t ht => exact hP.readback ht (judgeReadback_requester v t) hidle
  · exact hP.settleWait (hP.takeCharacter v hidle)

theorem characterFails (h : P s) : P (characterFails s) := by
  have hlow : P { s with line := { s.line with level := .heldLow } } := hP.same h ⟨rfl, rfl, rfl, rfl, rfl⟩
  unfold Machine.characterFails
  simp only
  split
  next t ht => exact hP.readback (s := { s with line := { s.line with level := .heldLow } }) ht (readbackError_requester t) hlow
  · exact hP.abandonAssembly _ hlow

theorem confirmStartBit (h : P s) : P (confirmStartBit s) := hP.same h ⟨rfl, rfl, rfl, rfl, rfl⟩

/-! ### The command unit, and the commands that touch no record -/

theorem takenAs (code : Byte) (h : P s) : P (takenAs code s) := hP.same h ⟨rfl, rfl, rfl, rfl, rfl⟩

theorem startAction (h : P s) : P (startAction s) := by
  unfold Machine.startAction
  split
  · exact hP.complete _ h
  · split
    · exact hP.completeWith _ _ _ h
    · exact hP.stayInFlight _ h

theorem stopAction (h : P s) : P (stopAction s) := by
  unfold Machine.stopAction
  split
  · exact hP.complete _ h
  · split
    · exact hP.complete _ (hP.enterOff h)
    · exact hP.settleWait (hP.stayInFlight _ (hP.setLinkState _ h))

theorem goSilentAction (h : P s) : P (goSilentAction s) := by
  unfold Machine.goSilentAction
  split
  · exact hP.complete _ h
  · exact hP.complete _ (hP.settleWait (hP.same h ⟨rfl, rfl, rfl, rfl, rfl⟩))

theorem resumeAction (h : P s) : P (resumeAction s) := by
  unfold Machine.resumeAction
  split
  · exact hP.complete _ (hP.settleWait (hP.same h ⟨rfl, rfl, rfl, rfl, rfl⟩))
  · exact hP.complete _ h

theorem armAction (h : P s) : P (armAction s) := by
  unfold Machine.armAction
  split
  · exact hP.stayInFlight _ (hP.same h ⟨rfl, rfl, rfl, rfl, rfl⟩)
  · exact hP.complete _ h

theorem disarmAction (h : P s) : P (disarmAction s) := by
  unfold Machine.disarmAction
  split
  · exact hP.complete _ (hP.same h ⟨rfl, rfl, rfl, rfl, rfl⟩)
  · exact hP.complete _ h

theorem onTx {act : Fin 24 → TxMailbox → State → State} (hact : ∀ m b, s.boxes[m] = .tx b → P (act m b s)) (h : P s) :
    P (onTx act s) := by
  obtain ⟨-, heq⟩ | ⟨_, _, -, -, heq⟩ | ⟨m, b, -, hb, heq⟩ := onTx_cases act s
  · rw [heq]; exact hP.complete _ h
  · rw [heq]; exact hP.complete _ h
  · rw [heq]; exact hact m b hb

theorem onRx {act : Fin 24 → RxMailbox → State → State} (hact : ∀ m r, s.boxes[m] = .rx r → P (act m r s)) (h : P s) :
    P (onRx act s) := by
  obtain ⟨-, heq⟩ | ⟨_, _, -, -, heq⟩ | ⟨m, r, -, hr, heq⟩ := onRx_cases act s
  · rw [heq]; exact hP.complete _ h
  · rw [heq]; exact hP.complete _ h
  · rw [heq]; exact hact m r hr

theorem abandonCommand (h : P s) : P (abandonCommand s) := by
  rw [abandonCommand_eq]; exact hP.same h ⟨rfl, rfl, rfl, rfl, rfl⟩

theorem startValidated (h : P s) : P (startValidated s) := by
  unfold Machine.startValidated
  split
  · exact hP.completeWith _ _ _ h
  · exact hP.complete _ (hP.same (hP.setLinkState (if isMaster s then .starting else .listen) h) ⟨rfl, rfl, rfl, rfl, rfl⟩)

theorem armValidated (h : P s) : P (armValidated s) := by
  unfold Machine.armValidated
  split
  · exact hP.completeWith _ _ _ (hP.same h ⟨rfl, rfl, rfl, rfl, rfl⟩)
  · split
    · exact hP.complete _ (hP.exchangeBanks h)
    · exact hP.complete _ (hP.same h ⟨rfl, rfl, rfl, rfl, rfl⟩)

theorem advancePointer (h : P s) : P (advancePointer s) := hP.same h ⟨rfl, rfl, rfl, rfl, rfl⟩

theorem recordRefusal (a : WindowAddress) (h : P s) : P (recordRefusal a s) :=
  hP.flag _ (hP.same h ⟨rfl, rfl, rfl, rfl, rfl⟩)

/-- A write of WDATA keeps the predicate when a write that its collection takes does. -/
theorem writeData (v : Byte) (htaken : ∀ {w : WindowByte} {t}, writeByte w v s = some t → P t) (h : P s) :
    P (writeData v s) := by
  obtain ⟨t, ht, heq⟩ | ⟨-, heq⟩ := writeWindow_cases s.win.pointer v s
  · unfold Machine.writeData; rw [heq]; exact hP.advancePointer (htaken ht)
  · unfold Machine.writeData; rw [heq]; exact hP.advancePointer (hP.recordRefusal _ h)

/-- A write of CMD keeps the predicate when the actions of the codes do. -/
theorem writeCmd (code : Byte) (haction : P (Machine.takenAs code s) → P (actionOf code (Machine.takenAs code s)))
    (h : P s) : P (writeCmd code s) := by
  obtain ⟨-, -, heq⟩ | ⟨-, heq⟩ := writeCmd_cases code s
  · rw [heq]; exact hP.same h ⟨rfl, rfl, rfl, rfl, rfl⟩
  · rw [heq]; exact haction (hP.takenAs code h)

end Kept
end Sys2Proof.Machine
end

section
/-! # Mailbox records and node entries are kept (R95, R99, R100, R123, R126, R144, R145)

The condition on one mailbox and on one node entry, that each change of one keeps it, and then the obligation. -/

namespace Sys2Proof.Machine

/-! ### Tables -/

/-- What holds of every entry of a table holds after one entry is replaced by a value of which it holds. -/
theorem forall_put {α : Type} {n : Nat} {Q : α → Prop} {v : Vector α n} (i : Fin n) {x : α} (h : ∀ k : Fin n, Q v[k])
    (hx : Q x) (k : Fin n) : Q (put v i x)[k] := by
  by_cases hk : k = i
  · subst hk; rw [put_get_same]; exact hx
  · rw [put_get_other v i k x hk]; exact h k

/-- What a map makes hold of every entry holds of the mapped table. -/
theorem forall_mapTable {α β : Type} {n : Nat} {Q : β → Prop} {f : α → β} {v : Vector α n} (h : ∀ k : Fin n, Q (f v[k]))
    (k : Fin n) : Q (mapTable f v)[k] := by
  rw [mapTable_get]; exact h k

/-! ### One mailbox -/

/-- A mailbox record stands as R95, R99, R100, R123 and R126 say. -/
def Mailbox.recordOk (b : Mailbox) : Prop := b.rxOk = true ∧ b.lengthsOk = true ∧ b.pendingOk = true

theorem recordOk_rx (r : RxMailbox) :
    (Mailbox.rx r).recordOk ↔ (r.nextPresent = true → r.state = .held) ∧ (r.state = .empty ∨ r.contentValid = true) ∧
      r.content.length.toNat ≤ 32 ∧ r.next.length.toNat ≤ 32 := by
  cases h : r.nextPresent <;> simp [Mailbox.recordOk, Mailbox.rxOk, RxMailbox.statesOk, Mailbox.lengthsOk,
    Mailbox.pendingOk, h, and_assoc]

theorem recordOk_tx (b : TxMailbox) :
    (Mailbox.tx b).recordOk ↔ b.content.length.toNat ≤ 32 ∧
      (b.pendingCommit = true → b.staging.length.toNat ≤ 32 ∧ b.state = .locked) := by
  cases h : b.pendingCommit <;> simp [Mailbox.recordOk, Mailbox.rxOk, Mailbox.lengthsOk, Mailbox.pendingOk, h, and_assoc]

/-- A delivery keeps the record: a frame that the checks pass fits, and a next buffer is stored in HELD alone (R129 to
R132). -/
theorem recordOk_take {r : RxMailbox} {f : Frame} (cycle : Word) (hf : f.payload.length ≤ 32) (h : (Mailbox.rx r).recordOk) :
    (Mailbox.rx (r.take cycle f).1).recordOk := by
  have hlen : (BitVec.ofNat 8 f.payload.length).toNat ≤ 32 := by
    rw [BitVec.toNat_ofNat]; exact (Nat.mod_le _ _).trans hf
  rw [recordOk_rx] at h ⊢
  obtain ⟨hnext, hvalid, hcontent, hbuffer⟩ := h
  unfold RxMailbox.take
  simp only
  split
  · exact ⟨hnext, hvalid, hcontent, hbuffer⟩
  · split <;> simp_all [storedFrame]

theorem recordOk_of_not_pending {b : TxMailbox} (hlen : b.content.length.toNat ≤ 32) (hp : b.pendingCommit = false) :
    (Mailbox.tx b).recordOk := by
  rw [recordOk_tx]; exact ⟨hlen, by simp [hp]⟩

/-- A pending commit applied leaves none, and what it installs fits (R99, R102). -/
theorem recordOk_applyPending {b : TxMailbox} (hlen : b.content.length.toNat ≤ 32)
    (hp : b.pendingCommit = true → b.staging.length.toNat ≤ 32) : (Mailbox.tx b.applyPending).recordOk := by
  rw [applyPending_eq]
  unfold deferred
  split
  next hpending => exact recordOk_of_not_pending (hp hpending) rfl
  next hpending => exact recordOk_of_not_pending hlen (by simpa using hpending)

/-! ### One node entry -/

theorem nodeEntry_ok_iff (e : NodeEntry) :
    e.ok = true ↔ 1 ≤ e.threshold ∧ e.threshold ≤ 15 ∧ e.misses ≤ e.threshold ∧
      (e.state = .absent ↔ e.misses = e.threshold) ∧
      (e.state = .unseen ∨ e.state = .present → e.misses = 0) ∧ (e.state = .late → 1 ≤ e.misses) := by
  cases h : e.state <;> simp [NodeEntry.ok, h, and_assoc]

theorem nodeEntry_ok_heard {e : NodeEntry} (cycle : Word) (h : e.ok = true) : (e.heard cycle).ok = true := by
  rw [nodeEntry_ok_iff] at h ⊢
  simp [NodeEntry.heard]
  omega

theorem nodeEntry_ok_missed {e : NodeEntry} (h : e.ok = true) : e.missed.ok = true := by
  unfold NodeEntry.missed
  split
  · exact h
  · rw [nodeEntry_ok_iff] at h ⊢
    split
    · simp; omega
    · simp; omega

theorem nodeEntry_ok_rewritten {e : NodeEntry} (h : e.ok = true) : e.rewritten.ok = true := by
  rw [nodeEntry_ok_iff] at h ⊢
  simp [NodeEntry.rewritten]
  omega

theorem nodeEntry_ok_written {e e' : NodeEntry} {byte : Nat} {v : Byte} (hw : writeNode byte v e = some e')
    (h : e.ok = true) : e'.ok = true := by
  have hrewritten := nodeEntry_ok_rewritten h
  rw [nodeEntry_ok_iff] at hrewritten ⊢
  unfold writeNode at hw
  split at hw <;> cases hw
  case h_3 =>
    have hclamp : 1 ≤ clampThreshold v ∧ clampThreshold v ≤ 15 := by unfold clampThreshold; omega
    simp [NodeEntry.rewritten]; omega
  all_goals exact hrewritten

/-! ### All records, through the happenings -/

/-- Every mailbox record and every node entry stands as it should. -/
def RecordsOk (s : State) : Prop := (∀ m : Fin 24, s.boxes[m].recordOk) ∧ NodesOk s

theorem recordsOk_setBox {s : State} {m : Fin 24} {b : Mailbox} (h : RecordsOk s) (hb : b.recordOk) :
    RecordsOk { s with boxes := put s.boxes m b } :=
  ⟨forall_put (Q := Mailbox.recordOk) m h.1 hb, h.2⟩

theorem recordsOk_setNode {s : State} {n : Fin 16} {e : NodeEntry} (h : RecordsOk s) (he : e.ok = true) :
    RecordsOk { s with nodes := put s.nodes n e } :=
  ⟨h.1, forall_put (Q := fun e : NodeEntry => e.ok = true) n h.2 he⟩

theorem recordOk_of_box {s : State} {m : Fin 24} {b : Mailbox} (h : RecordsOk s) (hb : s.boxes[m] = b) : b.recordOk :=
  hb ▸ h.1 m

/-- Every operation by which a happening changes a mailbox or a node entry keeps the record. -/
theorem recordsOk_kept : Kept RecordsOk where
  same h hsame := ⟨hsame.boxes ▸ h.1, fun n => hsame.nodes ▸ h.2 n⟩
  flag _ h := h
  heard n cycle h := recordsOk_setNode h (nodeEntry_ok_heard cycle (h.2 n))
  missed n h := recordsOk_setNode h (nodeEntry_ok_missed (h.2 n))
  taken cycle hr hf h := recordsOk_setBox h (recordOk_take cycle hf (recordOk_of_box h hr))
  refused _ hb h := by
    have hbox := recordOk_of_box h hb
    exact recordsOk_setBox h ((recordOk_tx _).mpr ((recordOk_tx _).mp hbox))
  slotSends hb _ _ _ h := by
    obtain ⟨hlen, hpending⟩ := (recordOk_tx _).mp (recordOk_of_box h hb)
    exact recordsOk_setBox h ((recordOk_tx _).mpr ⟨hlen, fun hp => ⟨(hpending hp).1, rfl⟩⟩)
  launches _ _ h := h
  readback _ _ h := h

/-! ### The end of a transmission -/

/-- The change of a mailbox at the end of its lock: state, outcome and retry count, and then the pending commit. -/
theorem recordsOk_endLock {s : State} (m : Fin 24) {f : TxMailbox → TxMailbox} (h : RecordsOk s)
    (hcontent : ∀ b, (f b).content = b.content) (hpending : ∀ b, (f b).pendingCommit = b.pendingCommit)
    (hstaging : ∀ b, (f b).staging = b.staging) : RecordsOk (updateTx m (fun b => (f b).applyPending) s) := by
  cases hb : s.boxes[m] with
  | rx r => rw [updateTx_rx hb]; exact h
  | tx b =>
    rw [updateTx_tx hb]
    obtain ⟨hlen, hp⟩ := (recordOk_tx b).mp (recordOk_of_box h hb)
    refine recordsOk_setBox h (recordOk_applyPending ?_ ?_)
    · rw [hcontent]; exact hlen
    · rw [hpending, hstaging]; exact fun h => (hp h).1

theorem recordsOk_leaveQueue {s : State} (m : Fin 24) (h : RecordsOk s) : RecordsOk (leaveQueue m s) := h

theorem recordsOk_outcomeCompleted {s : State} (r : Requester) (h : RecordsOk s) : RecordsOk (outcomeCompleted r s) := by
  have hkept := recordsOk_kept
  cases r with
  | cycleStart => exact h
  | slot m => exact hkept.raiseAttention m (recordsOk_endLock m h (fun _ => rfl) (fun _ => rfl) (fun _ => rfl))
  | event m =>
    exact hkept.flag _ (hkept.raiseAttention m (recordsOk_leaveQueue m
      (recordsOk_endLock m h (fun _ => rfl) (fun _ => rfl) (fun _ => rfl))))

theorem recordsOk_outcomeCollided {s : State} (r : Requester) (h : RecordsOk s) : RecordsOk (outcomeCollided r s) := by
  have hkept := recordsOk_kept
  cases r with
  | cycleStart => exact h
  | slot m => exact hkept.raiseAttention m (recordsOk_endLock m h (fun _ => rfl) (fun _ => rfl) (fun _ => rfl))
  | event m =>
    unfold outcomeCollided
    simp only
    split
    · exact recordsOk_endLock m h (fun _ => rfl) (fun _ => rfl) (fun _ => rfl)
    · exact hkept.flag _ (hkept.raiseAttention m (recordsOk_leaveQueue m
        (recordsOk_endLock m h (fun _ => rfl) (fun _ => rfl) (fun _ => rfl))))

theorem recordsOk_outcomeCut {s : State} (r : Requester) (h : RecordsOk s) : RecordsOk (outcomeCut r s) := by
  cases r with
  | cycleStart => exact h
  | slot m => exact recordsOk_endLock m h (fun _ => rfl) (fun _ => rfl) (fun _ => rfl)
  | event m => exact recordsOk_endLock m h (fun _ => rfl) (fun _ => rfl) (fun _ => rfl)

theorem recordsOk_completeTransmission {s : State} (t : Transmission) (h : RecordsOk s) :
    RecordsOk (completeTransmission t s) :=
  recordsOk_kept.settleWait (recordsOk_kept.finishStopping (recordsOk_outcomeCompleted _ h))

theorem recordsOk_collideTransmission {s : State} (t : Transmission) (h : RecordsOk s) :
    RecordsOk (collideTransmission t s) :=
  recordsOk_kept.settleWait (recordsOk_kept.finishStopping (recordsOk_outcomeCollided _
    (recordsOk_kept.flag _ (recordsOk_kept.bump _ h))))

theorem recordsOk_endDueTransmission {s : State} (h : RecordsOk s) : RecordsOk (endDueTransmission s) := by
  obtain ⟨-, heq⟩ | ⟨t, -, -, -, heq⟩ | ⟨t, -, -, heq⟩ := endDueTransmission_cases s
  · rw [heq]; exact h
  · rw [heq]; exact recordsOk_completeTransmission t h
  · rw [heq]; exact recordsOk_collideTransmission t h

theorem recordsOk_endOfCt {s : State} (h : RecordsOk s) : RecordsOk (endOfCt s) := by
  obtain ⟨-, heq⟩ | ⟨-, heq⟩ := endOfCt_cases s
  · rw [heq]; exact h
  · rw [heq]; exact recordsOk_kept.advanceTimer (recordsOk_endDueTransmission (recordsOk_kept.ctPasses h))

/-! ### The head of the event queue -/

theorem recordsOk_lock {s : State} (m : Fin 24) (h : RecordsOk s) :
    RecordsOk (updateTx m (fun b => { b with state := .locked }) s) := by
  cases hb : s.boxes[m] with
  | rx r => rw [updateTx_rx hb]; exact h
  | tx b =>
    rw [updateTx_tx hb]
    obtain ⟨hlen, hp⟩ := (recordOk_tx b).mp (recordOk_of_box h hb)
    exact recordsOk_setBox h ((recordOk_tx _).mpr ⟨hlen, fun h => ⟨(hp h).1, rfl⟩⟩)

theorem recordsOk_elapse {s : State} (h : RecordsOk s) : RecordsOk (elapse s) := by
  unfold elapse
  split
  · exact h
  · refine recordsOk_kept.settleWait ?_
    split
    · exact recordsOk_kept.abandonAssembly .truncErr (recordsOk_lock _ h)
    · exact h

/-! ### Commands and accesses of the host -/

theorem recordsOk_setBox_complete {s : State} {m : Fin 24} {b : Mailbox} (r : ResultCode) (h : RecordsOk s)
    (hb : b.recordOk) : RecordsOk (complete r (setBox m b s)) :=
  recordsOk_kept.complete r (recordsOk_setBox h hb)

theorem recordsOk_commitOn {s : State} {m : Fin 24} {b : TxMailbox} (hb : s.boxes[m] = .tx b) (h : RecordsOk s) :
    RecordsOk (commitOn m b s) := by
  obtain ⟨hlen, -⟩ := (recordOk_tx b).mp (recordOk_of_box h hb)
  unfold commitOn
  split
  · exact recordsOk_kept.complete _ h
  next hp =>
    split
    · exact recordsOk_kept.complete _ h
    next hstaging =>
      have hfits : b.staging.length.toNat ≤ 32 := by simpa using hstaging
      split
      next hlocked => exact recordsOk_setBox_complete _ h ((recordOk_tx _).mpr ⟨hlen, fun _ => ⟨hfits, hlocked⟩⟩)
      · exact recordsOk_setBox_complete _ h (recordOk_of_not_pending hfits (eq_false_of_ne_true hp))

/-- A TX mailbox that is not LOCKED has no pending commit, so its state may change (R100). -/
theorem recordOk_unlocked {s : State} {m : Fin 24} {b : TxMailbox} (hb : s.boxes[m] = .tx b) (h : RecordsOk s)
    (hl : b.state ≠ .locked) : b.content.length.toNat ≤ 32 ∧ b.pendingCommit = false := by
  obtain ⟨hlen, hp⟩ := (recordOk_tx b).mp (recordOk_of_box h hb)
  exact ⟨hlen, by simpa using fun hpending => hl (hp hpending).2⟩

theorem recordsOk_withdrawOn {s : State} {m : Fin 24} {b : TxMailbox} (hb : s.boxes[m] = .tx b) (h : RecordsOk s) :
    RecordsOk (withdrawOn m b s) := by
  unfold withdrawOn
  split
  next hl =>
    obtain ⟨hlen, hp⟩ := recordOk_unlocked hb h (by simp [hl])
    exact recordsOk_setBox_complete _ h (recordOk_of_not_pending hlen hp)
  all_goals exact recordsOk_kept.complete _ h

theorem recordsOk_sendEventOn {s : State} {m : Fin 24} {b : TxMailbox} (hb : s.boxes[m] = .tx b) (h : RecordsOk s) :
    RecordsOk (sendEventOn m b s) := by
  unfold sendEventOn
  split
  · exact recordsOk_kept.complete _ h
  · split
    case h_4 hl =>
      obtain ⟨hlen, hp⟩ := recordOk_unlocked hb h (by simp [hl])
      split
      · exact recordsOk_kept.complete _ h
      · exact recordsOk_setBox_complete .ok h (recordOk_of_not_pending hlen hp)
    all_goals exact recordsOk_kept.complete _ h

theorem recordsOk_cancelEventOn {s : State} {m : Fin 24} {b : TxMailbox} (hb : s.boxes[m] = .tx b) (h : RecordsOk s) :
    RecordsOk (cancelEventOn m b s) := by
  unfold cancelEventOn
  split
  · exact recordsOk_kept.complete _ h
  · split
    case h_1 hq =>
      obtain ⟨hlen, hp⟩ := recordOk_unlocked hb h (by simp [hq])
      exact recordsOk_setBox_complete .ok h (recordOk_of_not_pending hlen hp)
    all_goals exact recordsOk_kept.complete _ h

theorem recordsOk_holdOn {s : State} {m : Fin 24} {r : RxMailbox} (hr : s.boxes[m] = .rx r) (h : RecordsOk s) :
    RecordsOk (holdOn m r s) := by
  unfold holdOn
  split
  case h_3 hfull =>
    obtain ⟨-, hvalid, hcontent, hnext⟩ := (recordOk_rx r).mp (recordOk_of_box h hr)
    have hcontentValid : r.contentValid = true := by simpa [hfull] using hvalid
    exact recordsOk_setBox_complete _ h ((recordOk_rx _).mpr ⟨fun _ => rfl, .inr hcontentValid, hcontent, hnext⟩)
  all_goals exact recordsOk_kept.complete _ h

theorem recordOk_release {r : RxMailbox} (h : (Mailbox.rx r).recordOk) :
    (Mailbox.rx r.release.1).recordOk := by
  rw [recordOk_rx] at h ⊢
  obtain ⟨hnext, hvalid, hcontent, hbuffer⟩ := h
  unfold RxMailbox.release
  split
  · exact ⟨nofun, .inr rfl, hbuffer, hbuffer⟩
  next hnot => exact ⟨fun hp => absurd ⟨hnext hp, hp⟩ hnot, .inl rfl, hcontent, hbuffer⟩

theorem recordsOk_releaseOn {s : State} {m : Fin 24} {r : RxMailbox} (hr : s.boxes[m] = .rx r) (h : RecordsOk s) :
    RecordsOk (releaseOn m r s) := by
  by_cases hempty : r.state = .empty
  · rw [releaseOn_empty hempty]; exact recordsOk_kept.complete _ h
  · have hbox := recordsOk_setBox (m := m) h (recordOk_release (recordOk_of_box h hr))
    rw [releaseOn_not_empty hempty]
    refine recordsOk_kept.complete _ ?_
    split
    · exact recordsOk_kept.raiseAttention m hbox
    · exact hbox

/-- A mailbox at its starting values is a good record (R118, R124). -/
theorem recordOk_mailboxOfCode {code : Byte} {b : Mailbox} (h : mailboxOfCode code = some b) : b.recordOk := by
  have hrx : ∀ p, (Mailbox.rx (RxMailbox.fresh p)).recordOk := fun p => by
    simp [recordOk_rx, RxMailbox.fresh, RxBuffer.zero]
  have htx : ∀ mode, (Mailbox.tx (TxMailbox.fresh mode)).recordOk := fun mode => by
    simp [recordOk_tx, TxMailbox.fresh, TxContent.zero]
  unfold mailboxOfCode at h
  (repeat' split at h) <;> cases h
  exacts [hrx _, hrx _, htx _, htx _, htx _]

theorem recordsOk_configMailboxAction {s : State} (h : RecordsOk s) : RecordsOk (configMailboxAction s) := by
  unfold configMailboxAction
  split
  · exact recordsOk_kept.complete _ h
  · exact recordsOk_kept.complete _ h
  next hcode =>
    split
    · exact recordsOk_kept.complete _ (recordsOk_setBox h (recordOk_mailboxOfCode hcode))
    · exact recordsOk_kept.complete _ h

theorem recordsOk_clearCountersAction {s : State} (h : RecordsOk s) : RecordsOk (clearCountersAction s) := by
  refine recordsOk_kept.complete _ ⟨forall_mapTable (Q := Mailbox.recordOk) fun m => ?_, h.2⟩
  change s.boxes[m].zeroLost.recordOk
  cases hb : s.boxes[m] with
  | tx b => exact recordOk_of_box h hb
  | rx r => exact (recordOk_rx _).mpr ((recordOk_rx r).mp (recordOk_of_box h hb))

theorem recordOk_linkReset {b : Mailbox} (h : b.recordOk) : b.linkReset.recordOk := by
  cases b with
  | rx r =>
    obtain ⟨-, -, hcontent, hnext⟩ := (recordOk_rx r).mp h
    exact (recordOk_rx _).mpr ⟨nofun, .inl rfl, hcontent, hnext⟩
  | tx b =>
    obtain ⟨hlen, hp⟩ := (recordOk_tx b).mp h
    refine (recordOk_tx _).mpr ?_
    unfold TxMailbox.linkReset
    split
    next hq => exact ⟨hlen, fun hpending => by simp [(hp hpending).2] at hq⟩
    · exact ⟨hlen, hp⟩

theorem recordsOk_resetRunTime {s : State} (h : RecordsOk s) : RecordsOk (resetRunTime s) := by
  refine ⟨forall_mapTable (Q := Mailbox.recordOk) fun m => recordOk_linkReset (h.1 m),
    forall_mapTable (Q := fun e : NodeEntry => e.ok = true) fun n => ?_⟩
  have hn := nodeEntry_ok_rewritten (h.2 n)
  rw [nodeEntry_ok_iff] at hn ⊢
  exact hn

theorem recordsOk_haltSteps {s : State} (h : RecordsOk s) : RecordsOk (haltSteps s) := by
  have hcut : RecordsOk (cutTransmission (abandonCommand s)) := by
    unfold cutTransmission
    split
    · exact recordsOk_kept.abandonCommand h
    · exact recordsOk_outcomeCut _ (recordsOk_kept.abandonCommand h)
  unfold haltSteps
  simp only
  split
  · exact hcut
  · exact recordsOk_kept.enterOff hcut

theorem recordsOk_actionOf {s : State} (code : Byte) (h : RecordsOk s) : RecordsOk (actionOf code s) := by
  have hkept := recordsOk_kept
  unfold actionOf
  split
  · exact hkept.startAction h
  · exact hkept.stopAction h
  · exact hkept.complete _ (recordsOk_haltSteps h)
  · exact hkept.goSilentAction h
  · exact hkept.resumeAction h
  · exact hkept.complete _ (recordsOk_resetRunTime (recordsOk_haltSteps h))
  · exact hkept.armAction h
  · exact hkept.disarmAction h
  · exact hkept.onTx (fun _ _ hb => recordsOk_commitOn hb h) h
  · exact hkept.onTx (fun _ _ hb => recordsOk_withdrawOn hb h) h
  · exact hkept.onTx (fun _ _ hb => recordsOk_sendEventOn hb h) h
  · exact hkept.onTx (fun _ _ hb => recordsOk_cancelEventOn hb h) h
  · exact hkept.onRx (fun _ _ hr => recordsOk_holdOn hr h) h
  · exact hkept.onRx (fun _ _ hr => recordsOk_releaseOn hr h) h
  · exact recordsOk_configMailboxAction h
  · exact recordsOk_clearCountersAction h
  · exact hkept.complete _ h

/-- A staging byte is stored only while no commit is pending, so it touches no length that will be installed (R96). -/
theorem recordOk_writeMailbox {b b' : Mailbox} {byte : Nat} {v : Byte} (hw : writeMailbox byte v b = some b')
    (h : b.recordOk) : b'.recordOk := by
  unfold writeMailbox at hw
  split at hw
  · cases hw
  · split at hw
    · cases hw
    next hp =>
      obtain ⟨g, -, rfl⟩ := Option.map_eq_some_iff.mp hw
      exact recordOk_of_not_pending ((recordOk_tx _).mp h).1 (by simpa using hp)

theorem recordsOk_writeByte {s t : State} {w : WindowByte} {v : Byte} (hw : writeByte w v s = some t) (h : RecordsOk s) :
    RecordsOk t := by
  cases w with
  | mailbox m byte =>
    obtain ⟨b, hb, rfl⟩ := Option.map_eq_some_iff.mp hw
    exact recordsOk_setBox h (recordOk_writeMailbox hb (h.1 m))
  | node n byte =>
    obtain ⟨e, he, rfl⟩ := Option.map_eq_some_iff.mp hw
    exact recordsOk_setNode h (nodeEntry_ok_written he (h.2 n))
  | counter | queueView | outside => cases hw
  | point | status | acceptance => cases hw; exact h
  | param =>
    simp only [writeByte] at hw
    split at hw <;> cases hw
    exact h
  | header bank byte =>
    simp only [writeByte] at hw
    split at hw <;> cases hw
    cases bank <;> exact h
  | entry bank i byte =>
    simp only [writeByte] at hw
    split at hw
    · obtain ⟨e, -, rfl⟩ := Option.map_eq_some_iff.mp hw
      cases bank <;> exact h
    · cases hw

theorem recordsOk_writes {s t : State} {a : BusAddress} {v : Byte} (hw : Writes s a v t) (h : RecordsOk s) : RecordsOk t := by
  cases hw with
  | cmd => exact recordsOk_kept.writeCmd _ (recordsOk_actionOf _) h
  | data => exact recordsOk_kept.writeData _ (fun hw => recordsOk_writeByte hw h) h
  | _ => exact h

/-! ### The obligation -/

theorem recordsOk_reset (rest : List Instr) : RecordsOk { State.reset with pending := rest } := by
  refine ⟨fun m => ?_, fun n => ?_⟩
  · have hbox : State.reset.boxes[m] = .rx (RxMailbox.fresh .keep) := by simp [State.reset]
    change State.reset.boxes[m].recordOk
    rw [hbox]; exact recordOk_mailboxOfCode (code := 0) rfl
  · have hnode : State.reset.nodes[n] = NodeEntry.fresh := by simp [State.reset]
    change State.reset.nodes[n].ok = true
    rw [hnode]; decide

theorem recordsOk_acts {s t : State} {c : Instr} (hc : Acts s c t) (h : RecordsOk s) : RecordsOk t := by
  have hkept := recordsOk_kept
  cases hc with
  | write hw => exact recordsOk_writes (busWrite_writes _ _ s) h
  | nothing | wdataRead | posLRead | lineHighAfterStopBitError => exact h
  | startValidated => exact hkept.startValidated h
  | armValidated => exact hkept.armValidated h
  | hardwareReset => exact recordsOk_reset _
  | startBitConfirmed => exact hkept.confirmStartBit h
  | characterComplete v => exact hkept.completeCharacter v h
  | stopBitError => exact hkept.characterFails h
  | gapTimerExpires => exact hkept.abandonAssembly _ h
  | positionReached | cycleBoundary => exact recordsOk_endOfCt h
  | startupSilenceCompletes => exact hkept.settleWait (hkept.completeStartup h)
  | backoffElapses => exact recordsOk_elapse h
  | transmissionCompletes t => exact recordsOk_completeTransmission t h
  | transmissionCollides t => exact recordsOk_collideTransmission t h

theorem recordsOk_step {s t : State} (h : RecordsOk s) (hstep : step s = .next t) : RecordsOk t := by
  obtain rfl | ⟨c, rest, -, hc⟩ := step_cases hstep
  · exact recordsOk_kept.idleCt h
  · exact recordsOk_acts hc h

/-- Settles O54: the record conditions are one predicate on each mailbox and each node entry, which every operation that
changes one keeps. -/
theorem mailboxesAndNodesKept : Obligations.MailboxesAndNodesKept := by
  intro s t hrx hlengths hpending hnodes hstep
  obtain ⟨hboxes, hnodes'⟩ := recordsOk_step ⟨fun m => ⟨hrx m, hlengths m, hpending m⟩, hnodes⟩ hstep
  exact ⟨fun m => (hboxes m).1, fun m => (hboxes m).2.1, fun m => (hboxes m).2.2, hnodes'⟩

end Sys2Proof.Machine
end

section
/-! # A flag stays set until it is cleared (R157, R158)

Happenings only set flags, and so do the actions of the command table and the accesses of the bus port but a write to IFLG0
or IFLG1. -/

open Sys2Proof

namespace Sys2Proof.Machine

/-- The flag is set. -/
def FlagIsSet (f : Flag) (s : State) : Prop := flagSet f s = true

theorem flagIsSet_of_flags {f : Flag} {s t : State} (h : FlagIsSet f s) (heq : t.irq.flags = s.irq.flags) :
    FlagIsSet f t := by
  unfold FlagIsSet flagSet at h ⊢; rw [heq]; exact h

theorem flagIsSet_setFlag {f : Flag} {s : State} (g : Flag) (h : FlagIsSet f s) : FlagIsSet f (setFlag g s) := by
  unfold FlagIsSet flagSet at h ⊢
  simp [setFlag, h]

theorem flagIsSet_kept (f : Flag) : Kept (FlagIsSet f) where
  same h hsame := flagIsSet_of_flags h hsame.flags
  flag g h := flagIsSet_setFlag g h
  heard _ _ h := h
  missed _ h := h
  taken _ _ _ h := h
  refused _ _ h := h
  slotSends _ _ _ _ h := h
  launches _ _ h := h
  readback _ _ h := h

section
variable {f : Flag} {s : State}

/-! ### The end of a transmission, and the backoff -/

theorem flagIsSet_updateTx (m : Fin 24) (g : TxMailbox → TxMailbox) (h : FlagIsSet f s) : FlagIsSet f (updateTx m g s) :=
  flagIsSet_of_flags h (by simp)

theorem flagIsSet_outcomeCompleted (r : Requester) (h : FlagIsSet f s) : FlagIsSet f (outcomeCompleted r s) := by
  have hkept := flagIsSet_kept f
  cases r with
  | cycleStart => exact h
  | slot m => exact hkept.raiseAttention m (flagIsSet_updateTx m _ h)
  | event m => exact hkept.flag _ (hkept.raiseAttention m (flagIsSet_updateTx (s := s) m _ h))

theorem flagIsSet_outcomeCollided (r : Requester) (h : FlagIsSet f s) : FlagIsSet f (outcomeCollided r s) := by
  have hkept := flagIsSet_kept f
  cases r with
  | cycleStart => exact h
  | slot m => exact hkept.raiseAttention m (flagIsSet_updateTx m _ h)
  | event m =>
    unfold outcomeCollided
    simp only
    split
    · exact flagIsSet_updateTx m _ h
    · exact hkept.flag _ (hkept.raiseAttention m (flagIsSet_updateTx (s := s) m _ h))

theorem flagIsSet_completeTransmission (t : Transmission) (h : FlagIsSet f s) : FlagIsSet f (completeTransmission t s) :=
  (flagIsSet_kept f).settleWait ((flagIsSet_kept f).finishStopping
    (flagIsSet_outcomeCompleted (s := transmitterIdle s) _ h))

theorem flagIsSet_collideTransmission (t : Transmission) (h : FlagIsSet f s) : FlagIsSet f (collideTransmission t s) :=
  (flagIsSet_kept f).settleWait ((flagIsSet_kept f).finishStopping
    (flagIsSet_outcomeCollided _ ((flagIsSet_kept f).flag _ ((flagIsSet_kept f).bump (s := transmitterIdle s) _ h))))

theorem flagIsSet_endOfCt (h : FlagIsSet f s) : FlagIsSet f (endOfCt s) := by
  obtain ⟨-, heq⟩ | ⟨-, heq⟩ := endOfCt_cases s
  · rw [heq]; exact h
  · rw [heq]
    refine (flagIsSet_kept f).advanceTimer ?_
    have hpasses := (flagIsSet_kept f).ctPasses h
    obtain ⟨-, heq⟩ | ⟨t, -, -, -, heq⟩ | ⟨t, -, -, heq⟩ := endDueTransmission_cases (ctPasses s)
    · rw [heq]; exact hpasses
    · rw [heq]; exact flagIsSet_completeTransmission t hpasses
    · rw [heq]; exact flagIsSet_collideTransmission t hpasses

theorem flagIsSet_elapse (h : FlagIsSet f s) : FlagIsSet f (elapse s) := by
  unfold elapse
  split
  · exact h
  · refine (flagIsSet_kept f).settleWait ?_
    split
    · exact flagIsSet_of_flags ((flagIsSet_kept f).abandonAssembly .truncErr (flagIsSet_updateTx _ _ h)) rfl
    · exact h

/-! ### Commands and accesses of the host -/

theorem flagIsSet_complete (r : ResultCode) (h : FlagIsSet f s) : FlagIsSet f (complete r s) := (flagIsSet_kept f).complete r h

theorem flagIsSet_commitOn (m : Fin 24) (b : TxMailbox) (h : FlagIsSet f s) : FlagIsSet f (commitOn m b s) := by
  unfold commitOn
  (repeat' split) <;> exact flagIsSet_complete _ h

theorem flagIsSet_withdrawOn (m : Fin 24) (b : TxMailbox) (h : FlagIsSet f s) : FlagIsSet f (withdrawOn m b s) := by
  unfold withdrawOn
  split <;> exact flagIsSet_complete _ h

theorem flagIsSet_sendEventOn (m : Fin 24) (b : TxMailbox) (h : FlagIsSet f s) : FlagIsSet f (sendEventOn m b s) := by
  unfold sendEventOn
  (repeat' split) <;> exact flagIsSet_complete _ h

theorem flagIsSet_cancelEventOn (m : Fin 24) (b : TxMailbox) (h : FlagIsSet f s) : FlagIsSet f (cancelEventOn m b s) := by
  unfold cancelEventOn
  (repeat' split) <;> exact flagIsSet_complete _ h

theorem flagIsSet_holdOn (m : Fin 24) (r : RxMailbox) (h : FlagIsSet f s) : FlagIsSet f (holdOn m r s) := by
  unfold holdOn
  split <;> exact flagIsSet_complete _ h

theorem flagIsSet_releaseOn (m : Fin 24) (r : RxMailbox) (h : FlagIsSet f s) : FlagIsSet f (releaseOn m r s) := by
  by_cases hempty : r.state = .empty
  · rw [releaseOn_empty hempty]; exact flagIsSet_complete _ h
  · rw [releaseOn_not_empty hempty]
    refine flagIsSet_complete _ ?_
    split
    · exact (flagIsSet_kept f).raiseAttention (s := setBox m (.rx r.release.1) s) m h
    · exact h

theorem flagIsSet_configMailboxAction (h : FlagIsSet f s) : FlagIsSet f (configMailboxAction s) := by
  unfold configMailboxAction
  (repeat' split) <;> exact flagIsSet_complete _ h

theorem flagIsSet_haltSteps (h : FlagIsSet f s) : FlagIsSet f (haltSteps s) := by
  have hcut : FlagIsSet f (cutTransmission (abandonCommand s)) := flagIsSet_of_flags h (by simp)
  unfold haltSteps
  simp only
  split
  · exact hcut
  · exact (flagIsSet_kept f).enterOff hcut

theorem flagIsSet_actionOf (code : Byte) (h : FlagIsSet f s) : FlagIsSet f (actionOf code s) := by
  have hkept := flagIsSet_kept f
  unfold actionOf
  split
  · exact hkept.startAction h
  · exact hkept.stopAction h
  · exact hkept.complete _ (flagIsSet_haltSteps h)
  · exact hkept.goSilentAction h
  · exact hkept.resumeAction h
  · exact flagIsSet_complete _ (flagIsSet_of_flags (flagIsSet_haltSteps h) (by simp))
  · exact hkept.armAction h
  · exact hkept.disarmAction h
  · exact hkept.onTx (fun m b _ => flagIsSet_commitOn m b h) h
  · exact hkept.onTx (fun m b _ => flagIsSet_withdrawOn m b h) h
  · exact hkept.onTx (fun m b _ => flagIsSet_sendEventOn m b h) h
  · exact hkept.onTx (fun m b _ => flagIsSet_cancelEventOn m b h) h
  · exact hkept.onRx (fun m r _ => flagIsSet_holdOn m r h) h
  · exact hkept.onRx (fun m r _ => flagIsSet_releaseOn m r h) h
  · exact flagIsSet_configMailboxAction h
  · exact flagIsSet_complete .ok (flagIsSet_of_flags h rfl)
  · exact hkept.complete _ h

theorem flagIsSet_clearFlags (r : FlagRegister) (v : Byte)
    (hv : v.getLsbD (f.bit % 8) = false ∨ ¬(f.bit < 8 ↔ r = .reg0)) (h : FlagIsSet f s) :
    FlagIsSet f (clearFlags r v s) := by
  unfold FlagIsSet flagSet at h ⊢
  have hother : (registerBits r v).getLsbD f.bit = false := by
    cases r <;> cases f <;> simp_all [registerBits, Flag.bit]
  simp [clearFlags, h, hother]
  cases f <;> decide

/-- Every write of a direct register keeps the flag, but a write of 1 to it (R158). -/
theorem flagIsSet_writes {t : State} {a : BusAddress} {v : Byte} (hw : Writes s a v t)
    (h0 : a = 0x09 → v.getLsbD (f.bit % 8) = false ∨ ¬(f.bit < 8 ↔ FlagRegister.reg0 = .reg0))
    (h1 : a = 0x0A → v.getLsbD (f.bit % 8) = false ∨ ¬(f.bit < 8 ↔ FlagRegister.reg1 = .reg0)) (h : FlagIsSet f s) :
    FlagIsSet f t := by
  cases hw with
  | cmd => exact (flagIsSet_kept f).writeCmd _ (flagIsSet_actionOf _) h
  | data =>
    refine (flagIsSet_kept f).writeData _ (fun hw => ?_) h
    obtain ⟨-, -, -, -, -, -, -, -, -, -, -, -, -, hflags, -⟩ := writeByte_keeps hw
    exact flagIsSet_of_flags h hflags
  | flags0 => exact flagIsSet_clearFlags _ _ (h0 rfl) h
  | flags1 => exact flagIsSet_clearFlags _ _ (h1 rfl) h
  | _ => exact h

end

/-! ### The obligation -/

/-- A well-formed row that writes IFLG0 or IFLG1 is the row of that write (R172). -/
theorem iflgWrite_of_asWrite {c : Instr} (hwf : c.wellFormed = true) {v : Byte} :
    (asWrite c = some (0x09, v) → c = .iflgWrite .reg0 v) ∧ (asWrite c = some (0x0A, v) → c = .iflgWrite .reg1 v) := by
  cases c
  case iflgWrite r _ => cases r <;> simp [asWrite]
  case ienWrite r _ => cases r <;> simp [asWrite]
  case registerWrite a w =>
    have hown : a ∉ ownRowRegisters := by simpa [Instr.wellFormed] using hwf
    constructor <;> intro h <;> cases h <;> exact absurd (by decide) hown
  all_goals simp [asWrite]

/-- Settles O58: happenings and commands only set flags; a write to IFLG0 or IFLG1 leaves a flag whose bit is not written
with 1. -/
theorem flagsStayUntilCleared : Obligations.FlagsStayUntilCleared := by
  intro c s t f hwf hexec hreset hwrite h
  have hkept := flagIsSet_kept f
  cases acts_of_exec hexec with
  | @write _ a v hw =>
    obtain ⟨hreg0, hreg1⟩ := iflgWrite_of_asWrite (v := v) hwf
    refine flagIsSet_writes (busWrite_writes a v s) ?_ ?_ h
    · rintro rfl; exact hwrite _ v (hreg0 hw)
    · rintro rfl; exact hwrite _ v (hreg1 hw)
  | nothing | wdataRead | posLRead | lineHighAfterStopBitError => exact h
  | startValidated => exact hkept.startValidated h
  | armValidated => exact hkept.armValidated h
  | hardwareReset => exact absurd rfl hreset
  | startBitConfirmed => exact hkept.confirmStartBit h
  | characterComplete v => exact hkept.completeCharacter v h
  | stopBitError => exact hkept.characterFails h
  | gapTimerExpires => exact hkept.abandonAssembly _ h
  | positionReached | cycleBoundary => exact flagIsSet_endOfCt h
  | startupSilenceCompletes => exact hkept.settleWait (hkept.completeStartup h)
  | backoffElapses => exact flagIsSet_elapse h
  | transmissionCompletes t => exact flagIsSet_completeTransmission t h
  | transmissionCollides t => exact flagIsSet_collideTransmission t h

end Sys2Proof.Machine
end

section
/-! # Where a frame begins (R12, R87)

A slot, the master's launch and the head of the event queue begin a frame only in RUNNING with SILENT clear. Every operation
between keeps the frame in transmission or is one of these. -/

namespace Sys2Proof.Machine

/-! ### What may begin a frame -/

/-- The link is RUNNING with SILENT clear. -/
def MayBegin (s : State) : Prop := s.link.state = .running ∧ s.link.silent = false

/-- The receive side is in HUNT, as it was before or with its assembly abandoned. -/
def Hunts (s t : State) : Prop := t.rx.assembly = .hunt ∧ (t.rx = s.rx ∨ t.rx = Receiver.hunting)

/-- Transmitter and receive side are as they were, or the first state is one in which a frame may begin and the receive side
has gone to HUNT. -/
def BeginsFrom (s t : State) : Prop := (t.tx = s.tx ∧ t.rx = s.rx) ∨ (MayBegin s ∧ Hunts s t)

/-- Two happenings in a row, of which the first keeps link state and SILENT. -/
theorem BeginsFrom.trans {s t u : State} (hst : BeginsFrom s t) (hlink : t.link = s.link) (htu : BeginsFrom t u) :
    BeginsFrom s u := by
  unfold BeginsFrom MayBegin Hunts at *
  rw [hlink] at htu
  obtain ⟨htx, hrx⟩ | ⟨hmay, hhunt, hrx⟩ := hst
  · rw [htx, hrx] at htu; exact htu
  · obtain ⟨-, hrx'⟩ | ⟨-, hhunt', hrx'⟩ := htu
    · rw [hrx']; exact .inr ⟨hmay, hhunt, hrx⟩
    · refine .inr ⟨hmay, hhunt', ?_⟩
      obtain hrx' | hrx' := hrx'
      · rw [hrx']; exact hrx
      · exact .inr hrx'

/-- The frame in transmission is the same, or the first state is one in which a frame may begin. -/
def TxBeginsFrom (s t : State) : Prop := t.tx = s.tx ∨ MayBegin s

theorem BeginsFrom.tx {s t : State} (h : BeginsFrom s t) : TxBeginsFrom s t :=
  h.imp (·.1) (·.1)

theorem TxBeginsFrom.after {s t u : State} (htx : t.tx = s.tx) (hlink : t.link = s.link) (htu : TxBeginsFrom t u) :
    TxBeginsFrom s u := by
  unfold TxBeginsFrom MayBegin at *
  rwa [htx, hlink] at htu

/-- The beginning of a frame abandons an assembly in progress (R12, R18). -/
theorem hunts_beginFrame (r : Requester) (f : Frame) (s : State) : Hunts s (beginFrame r f s) := by
  change Hunts s (abandonAssembly .truncErr s)
  obtain ⟨hhunt, heq⟩ | ⟨-, heq⟩ := abandonAssembly_cases .truncErr s <;> rw [heq]
  · exact ⟨hhunt, .inl rfl⟩
  · exact ⟨by simp [Receiver.hunting], .inr (by simp)⟩

/-! ### Slots and boundaries -/

/-- A transmit slot sends nothing while SILENT is set (R61). -/
theorem beginsFrom_admitTransmit {s : State} (e : Entry) (h : s.link.state = .running) : BeginsFrom s (admitTransmit e s) := by
  obtain heq | ⟨m, b, -, -, -, hsilent, -, ⟨-, heq⟩ | ⟨-, -, heq⟩ | ⟨-, -, heq⟩⟩ := admitTransmit_cases e s
  · exact .inl (by rw [heq]; exact ⟨rfl, rfl⟩)
  · exact .inl (by rw [heq]; simp)
  · exact .inl (by rw [heq]; simp)
  · refine .inr ⟨⟨h, hsilent⟩, ?_⟩
    obtain ⟨hhunt, hrx⟩ := hunts_beginFrame (.slot m) (mailboxFrame .slotData b s) (updateTx m (fun b => { b with state := .locked }) s)
    rw [heq]
    exact ⟨hhunt, by simpa using hrx⟩

theorem beginsFrom_openEntry {s : State} (i : Nat) (e : Entry) (h : s.link.state = .running) :
    BeginsFrom s (openEntry i e s) := by
  unfold openEntry
  split
  · exact .inl ⟨rfl, rfl⟩
  · exact .trans (t := setSlot (slotOf i e .transmit) (closeForOpening s)) (.inl (by simp)) (by simp)
      (beginsFrom_admitTransmit e (by simpa using h))
  · exact .inl (by simp)
  · exact .inl (by simp)

theorem beginsFrom_reachEntry (swapping : Bool) (q : Nat) (s : State) : BeginsFrom s (reachEntry swapping q s) := by
  unfold reachEntry
  split
  · exact .inl ⟨rfl, rfl⟩
  · split
    · simp only
      split
      next hdue => exact beginsFrom_openEntry _ _ hdue.1
      · exact .inl ⟨rfl, rfl⟩
    · exact .inl ⟨rfl, rfl⟩

theorem beginsFrom_reachOffset (swapping : Bool) (q : Nat) (s : State) : BeginsFrom s (reachOffset swapping q s) :=
  .trans (t := reachSlotEnd q s) (.inl (by simp)) (by simp)
    (.trans (t := reachEntry swapping q (reachSlotEnd q s)) (u := firePoints q (reachEntry swapping q (reachSlotEnd q s)))
      (beginsFrom_reachEntry swapping q _) (by simp) (.inl (by simp)))

/-- The state in which a boundary reaches offset 0: the fired marks and the CS-seen mark clear, the next cycle begun (R27). -/
def boundaryBegun (s : State) : State :=
  setFlag .cycle { clearFired s with
    timer := { s.timer with position := 0, cycle := s.timer.cycle + 1, csSeen := false }
    seq := { s.seq with nextIndex := 0 } }

theorem boundaryEffects_eq (s : State) : boundaryEffects s = reachOffset false 0 (boundaryBegun s) := rfl

theorem beginsFrom_boundaryEffects (s : State) : BeginsFrom s (boundaryEffects s) :=
  .trans (t := boundaryBegun s) (.inl ⟨rfl, rfl⟩) rfl (beginsFrom_reachOffset false 0 _)

/-- The launch is withheld by SILENT (R76). -/
theorem beginsFrom_launchCycleStart {s : State} (h : s.link.state = .running) : BeginsFrom s (launchCycleStart s) := by
  obtain ⟨-, heq⟩ | ⟨-, -, heq⟩ | ⟨-, -, -, heq⟩ | ⟨hsilent, -, -, heq⟩ := launchCycleStart_cases s
  · exact .inl (by rw [heq]; exact ⟨rfl, rfl⟩)
  · exact .inl (by rw [heq]; exact ⟨rfl, rfl⟩)
  · exact .inl (by rw [heq]; exact ⟨rfl, rfl⟩)
  · exact .inr ⟨⟨h, hsilent⟩, by rw [heq]; exact hunts_beginFrame _ _ s⟩

theorem beginsFrom_countedBoundary (s : State) : BeginsFrom s (countedBoundary s) := by
  unfold countedBoundary
  simp only
  split
  next hmaster =>
    exact .trans (beginsFrom_boundaryEffects s) (by simp)
      (.trans (.inl (by simp)) (by simp) (beginsFrom_launchCycleStart (s := masterSwap (boundaryEffects s)) (by simpa using hmaster.2)))
  · exact beginsFrom_boundaryEffects s

/-! ### The end of a CT -/

/-- The CS window end check stops the timer, or leaves the link as it was (R85, R86). -/
theorem csWindowEnd_stops_or_keeps (s : State) : (csWindowEnd s).timer.length = none ∨ (csWindowEnd s).link = s.link := by
  obtain ⟨-, heq⟩ | ⟨-, -, heq⟩ := csWindowEnd_cases s
  · rw [heq]; exact .inr rfl
  · obtain ⟨-, -, hlost⟩ | ⟨-, hkept⟩ := missedStart_cases s
    · rw [heq, hlost]; exact .inl (by simp [syncLoss, stopTimer])
    · rw [heq, hkept]; exact .inr rfl

theorem beginsFrom_csWindowEnd (s : State) : BeginsFrom s (csWindowEnd s) := .inl (by simp)

theorem beginsFrom_countTo (q : Nat) (s : State) : BeginsFrom s (countTo q s) := by
  unfold countTo
  simp only
  split
  · split
    · exact .inl (by simp)
    next hruns =>
      obtain hstop | hlink := csWindowEnd_stops_or_keeps { s with timer := { s.timer with position := q } }
      · exact absurd hstop hruns
      · exact .trans (t := csWindowEnd { s with timer := { s.timer with position := q } }) (.inl (by simp)) hlink
          (beginsFrom_reachOffset false q _)
  · split
    · exact .inl ⟨rfl, rfl⟩
    · exact .trans (t := { s with timer := { s.timer with position := q } }) (.inl ⟨rfl, rfl⟩) rfl (beginsFrom_reachOffset false q _)

theorem beginsFrom_advanceTimer (s : State) : BeginsFrom s (advanceTimer s) := by
  obtain ⟨-, heq⟩ | ⟨_, -, -, heq⟩ | ⟨_, -, -, heq⟩ := advanceTimer_cases s
  · exact .inl (by rw [heq]; exact ⟨rfl, rfl⟩)
  · rw [heq]; exact beginsFrom_countTo _ s
  · rw [heq]; exact beginsFrom_countedBoundary s

/-- With no frame in transmission none is due. -/
theorem endDueTransmission_of_idle {s : State} (h : s.tx = none) : endDueTransmission s = s := by
  unfold endDueTransmission; rw [h]

theorem txBeginsFrom_endOfCt {s : State} (h : s.tx = none) : TxBeginsFrom s (endOfCt s) := by
  obtain ⟨-, heq⟩ | ⟨-, heq⟩ := endOfCt_cases s
  · exact .inl (by rw [heq])
  · rw [heq, endDueTransmission_of_idle (s := ctPasses s) h]
    exact .after (t := ctPasses s) rfl rfl (beginsFrom_advanceTimer _).tx

/-! ### A cycle-start frame and the other characters -/

theorem beginsFrom_earlyBoundary (p : Nat) (s : State) : BeginsFrom s (earlyBoundary p s) :=
  .trans (.inl (by simp)) (by simp) (beginsFrom_boundaryEffects (slotWindowEnd (passOverRest p s)))

theorem beginsFrom_reachAll (swapping : Bool) (offsets : List Nat) (s : State) :
    BeginsFrom s (reachAll swapping offsets s) := by
  induction offsets generalizing s with
  | nil => exact .inl ⟨rfl, rfl⟩
  | cons q rest ih => exact .trans (beginsFrom_reachOffset swapping q s) (by simp) (ih _)

theorem beginsFrom_resync (f : Frame) (n length : Nat) (s : State) : BeginsFrom s (resync f n length s) := by
  have hpoint : ∀ u : State, BeginsFrom s u → u.link = s.link → ∀ offsets,
      BeginsFrom s (reachAll (frameSwaps f s) offsets (setPosition n u)) := fun u hu hlink offsets =>
    hu.trans hlink (.trans (t := setPosition n u) (.inl ⟨rfl, rfl⟩) rfl (beginsFrom_reachAll _ offsets _))
  unfold resync
  simp only
  split
  · exact hpoint _ (beginsFrom_earlyBoundary _ s) (by simp) _
  · exact hpoint _ (.inl ⟨rfl, rfl⟩) rfl _

theorem beginsFrom_startFromListen (f : Frame) (n : Nat) (s : State) : BeginsFrom s (startFromListen f n s) :=
  .trans (.inl ⟨rfl, rfl⟩) rfl (beginsFrom_reachAll false _ _)

theorem beginsFrom_acceptCs (f : Frame) (n : Nat) (s : State) : BeginsFrom s (acceptCs f n s) := by
  unfold acceptCs
  split
  · exact .trans (beginsFrom_startFromListen f n s) (by simp) (.inl (by simp))
  next length _ _ => exact .trans (beginsFrom_resync f n length s) (by simp) (.inl (by simp))
  next length _ _ => exact .trans (beginsFrom_resync f n length s) (by simp) (.inl (by simp))
  · exact .inl ⟨rfl, rfl⟩

theorem beginsFrom_handCycleStart (f : Frame) (n : Nat) (s : State) : BeginsFrom s (handCycleStart f n s) := by
  unfold handCycleStart
  simp only
  split
  · exact .inl (by simp)
  · exact .trans (t := slotFrameEnded s) (.inl (by simp)) (by simp) (beginsFrom_acceptCs f n _)

theorem txBeginsFrom_endAssembly (s : State) : TxBeginsFrom s (endAssembly s) := by
  unfold endAssembly
  simp only
  split
  · exact .inl (by simp)
  · split
    · exact .after (t := { s with rx := Receiver.hunting }) rfl rfl (beginsFrom_handCycleStart _ _ _).tx
    · exact .inl (by simp)

theorem txBeginsFrom_inFrameCharacter (v : Byte) (s : State) : TxBeginsFrom s (inFrameCharacter v s) := by
  unfold inFrameCharacter
  simp only
  split
  · exact .inl (by simp)
  · split
    · exact .after (t := countCharacter s) rfl rfl (txBeginsFrom_endAssembly _)
    · split <;> exact .inl (by simp)

theorem txBeginsFrom_takeCharacter (v : Byte) (s : State) : TxBeginsFrom s (takeCharacter v s) := by
  unfold takeCharacter
  split
  · split <;> exact .inl (by simp)
  · exact txBeginsFrom_inFrameCharacter v s
  · exact .inl (by simp)

theorem txBeginsFrom_completeCharacter (v : Byte) {s : State} (h : s.tx = none) : TxBeginsFrom s (completeCharacter v s) := by
  have htake : completeCharacter v s = settleWait (takeCharacter v (lineBecomesIdle s)) := by
    unfold completeCharacter; simp [h]
  rw [htake]
  exact .after (t := lineBecomesIdle s) rfl rfl (txBeginsFrom_takeCharacter v _)

/-! ### The head of the event queue -/

/-- A backoff that has elapsed is one of a head that waits, so the conditions of R111 hold. -/
theorem headMayWait_of_backoffReached {s : State} (hwait : WaitOk s) (h : backoffReached s = true) :
    headMayWait s = true := by
  unfold backoffReached at h
  cases hw : s.queue.wait with
  | none => simp [hw] at h
  | some count => rw [← hwait, hw]; rfl

/-- The conditions of R111, one by one. -/
theorem headMayWait_iff (s : State) :
    headMayWait s = true ↔ openWindowOpen s = true ∧ s.link.state = .running ∧ s.link.silent = false ∧ s.tx = none ∧
      headQueued s = true ∧ s.queue.turnedAway = false := by
  simp [headMayWait, and_assoc]

theorem mayBegin_of_headMayWait {s : State} (h : headMayWait s = true) : MayBegin s :=
  let ⟨_, hrunning, hsilent, _⟩ := (headMayWait_iff s).mp h
  ⟨hrunning, hsilent⟩

/-! ### The startup of a master -/

theorem setLinkState_link (l : LinkState) (s : State) : (setLinkState l s).link = { s.link with state := l } := by
  unfold setLinkState
  split
  next h => rw [← h]
  · rfl

/-- The state in which a startup reaches offset 0: RUNNING, the timer at the start of cycle 0 on the active bank (R24, R75). -/
def startupBegun (s : State) : State :=
  { clearFired (setLinkState .running s) with
    link := { s.link with state := .running, silence := 0 }
    line := { s.line with idleTime := startupLimit s, ctIdle := true }
    timer := { position := 0, cycle := 0, length := some (activeBank s).length.toNat, csSeen := false }
    seq := { s.seq with nextIndex := 0 } }

theorem completeStartup_eq (s : State) : completeStartup s = launchCycleStart (reachOffset false 0 (startupBegun s)) := by
  have hbegun : startupBegun s = { clearFired (setLinkState .running s) with
      link := { (setLinkState .running s).link with silence := 0 }
      line := { (setLinkState .running s).line with idleTime := startupLimit (setLinkState .running s), ctIdle := true }
      timer := { position := 0, cycle := 0, length := some (activeBank (setLinkState .running s)).length.toNat, csSeen := false }
      seq := { (setLinkState .running s).seq with nextIndex := 0 } } := by
    simp [startupBegun, setLinkState_link, startupLimit, activeBank, bankOf]
  rw [hbegun]; rfl

theorem completeStartup_beginsFrom (s : State) :
    BeginsFrom (startupBegun s) (launchCycleStart (reachOffset false 0 (startupBegun s))) :=
  .trans (beginsFrom_reachOffset false 0 _) (by simp) (beginsFrom_launchCycleStart (by simp [startupBegun]))

/-- The startup takes the link to RUNNING, and begins a frame only with SILENT clear (R75). -/
theorem completeStartup_begins (s : State) :
    (completeStartup s).link.state = .running ∧ ((completeStartup s).tx = s.tx ∨ s.link.silent = false) := by
  rw [completeStartup_eq]
  refine ⟨by simp [startupBegun], ?_⟩
  obtain htx | ⟨-, hsilent⟩ := (completeStartup_beginsFrom s).tx
  · exact .inl (htx.trans (by simp [startupBegun]))
  · exact .inr hsilent

/-! ### Commands begin no frame -/

/-- After HALT's steps no frame is in transmission (R92). -/
theorem haltSteps_tx (s : State) : (haltSteps s).tx = none := by
  have hcut : (cutTransmission (abandonCommand s)).tx = none := by
    unfold cutTransmission
    split
    · assumption
    · rfl
  unfold haltSteps
  simp only
  split
  · exact hcut
  · simpa using hcut

/-- A command of the table leaves the frame in transmission, or cuts it. -/
theorem actionOf_tx (code : Byte) (s : State) : (actionOf code s).tx = s.tx ∨ (actionOf code s).tx = none := by
  have hbox : ∀ act : Fin 24 → TxMailbox → State → State, (∀ m b, (act m b s).tx = s.tx) → (onTx act s).tx = s.tx := by
    intro act hact
    obtain ⟨-, heq⟩ | ⟨_, _, -, -, heq⟩ | ⟨m, b, -, -, heq⟩ := onTx_cases act s <;> rw [heq]
    · rfl
    · rfl
    · exact hact m b
  have hrx : ∀ act : Fin 24 → RxMailbox → State → State, (∀ m r, (act m r s).tx = s.tx) → (onRx act s).tx = s.tx := by
    intro act hact
    obtain ⟨-, heq⟩ | ⟨_, _, -, -, heq⟩ | ⟨m, r, -, -, heq⟩ := onRx_cases act s <;> rw [heq]
    · rfl
    · rfl
    · exact hact m r
  unfold actionOf
  split
  case h_3 => exact .inr (by simp [haltAction, haltSteps_tx])
  case h_6 => exact .inr (by simp [linkResetAction, haltSteps_tx])
  case h_9 | h_10 | h_11 | h_12 => exact .inl (hbox _ (by simp))
  case h_13 | h_14 => exact .inl (hrx _ (by simp))
  all_goals exact .inl (by simp)

theorem writeCmd_tx (code : Byte) (s : State) : (writeCmd code s).tx = s.tx ∨ (writeCmd code s).tx = none := by
  obtain ⟨-, -, heq⟩ | ⟨-, heq⟩ := writeCmd_cases code s <;> rw [heq]
  · exact .inl rfl
  · exact actionOf_tx code (takenAs code s)

theorem writes_tx {s t : State} {a : BusAddress} {v : Byte} (hw : Writes s a v t) : t.tx = s.tx ∨ t.tx = none := by
  cases hw with
  | cmd => exact writeCmd_tx v s
  | data => exact .inl (by simp)
  | _ => exact .inl rfl

/-! ### The obligation -/

/-- Settles O59: only slots, the master's launch and the head of the queue begin a frame, and each of them is reached in
RUNNING with SILENT clear, or through the startup that takes the link there. -/
theorem framesBeginOnlyInRunning : Obligations.FramesBeginOnlyInRunning := by
  intro c s t hwait hexec hidle hsends
  have hchanged : t.tx ≠ s.tx := by rwa [hidle]
  have hfrom : TxBeginsFrom s t → s.link.silent = false ∧ (s.link.state = .running ∨
      s.link.state = .starting ∧ t.link.state = .running ∧ c = .startupSilenceCompletes) := fun h =>
    let ⟨hrunning, hsilent⟩ := h.resolve_left hchanged
    ⟨hsilent, .inl hrunning⟩
  cases acts_of_exec hexec with
  | write => exact absurd ((writes_tx (busWrite_writes _ _ s)).elim (hidle ▸ ·) id) hsends
  | nothing | wdataRead | posLRead | startBitConfirmed | lineHighAfterStopBitError => exact absurd rfl hchanged
  | startValidated | armValidated | gapTimerExpires => exact absurd (by simp) hchanged
  | hardwareReset => exact absurd rfl hsends
  | characterComplete v => exact hfrom (txBeginsFrom_completeCharacter v hidle)
  | stopBitError => exact absurd (by unfold characterFails; simp [hidle]) hchanged
  | positionReached | cycleBoundary => exact hfrom (txBeginsFrom_endOfCt hidle)
  | startupSilenceCompletes hstarting =>
    obtain ⟨hrunning, htx⟩ := completeStartup_begins s
    exact ⟨htx.resolve_left hchanged, .inr ⟨hstarting, hrunning, rfl⟩⟩
  | backoffElapses hreached =>
    exact hfrom (.inr (mayBegin_of_headMayWait (headMayWait_of_backoffReached hwait hreached)))
  | transmissionCompletes _ htx | transmissionCollides _ htx => rw [hidle] at htx; cases htx

end Sys2Proof.Machine
end

section
/-! # Locks and event queue are kept (R97, R108)

What the locks and the queue read of a mailbox, a frame that begins from a mailbox and one that ends, and the commands on a TX
mailbox. The happenings keep locks and queue through `Kept`. -/

namespace Sys2Proof.Machine

/-! ### Locks and queue: what they read of a mailbox -/

/-- The mailbox is LOCKED exactly while a data frame is SENDING from it, and the queue keeps R108 (R97, R108). -/
def PathOk (s : State) : Prop := LocksOk s ∧ QueueOk s

/-- A mailbox that agrees in what the locks and the queue read: whether it is TX EVENT, QUEUED, LOCKED. -/
structure SameRole (b b' : Mailbox) : Prop where
  event : b'.isEvent = b.isEvent
  queued : b'.inState .queued = b.inState .queued
  locked : b'.inState .locked = b.inState .locked

theorem SameRole.refl (b : Mailbox) : SameRole b b := ⟨rfl, rfl, rfl⟩

theorem sameRole_put {s : State} {m : Fin 24} {b : Mailbox} (hb : SameRole s.boxes[m] b) (k : Fin 24) :
    SameRole s.boxes[k] (put s.boxes m b)[k] := by
  by_cases hk : k = m
  · subst hk; rw [put_get_same]; exact hb
  · rw [put_get_other _ _ _ _ hk]; exact .refl _

/-- Locks and queue stand as they did where mailboxes agree in role and requester and queue are the same. -/
theorem pathOk_of_same {s t : State} (h : PathOk s) (hboxes : ∀ m : Fin 24, SameRole s.boxes[m] t.boxes[m])
    (hmailbox : sendingMailbox t = sendingMailbox s) (hevent : sendingEvent t = sendingEvent s)
    (hentries : t.queue.entries = s.queue.entries) : PathOk t := by
  obtain ⟨hlocks, hlen, hnodup, hmem, hqueued, hhead⟩ := h
  refine ⟨fun m => ?_, ?_, ?_, fun m hm => ?_, fun m hm => ?_, fun m hm => ?_⟩
  · rw [(hboxes m).locked, hmailbox]; exact hlocks m
  · rw [hentries]; exact hlen
  · rw [hentries]; exact hnodup
  · rw [(hboxes m).event, (hboxes m).queued, hevent]; exact hmem m (hentries ▸ hm)
  · rw [(hboxes m).queued] at hm; rw [hentries]; exact hqueued m hm
  · rw [hentries]; exact hhead m (hevent ▸ hm)

theorem sending_of_tx {s t : State} (h : t.tx.map (·.requester) = s.tx.map (·.requester)) :
    sendingMailbox t = sendingMailbox s ∧ sendingEvent t = sendingEvent s := by
  unfold sendingMailbox sendingEvent
  rcases hs : s.tx with _ | x <;> rcases ht : t.tx with _ | y <;> simp [hs, ht] at h ⊢
  rw [h]; exact ⟨rfl, rfl⟩

theorem pathOk_of_records {s t : State} (h : PathOk s) (hboxes : ∀ m : Fin 24, SameRole s.boxes[m] t.boxes[m])
    (htx : t.tx = s.tx) (hentries : t.queue.entries = s.queue.entries) : PathOk t :=
  let ⟨hmailbox, hevent⟩ := sending_of_tx (congrArg (Option.map (·.requester)) htx)
  pathOk_of_same h hboxes hmailbox hevent hentries

theorem pathOk_setBox {s : State} {m : Fin 24} {b : Mailbox} (h : PathOk s) (hb : SameRole s.boxes[m] b) :
    PathOk { s with boxes := put s.boxes m b } :=
  pathOk_of_records h (sameRole_put hb) rfl rfl

/-! ### A frame begins from a mailbox -/

/-- With nothing in transmission no mailbox is LOCKED. -/
theorem not_locked_of_idle {s : State} (h : LocksOk s) (htx : s.tx = none) (m : Fin 24) :
    s.boxes[m].inState .locked = false := by
  rw [Bool.eq_false_iff]
  intro hlocked
  have := (h m).mp hlocked
  simp [sendingMailbox, htx] at this

/-- With nothing in transmission a mailbox in the queue is QUEUED. -/
theorem queued_of_mem_idle {s : State} (h : QueueOk s) (htx : s.tx = none) {m : Fin 24} (hm : m ∈ s.queue.entries) :
    s.boxes[m].inState .queued = true := by
  obtain ⟨-, -, hmem, -, -⟩ := h
  refine (hmem m hm).2.resolve_right ?_
  simp [sendingEvent, htx]

/-- A mailbox that a frame begins from is LOCKED, and no other changes: the locks stand. -/
theorem locksOk_begin {s : State} {m : Fin 24} {b : TxMailbox} {t : Transmission} (h : LocksOk s) (htx : s.tx = none)
    (hr : t.requester = .slot m ∨ t.requester = .event m) :
    LocksOk { s with boxes := put s.boxes m (.tx { b with state := .locked }), tx := some t } := by
  have hsending : sendingMailbox { s with boxes := put s.boxes m (.tx { b with state := .locked }), tx := some t } = some m := by
    obtain hr | hr := hr <;> simp [sendingMailbox, hr]
  intro k
  rw [hsending]
  by_cases hk : k = m
  · subst hk; simp only [put_get_same]; simp [Mailbox.inState]
  · have := not_locked_of_idle h htx k
    simp only [put_get_other _ _ _ _ hk, this]
    simp [Ne.symm hk]

/-- A slot's frame begins: its mailbox was LOADED, so it is not in the queue. -/
theorem pathOk_slotSends {s : State} {m : Fin 24} {b : TxMailbox} {t : Transmission} (hb : s.boxes[m] = .tx b)
    (hl : b.state = .loaded) (htx : s.tx = none) (hr : t.requester = .slot m) (h : PathOk s) :
    PathOk { s with boxes := put s.boxes m (.tx { b with state := .locked }), tx := some t } := by
  obtain ⟨hlocks, hqueue⟩ := h
  have hnotmem : m ∉ s.queue.entries := fun hm => by
    have := queued_of_mem_idle hqueue htx hm
    simp [hb, Mailbox.inState, hl] at this
  obtain ⟨hlen, hnodup, hmem, hqueued, -⟩ := hqueue
  refine ⟨locksOk_begin hlocks htx (.inl hr), hlen, hnodup, fun k hk => ?_, fun k hk => ?_, fun k hk => ?_⟩
  · have hne : k ≠ m := fun heq => hnotmem (heq ▸ hk)
    simp only [put_get_other _ _ _ _ hne]
    obtain ⟨hevent, hq | hsend⟩ := hmem k hk
    · exact ⟨hevent, .inl hq⟩
    · simp [sendingEvent, htx] at hsend
  · by_cases hkm : k = m
    · subst hkm; simp only [put_get_same] at hk; simp [Mailbox.inState] at hk
    · simp only [put_get_other _ _ _ _ hkm] at hk; exact hqueued k hk
  · simp [sendingEvent, hr] at hk

/-- The head's frame begins: it was QUEUED, and stays in the queue as its head in transmission (R114). -/
theorem pathOk_headSends {s : State} {m : Fin 24} {b : TxMailbox} {t : Transmission} (hb : s.boxes[m] = .tx b)
    (hm : s.queue.entries.head? = some m) (htx : s.tx = none) (hr : t.requester = .event m) (h : PathOk s) :
    PathOk { s with boxes := put s.boxes m (.tx { b with state := .locked }), tx := some t } := by
  obtain ⟨hlocks, hlen, hnodup, hmem, hqueued, -⟩ := h
  refine ⟨locksOk_begin hlocks htx (.inr hr), hlen, hnodup, fun k hk => ?_, fun k hk => ?_, fun k hk => ?_⟩
  · obtain ⟨hevent, hstate⟩ := hmem k hk
    by_cases hkm : k = m
    · subst hkm
      refine ⟨?_, .inr (by simp [sendingEvent, hr])⟩
      rw [hb] at hevent
      simp only [put_get_same]; exact hevent
    · simp only [put_get_other _ _ _ _ hkm]
      obtain hq | hsend := hstate
      · exact ⟨hevent, .inl hq⟩
      · simp [sendingEvent, htx] at hsend
  · by_cases hkm : k = m
    · subst hkm; simp only [put_get_same] at hk; simp [Mailbox.inState] at hk
    · simp only [put_get_other _ _ _ _ hkm] at hk; exact hqueued k hk
  · have : m = k := by simpa [sendingEvent, hr] using hk
    subst this; exact hm

theorem sameRole_take (r : RxMailbox) (b : RxMailbox) : SameRole (.rx r) (.rx b) := ⟨rfl, rfl, rfl⟩

theorem sameRole_tx {b b' : TxMailbox} (hmode : b'.mode = b.mode) (hstate : b'.state = b.state) :
    SameRole (.tx b) (.tx b') := by
  constructor <;> simp [Mailbox.isEvent, Mailbox.inState, hmode, hstate]

theorem pathOk_kept : Kept PathOk where
  same h hsame := pathOk_of_records h (fun m => by rw [hsame.boxes]; exact .refl _) hsame.tx hsame.entries
  flag _ h := h
  heard _ _ h := h
  missed _ h := h
  taken _ hr _ h := pathOk_setBox h (by rw [hr]; exact sameRole_take _ _)
  refused _ hb h := pathOk_setBox h (by rw [hb]; exact sameRole_tx rfl rfl)
  slotSends hb hl htx hr h := pathOk_slotSends hb hl htx hr h
  launches htx hr h := pathOk_of_same h (fun _ => .refl _) (by simp [sendingMailbox, htx, hr])
    (by simp [sendingEvent, htx, hr]) rfl
  readback htx hr h :=
    let ⟨hmailbox, hevent⟩ := sending_of_tx (by simp [htx, hr])
    pathOk_of_same h (fun _ => .refl _) hmailbox hevent rfl

/-! ### The end of a transmission -/

@[simp] theorem applyPending_mode (b : TxMailbox) : b.applyPending.mode = b.mode := by
  unfold TxMailbox.applyPending TxMailbox.commit
  split <;> rfl

/-- A pending commit takes a FREE mailbox to LOADED and leaves another's state (R102). -/
theorem applyPending_state (b : TxMailbox) :
    b.applyPending.state = b.state ∨ b.state = .free ∧ b.applyPending.state = .loaded := by
  rw [applyPending_eq]
  unfold deferred
  split
  · by_cases hf : b.state = .free <;> simp [hf]
  · exact .inl rfl

/-- A mailbox whose frame is SENDING is TX and LOCKED, and no other mailbox is. -/
theorem locked_of_sending {s : State} {m : Fin 24} (h : LocksOk s) (hm : sendingMailbox s = some m) :
    (∃ b, s.boxes[m] = .tx b ∧ b.state = .locked) ∧ ∀ k : Fin 24, k ≠ m → s.boxes[k].inState .locked = false := by
  constructor
  · have hlocked := (h m).mpr hm
    cases hb : s.boxes[m] with
    | tx b => exact ⟨b, rfl, by simpa [hb, Mailbox.inState] using hlocked⟩
    | rx r => simp [hb, Mailbox.inState] at hlocked
  · intro k hk
    rw [Bool.eq_false_iff]
    intro hlocked
    exact hk (Option.some.inj (((h k).mp hlocked).symm.trans hm))

theorem sendingMailbox_of_event {s : State} {m : Fin 24} (h : sendingEvent s = some m) : sendingMailbox s = some m := by
  rcases htx : s.tx with _ | ⟨_ | _ | _, _, _, _⟩ <;> simp_all [sendingEvent, sendingMailbox]

/-- Only the mailbox in transmission may be in the queue without being QUEUED. -/
theorem queued_of_mem_other {s : State} {m k : Fin 24} (h : QueueOk s) (hm : sendingMailbox s = some m) (hk : k ∈ s.queue.entries)
    (hkm : k ≠ m) : s.boxes[k].inState .queued = true := by
  obtain ⟨-, -, hmem, -, -⟩ := h
  exact (hmem k hk).2.resolve_right fun hevent => hkm (Option.some.inj ((sendingMailbox_of_event hevent).symm.trans hm))

/-- The lock of a mailbox ends and the mailbox is no longer in the queue: it is FREE or LOADED now. -/
theorem pathOk_lockEnds_out {s u : State} {m : Fin 24} {b : TxMailbox} (h : PathOk s) (hm : sendingMailbox s = some m)
    (hstate : b.state = .free ∨ b.state = .loaded) (htx : u.tx = none) (hboxes : u.boxes = put s.boxes m (.tx b))
    (hentries : u.queue.entries = s.queue.entries.filter (· != m)) : PathOk u := by
  obtain ⟨hlocks, hqueue⟩ := h
  obtain ⟨-, hother⟩ := locked_of_sending hlocks hm
  have ⟨hlen, hnodup, hmem, hqueued, _⟩ := hqueue
  have hidle : sendingMailbox u = none ∧ sendingEvent u = none := by simp [sendingMailbox, sendingEvent, htx]
  refine ⟨fun k => ?_, ?_, ?_, fun k hk => ?_, fun k hk => ?_, fun k hk => ?_⟩
  · rw [hidle.1, hboxes]
    by_cases hkm : k = m
    · subst hkm; simp only [put_get_same]; obtain hs | hs := hstate <;> simp [Mailbox.inState, hs]
    · simp only [put_get_other _ _ _ _ hkm, hother k hkm]; simp
  · rw [hentries]; exact (List.length_filter_le _ _).trans hlen
  · rw [hentries]; exact hnodup.filter _
  · rw [hentries, List.mem_filter] at hk
    have hkm : k ≠ m := by simpa using hk.2
    rw [hboxes]
    simp only [put_get_other _ _ _ _ hkm]
    exact ⟨(hmem k hk.1).1, .inl (queued_of_mem_other hqueue hm hk.1 hkm)⟩
  · rw [hboxes] at hk
    by_cases hkm : k = m
    · subst hkm; simp only [put_get_same] at hk; obtain hs | hs := hstate <;> simp [Mailbox.inState, hs] at hk
    · simp only [put_get_other _ _ _ _ hkm] at hk
      rw [hentries, List.mem_filter]; exact ⟨hqueued k hk, by simpa using hkm⟩
  · rw [hidle.2] at hk; cases hk

/-- The lock of an event's mailbox ends and it stays at the head, QUEUED again (R115, R116). -/
theorem pathOk_lockEnds_queued {s u : State} {m : Fin 24} {b : TxMailbox} (h : PathOk s) (hm : sendingMailbox s = some m)
    (he : sendingEvent s = some m) (hmode : (Mailbox.tx b).isEvent = s.boxes[m].isEvent) (hstate : b.state = .queued)
    (htx : u.tx = none) (hboxes : u.boxes = put s.boxes m (.tx b)) (hentries : u.queue.entries = s.queue.entries) :
    PathOk u := by
  obtain ⟨hlocks, hqueue⟩ := h
  obtain ⟨-, hother⟩ := locked_of_sending hlocks hm
  have ⟨hlen, hnodup, hmem, hqueued, hhead⟩ := hqueue
  have hmemHead : m ∈ s.queue.entries := List.mem_of_head? (hhead m he)
  have hidle : sendingMailbox u = none ∧ sendingEvent u = none := by simp [sendingMailbox, sendingEvent, htx]
  refine ⟨fun k => ?_, hentries ▸ hlen, hentries ▸ hnodup, fun k hk => ?_, fun k hk => ?_, fun k hk => ?_⟩
  · rw [hidle.1, hboxes]
    by_cases hkm : k = m
    · subst hkm; simp only [put_get_same]; simp [Mailbox.inState, hstate]
    · simp only [put_get_other _ _ _ _ hkm, hother k hkm]; simp
  · rw [hentries] at hk
    rw [hboxes]
    by_cases hkm : k = m
    · subst hkm
      simp only [put_get_same]
      exact ⟨hmode.trans (hmem k hk).1, .inl (by simp [Mailbox.inState, hstate])⟩
    · simp only [put_get_other _ _ _ _ hkm]
      exact ⟨(hmem k hk).1, .inl (queued_of_mem_other hqueue hm hk hkm)⟩
  · rw [hentries]
    by_cases hkm : k = m
    · subst hkm; exact hmemHead
    · rw [hboxes] at hk; simp only [put_get_other _ _ _ _ hkm] at hk; exact hqueued k hk
  · rw [hidle.2] at hk; cases hk

/-- A cycle-start frame ends: it has no mailbox. -/
theorem pathOk_launchEnds {s u : State} {t : Transmission} (h : PathOk s) (htx : s.tx = some t) (hr : t.requester = .cycleStart)
    (hu : u.tx = none) (hboxes : u.boxes = s.boxes) (hentries : u.queue.entries = s.queue.entries) : PathOk u :=
  pathOk_of_same h (fun _ => by rw [hboxes]; exact .refl _) (by simp [sendingMailbox, hu, htx, hr])
    (by simp [sendingEvent, hu, htx, hr]) hentries

/-- A slot's mailbox is not in the queue, so leaving the queue changes nothing. -/
theorem slot_not_in_queue {s : State} {m : Fin 24} {t : Transmission} (h : PathOk s) (htx : s.tx = some t)
    (hr : t.requester = .slot m) : s.queue.entries.filter (· != m) = s.queue.entries := by
  obtain ⟨hlocks, -, -, hmem, -, -⟩ := h
  have hm : sendingMailbox s = some m := by simp [sendingMailbox, htx, hr]
  obtain ⟨⟨b, hb, hl⟩, -⟩ := locked_of_sending hlocks hm
  rw [List.filter_eq_self]
  intro k hk
  obtain ⟨-, hq | he⟩ := hmem k hk
  · simp only [bne_iff_ne]; rintro rfl; simp [hb, Mailbox.inState, hl] at hq
  · simp [sendingEvent, htx, hr] at he

/-- The mailbox in transmission after the change `f` of its outcome and the pending commit. -/
theorem updateTx_locked {s : State} {m : Fin 24} (h : PathOk s) (hm : sendingMailbox s = some m) (f : TxMailbox → TxMailbox)
    {u : State} (hu : u.boxes = s.boxes) :
    ∃ b, s.boxes[m] = .tx b ∧ updateTx m (fun b => (f b).applyPending) u =
      { u with boxes := put s.boxes m (.tx (f b).applyPending) } := by
  obtain ⟨⟨b, hb, -⟩, -⟩ := locked_of_sending h.1 hm
  have hub : u.boxes[m] = .tx b := by rw [hu]; exact hb
  exact ⟨b, hb, by rw [updateTx_tx hub, hu]⟩

theorem applyPending_out {b : TxMailbox} (h : b.state = .free ∨ b.state = .loaded) :
    b.applyPending.state = .free ∨ b.applyPending.state = .loaded := by
  obtain heq | ⟨-, hl⟩ := applyPending_state b
  · rwa [heq]
  · exact .inr hl

theorem applyPending_queued {b : TxMailbox} (h : b.state = .queued) : b.applyPending.state = .queued := by
  obtain heq | ⟨hf, -⟩ := applyPending_state b
  · rwa [heq]
  · rw [h] at hf; cases hf

/-- The slot's lock ends with a change that leaves the mailbox FREE or LOADED. -/
theorem pathOk_slotEnds {s u : State} {m : Fin 24} {t : Transmission} (h : PathOk s) (htx : s.tx = some t)
    (hr : t.requester = .slot m) {f : TxMailbox → TxMailbox} (hf : ∀ b, (f b).state = .free ∨ (f b).state = .loaded)
    (hu : u.tx = none) (hboxes : u.boxes = s.boxes) (hentries : u.queue.entries = s.queue.entries) :
    PathOk (updateTx m (fun b => (f b).applyPending) u) := by
  have hm : sendingMailbox s = some m := by simp [sendingMailbox, htx, hr]
  obtain ⟨b, -, heq⟩ := updateTx_locked h hm f hboxes
  rw [heq]
  exact pathOk_lockEnds_out h hm (applyPending_out (hf b)) hu rfl (hentries.trans (slot_not_in_queue h htx hr).symm)

/-- The event's lock ends with a change that leaves the mailbox FREE or LOADED, and it leaves the queue. -/
theorem pathOk_eventLeaves {s u : State} {m : Fin 24} {t : Transmission} (h : PathOk s) (htx : s.tx = some t)
    (hr : t.requester = .event m) {f : TxMailbox → TxMailbox} (hf : ∀ b, (f b).state = .free ∨ (f b).state = .loaded)
    (hu : u.tx = none) (hboxes : u.boxes = s.boxes) (hentries : u.queue.entries = s.queue.entries) :
    PathOk (leaveQueue m (updateTx m (fun b => (f b).applyPending) u)) := by
  have hm : sendingMailbox s = some m := by simp [sendingMailbox, htx, hr]
  obtain ⟨b, -, heq⟩ := updateTx_locked h hm f hboxes
  rw [heq]
  exact pathOk_lockEnds_out h hm (applyPending_out (hf b)) hu rfl (by simp [leaveQueue, hentries])

/-- The event's lock ends with a change that leaves the mailbox QUEUED. -/
theorem pathOk_eventStays {s u : State} {m : Fin 24} {t : Transmission} (h : PathOk s) (htx : s.tx = some t)
    (hr : t.requester = .event m) {f : TxMailbox → TxMailbox} (hf : ∀ b, (f b).state = .queued ∧ (f b).mode = b.mode)
    (hu : u.tx = none) (hboxes : u.boxes = s.boxes) (hentries : u.queue.entries = s.queue.entries) :
    PathOk (updateTx m (fun b => (f b).applyPending) u) := by
  have hm : sendingMailbox s = some m := by simp [sendingMailbox, htx, hr]
  obtain ⟨b, hb, heq⟩ := updateTx_locked h hm f hboxes
  rw [heq]
  refine pathOk_lockEnds_queued h hm (by simp [sendingEvent, htx, hr]) ?_ (applyPending_queued (hf b).1) hu rfl hentries
  rw [hb]; simp [Mailbox.isEvent, (hf b).2]

theorem slotSent_out (b : TxMailbox) : b.slotSent.state = .free ∨ b.slotSent.state = .loaded := by
  unfold TxMailbox.slotSent
  by_cases h : b.mode = .scheduled true <;> simp [h]

section
variable {s : State} {t : Transmission} (h : PathOk s) (htx : s.tx = some t)
include h htx

theorem pathOk_outcomeCompleted : PathOk (outcomeCompleted t.requester (transmitterIdle s)) := by
  have hkept := pathOk_kept
  cases hr : t.requester with
  | cycleStart => exact pathOk_launchEnds h htx hr rfl rfl rfl
  | slot m => exact hkept.raiseAttention m (pathOk_slotEnds h htx hr slotSent_out rfl rfl rfl)
  | event m =>
    exact hkept.flag _ (hkept.raiseAttention m
      (pathOk_eventLeaves h htx hr (f := TxMailbox.eventSent) (fun _ => .inl rfl) rfl rfl rfl))

theorem pathOk_outcomeCollided : PathOk (outcomeCollided t.requester (countCollision (transmitterIdle s))) := by
  have hkept := pathOk_kept
  cases hr : t.requester with
  | cycleStart => exact pathOk_launchEnds h htx hr rfl rfl rfl
  | slot m =>
    exact hkept.raiseAttention m
      (pathOk_slotEnds h htx hr (f := TxMailbox.slotCollided) (fun _ => .inr rfl) rfl rfl rfl)
  | event m =>
    unfold outcomeCollided
    simp only
    split
    · exact pathOk_eventStays h htx hr (f := TxMailbox.eventRetried) (fun _ => ⟨rfl, rfl⟩) rfl rfl rfl
    · exact hkept.flag _ (hkept.raiseAttention m
        (pathOk_eventLeaves h htx hr (f := TxMailbox.eventDropped) (fun _ => .inr rfl) rfl rfl rfl))

theorem pathOk_completeTransmission : PathOk (completeTransmission t s) :=
  pathOk_kept.settleWait (pathOk_kept.finishStopping (pathOk_outcomeCompleted h htx))

theorem pathOk_collideTransmission : PathOk (collideTransmission t s) :=
  pathOk_kept.settleWait (pathOk_kept.finishStopping (pathOk_outcomeCollided h htx))

end

theorem transmitterIdle_updateTx (m : Fin 24) (f : TxMailbox → TxMailbox) (s : State) :
    transmitterIdle (updateTx m f s) = updateTx m f (transmitterIdle s) := by
  cases hb : s.boxes[m] with
  | tx b => rw [updateTx_tx hb, updateTx_tx (s := transmitterIdle s) hb]; rfl
  | rx r => rw [updateTx_rx hb, updateTx_rx (s := transmitterIdle s) hb]

/-- A frame that is cut leaves a slot's mailbox LOADED and an event's QUEUED (R107, R116). -/
theorem pathOk_cutTransmission {s : State} (h : PathOk s) : PathOk (cutTransmission s) := by
  unfold cutTransmission
  split
  · exact h
  next t htx =>
    cases hr : t.requester with
    | cycleStart => exact pathOk_launchEnds h htx hr rfl rfl rfl
    | slot m =>
      change PathOk (transmitterIdle (updateTx m _ s))
      rw [transmitterIdle_updateTx]
      exact pathOk_slotEnds h htx hr (f := TxMailbox.slotCut) (fun _ => .inr rfl) rfl rfl rfl
    | event m =>
      change PathOk (transmitterIdle (updateTx m _ s))
      rw [transmitterIdle_updateTx]
      exact pathOk_eventStays h htx hr (f := TxMailbox.eventCut) (fun _ => ⟨rfl, rfl⟩) rfl rfl rfl

theorem pathOk_endOfCt {s : State} (h : PathOk s) : PathOk (endOfCt s) := by
  obtain ⟨-, heq⟩ | ⟨-, heq⟩ := endOfCt_cases s
  · rw [heq]; exact h
  · have hpasses := pathOk_kept.ctPasses h
    rw [heq]
    refine pathOk_kept.advanceTimer ?_
    obtain ⟨-, heq⟩ | ⟨t, htx, -, -, heq⟩ | ⟨t, htx, -, heq⟩ := endDueTransmission_cases (ctPasses s)
    · rw [heq]; exact hpasses
    · rw [heq]; exact pathOk_completeTransmission hpasses htx
    · rw [heq]; exact pathOk_collideTransmission hpasses htx

/-! ### The head of the queue -/

/-- The head of the queue and its window, where there are both. -/
theorem headAndWindow_eq_some {s : State} {m : Fin 24} {b : TxMailbox} {finish : Nat}
    (h : headAndWindow s = some (m, b, finish)) :
    s.queue.entries.head? = some m ∧ s.boxes[m] = .tx b ∧ ∃ sl, s.seq.slot = some sl ∧ sl.finish = finish := by
  unfold headAndWindow at h
  split at h
  next hm hsl =>
    split at h
    next hb => cases h; exact ⟨hm, hb, _, hsl, rfl⟩
    · cases h
  · cases h

/-- The abandonment of an assembly keeps the transmission, the mailboxes and the queue, so the head's lock may be taken
after it. -/
theorem pathOk_sendHead {s : State} {m : Fin 24} {b : TxMailbox} (hm : s.queue.entries.head? = some m)
    (hb : s.boxes[m] = .tx b) (htx : s.tx = none) (h : PathOk s) : PathOk (sendHead m b s) := by
  unfold sendHead
  rw [updateTx_tx hb]
  unfold beginFrame
  rw [abandonAssembly_boxes]
  refine pathOk_of_records (pathOk_headSends (s := s) (t := ⟨.event m, (mailboxFrame .eventData b s).characters s.params, 0, false⟩)
    hb hm htx rfl h) ?_ ?_ ?_ <;> simp
  exact fun k => .refl _

theorem pathOk_elapse {s : State} (hmay : headMayWait s = true) (h : PathOk s) : PathOk (elapse s) := by
  obtain ⟨-, -, -, htx, -, -⟩ := (headMayWait_iff s).mp hmay
  unfold elapse
  split
  · exact h
  next hhead =>
    obtain ⟨hm, hb, -⟩ := headAndWindow_eq_some hhead
    refine pathOk_kept.settleWait ?_
    split
    · exact pathOk_sendHead hm hb htx h
    · exact h

/-! ### Commands and accesses of the host: locks and queue -/

theorem pathOk_complete {s : State} (r : ResultCode) (h : PathOk s) : PathOk (complete r s) := pathOk_kept.complete r h

theorem pathOk_setBox_complete {s : State} {m : Fin 24} {b : Mailbox} (r : ResultCode) (h : PathOk s)
    (hb : SameRole s.boxes[m] b) : PathOk (complete r (setBox m b s)) :=
  pathOk_complete r (pathOk_setBox h hb)

theorem pathOk_commitOn {s : State} {m : Fin 24} {b : TxMailbox} (hb : s.boxes[m] = .tx b) (h : PathOk s) :
    PathOk (commitOn m b s) := by
  have hcommit : SameRole s.boxes[m] (.tx b.commit) := by
    rw [hb]
    constructor
    · rfl
    all_goals by_cases hf : b.state = .free <;> simp [Mailbox.inState, TxMailbox.commit, hf]
  unfold commitOn
  split
  · exact pathOk_complete _ h
  · split
    · exact pathOk_complete _ h
    · split
      · exact pathOk_setBox_complete _ h (by rw [hb]; exact sameRole_tx rfl rfl)
      · exact pathOk_setBox_complete _ h hcommit

theorem pathOk_withdrawOn {s : State} {m : Fin 24} {b : TxMailbox} (hb : s.boxes[m] = .tx b) (h : PathOk s) :
    PathOk (withdrawOn m b s) := by
  unfold withdrawOn
  split
  next hl =>
    refine pathOk_setBox_complete _ h ?_
    rw [hb]
    constructor <;> simp [Mailbox.isEvent, Mailbox.inState, hl]
  all_goals exact pathOk_complete _ h

/-- A LOADED EVENT mailbox joins the tail of a queue with room (R109). -/
theorem pathOk_joins {s : State} {m : Fin 24} {b : TxMailbox} (hb : s.boxes[m] = .tx b) (hmode : b.mode = .event)
    (hl : b.state = .loaded) (hroom : s.queue.entries.length < 8) (h : PathOk s) :
    PathOk (joinQueue m (setBox m (.tx { b with state := .queued, retry := 0 }) s)) := by
  obtain ⟨hlocks, hlen, hnodup, hmem, hqueued, hhead⟩ := h
  have hsending : sendingMailbox s ≠ some m := fun hm => by
    have hlocked := (hlocks m).mpr hm
    simp [hb, Mailbox.inState, hl] at hlocked
  have hnotmem : m ∉ s.queue.entries := fun hm => by
    obtain ⟨-, hq | he⟩ := hmem m hm
    · simp [hb, Mailbox.inState, hl] at hq
    · exact hsending (sendingMailbox_of_event he)
  have hentries : (joinQueue m (setBox m (.tx { b with state := .queued, retry := 0 }) s)).queue.entries =
      s.queue.entries ++ [m] := rfl
  have hother : ∀ k : Fin 24, k ≠ m →
      (joinQueue m (setBox m (.tx { b with state := .queued, retry := 0 }) s)).boxes[k] = s.boxes[k] :=
    fun k hk => put_get_other _ _ _ _ hk
  have hself : (joinQueue m (setBox m (.tx { b with state := .queued, retry := 0 }) s)).boxes[m] =
      .tx { b with state := .queued, retry := 0 } := put_get_same _ _ _
  refine ⟨fun k => ?_, ?_, ?_, fun k hk => ?_, fun k hk => ?_, fun k hk => ?_⟩
  · by_cases hkm : k = m
    · subst hkm
      rw [hself]
      exact iff_of_false (by simp [Mailbox.inState]) hsending
    · rw [hother k hkm]; exact hlocks k
  · rw [hentries]; simp; omega
  · rw [hentries]; exact hnodup.append (List.nodup_singleton m) (by simpa using hnotmem)
  · by_cases hkm : k = m
    · subst hkm
      rw [hself]
      exact ⟨by simp [Mailbox.isEvent, hmode], .inl (by simp [Mailbox.inState])⟩
    · rw [hother k hkm]
      rw [hentries, List.mem_append, List.mem_singleton] at hk
      exact hmem k (hk.resolve_right hkm)
  · rw [hentries, List.mem_append, List.mem_singleton]
    by_cases hkm : k = m
    · exact .inr hkm
    · rw [hother k hkm] at hk; exact .inl (hqueued k hk)
  · rw [hentries, List.head?_append, hhead k hk]; rfl

theorem pathOk_sendEventOn {s : State} {m : Fin 24} {b : TxMailbox} (hb : s.boxes[m] = .tx b) (h : PathOk s) :
    PathOk (sendEventOn m b s) := by
  unfold sendEventOn
  split
  · exact pathOk_complete _ h
  next hmode =>
    split
    case h_4 hl =>
      split
      · exact pathOk_complete _ h
      next hroom => exact pathOk_complete _ (pathOk_kept.settleWait
          (pathOk_joins hb (not_not.mp hmode) hl (by simpa using hroom) h))
    all_goals exact pathOk_complete _ h

/-- A mailbox that is not in transmission leaves the queue, no longer QUEUED and not LOCKED (R110, R117). -/
theorem pathOk_leaves {s : State} {m : Fin 24} {b : Mailbox} (hsending : sendingMailbox s ≠ some m)
    (hq : b.inState .queued = false) (hl : b.inState .locked = false) (h : PathOk s) :
    PathOk (leaveQueue m (setBox m b s)) := by
  obtain ⟨hlocks, hlen, hnodup, hmem, hqueued, hhead⟩ := h
  have hentries : (leaveQueue m (setBox m b s)).queue.entries = s.queue.entries.filter (· != m) := rfl
  have hother : ∀ k : Fin 24, k ≠ m → (leaveQueue m (setBox m b s)).boxes[k] = s.boxes[k] :=
    fun k hk => put_get_other _ _ _ _ hk
  have hself : (leaveQueue m (setBox m b s)).boxes[m] = b := put_get_same _ _ _
  refine ⟨fun k => ?_, ?_, ?_, fun k hk => ?_, fun k hk => ?_, fun k hk => ?_⟩
  · by_cases hkm : k = m
    · subst hkm; rw [hself]; exact iff_of_false (by simp [hl]) hsending
    · rw [hother k hkm]; exact hlocks k
  · rw [hentries]; exact (List.length_filter_le _ _).trans hlen
  · rw [hentries]; exact hnodup.filter _
  · rw [hentries, List.mem_filter] at hk
    rw [hother k (by simpa using hk.2)]; exact hmem k hk.1
  · rw [hentries, List.mem_filter]
    by_cases hkm : k = m
    · subst hkm; rw [hself, hq] at hk; cases hk
    · rw [hother k hkm] at hk; exact ⟨hqueued k hk, by simpa using hkm⟩
  · have hkm : k ≠ m := fun heq => hsending (heq ▸ sendingMailbox_of_event hk)
    have hk' := hhead k hk
    rw [hentries]
    cases he : s.queue.entries with
    | nil => rw [he] at hk'; cases hk'
    | cons x rest =>
      obtain rfl : x = k := by simpa [he] using hk'
      simp [hkm]

theorem pathOk_cancelEventOn {s : State} {m : Fin 24} {b : TxMailbox} (hb : s.boxes[m] = .tx b) (h : PathOk s) :
    PathOk (cancelEventOn m b s) := by
  unfold cancelEventOn
  split
  · exact pathOk_complete _ h
  · split
    case h_1 hq =>
      have hsending : sendingMailbox s ≠ some m := fun hm => by
        have hlocked := (h.1 m).mpr hm
        simp [hb, Mailbox.inState, hq] at hlocked
      exact pathOk_complete _ (pathOk_kept.settleWait (pathOk_leaves hsending (by simp [Mailbox.inState])
        (by simp [Mailbox.inState]) h))
    all_goals exact pathOk_complete _ h

theorem pathOk_holdOn {s : State} {m : Fin 24} {r : RxMailbox} (hr : s.boxes[m] = .rx r) (h : PathOk s) :
    PathOk (holdOn m r s) := by
  unfold holdOn
  split
  case h_3 => exact pathOk_setBox_complete _ h (by rw [hr]; exact sameRole_take _ _)
  all_goals exact pathOk_complete _ h

theorem pathOk_releaseOn {s : State} {m : Fin 24} {r : RxMailbox} (hr : s.boxes[m] = .rx r) (h : PathOk s) :
    PathOk (releaseOn m r s) := by
  by_cases hempty : r.state = .empty
  · rw [releaseOn_empty hempty]; exact pathOk_complete _ h
  · have hbox : PathOk (setBox m (.rx r.release.1) s) := pathOk_setBox h (by rw [hr]; exact sameRole_take _ _)
    rw [releaseOn_not_empty hempty]
    refine pathOk_complete _ ?_
    split
    · exact pathOk_kept.raiseAttention m hbox
    · exact hbox

theorem mailboxOfCode_idle {code : Byte} {b : Mailbox} (h : mailboxOfCode code = some b) :
    b.inState .queued = false ∧ b.inState .locked = false := by
  unfold mailboxOfCode at h
  (repeat' split at h) <;> cases h <;> exact ⟨rfl, rfl⟩

theorem not_sending_of_off {s : State} (htx : TransmitterOk s) (hoff : s.link.state = .off) : s.tx = none := by
  cases hs : s.tx with
  | none => rfl
  | some t =>
    have := htx.1 (by simp [hs])
    simp [hoff, LinkState.timed] at this

theorem pathOk_configMailboxAction {s : State} (htx : TransmitterOk s) (h : PathOk s) :
    PathOk (configMailboxAction s) := by
  unfold configMailboxAction
  split
  · exact pathOk_complete _ h
  · exact pathOk_complete _ h
  next hcode =>
    split
    next hoff =>
      obtain ⟨hq, hl⟩ := mailboxOfCode_idle hcode
      exact pathOk_complete _ (pathOk_leaves (by simp [sendingMailbox, not_sending_of_off htx hoff]) hq hl h)
    · exact pathOk_complete _ h

theorem pathOk_clearCountersAction {s : State} (h : PathOk s) : PathOk (clearCountersAction s) := by
  refine pathOk_complete _ (pathOk_of_records h (fun m => ?_) rfl rfl)
  rw [mapTable_get]
  cases s.boxes[m] with
  | tx b => exact .refl _
  | rx r => exact sameRole_take _ _

theorem pathOk_haltSteps {s : State} (h : PathOk s) : PathOk (haltSteps s) := by
  have hcut := pathOk_cutTransmission (pathOk_kept.abandonCommand h)
  unfold haltSteps
  simp only
  split
  · exact hcut
  · exact pathOk_kept.enterOff hcut

/-- LINK_RESET leaves no mailbox QUEUED and an empty queue (R121). -/
theorem pathOk_resetRunTime {s : State} (htx : s.tx = none) (h : PathOk s) : PathOk (resetRunTime s) := by
  obtain ⟨hlocks, -⟩ := h
  have hidle : sendingMailbox (resetRunTime s) = none ∧ sendingEvent (resetRunTime s) = none := by
    simp [sendingMailbox, sendingEvent, htx]
  have hbox : ∀ m : Fin 24, (resetRunTime s).boxes[m] = s.boxes[m].linkReset := fun m => mapTable_get _ _ _
  have hrole : ∀ m : Fin 24, (resetRunTime s).boxes[m].inState .queued = false ∧
      (resetRunTime s).boxes[m].inState .locked = false := fun m => by
    have hl := not_locked_of_idle hlocks htx m
    rw [hbox]
    cases hb : s.boxes[m] with
    | rx r => exact ⟨rfl, rfl⟩
    | tx b =>
      rw [hb] at hl
      by_cases hq : b.state = .queued
      · simp [Mailbox.linkReset, TxMailbox.linkReset, Mailbox.inState, hq]
      · simp [Mailbox.linkReset, TxMailbox.linkReset, Mailbox.inState, hq] at hl ⊢
        exact hl
  refine ⟨fun m => ?_, by simp [resetRunTime], by simp [resetRunTime], fun m hm => ?_, fun m hm => ?_, fun m hm => ?_⟩
  · exact iff_of_false (by rw [(hrole m).2]; nofun) (by rw [hidle.1]; nofun)
  · cases hm
  · rw [(hrole m).1] at hm; cases hm
  · rw [hidle.2] at hm; cases hm

theorem pathOk_actionOf {s : State} (code : Byte) (htx : TransmitterOk s) (h : PathOk s) : PathOk (actionOf code s) := by
  have hkept := pathOk_kept
  unfold actionOf
  split
  · exact hkept.startAction h
  · exact hkept.stopAction h
  · exact hkept.complete _ (pathOk_haltSteps h)
  · exact hkept.goSilentAction h
  · exact hkept.resumeAction h
  · exact hkept.complete _ (pathOk_resetRunTime (haltSteps_tx s) (pathOk_haltSteps h))
  · exact hkept.armAction h
  · exact hkept.disarmAction h
  · exact hkept.onTx (fun _ _ hb => pathOk_commitOn hb h) h
  · exact hkept.onTx (fun _ _ hb => pathOk_withdrawOn hb h) h
  · exact hkept.onTx (fun _ _ hb => pathOk_sendEventOn hb h) h
  · exact hkept.onTx (fun _ _ hb => pathOk_cancelEventOn hb h) h
  · exact hkept.onRx (fun _ _ hr => pathOk_holdOn hr h) h
  · exact hkept.onRx (fun _ _ hr => pathOk_releaseOn hr h) h
  · exact pathOk_configMailboxAction htx h
  · exact pathOk_clearCountersAction h
  · exact hkept.complete _ h

/-- A write that a collection takes changes of the mailboxes a staging at most, so none in its role (R96). -/
theorem writeByte_sameRole {s t : State} {w : WindowByte} {v : Byte} (hw : writeByte w v s = some t) (k : Fin 24) :
    SameRole s.boxes[k] t.boxes[k] := by
  cases w with
  | mailbox m byte =>
    obtain ⟨b, hb, rfl⟩ := Option.map_eq_some_iff.mp hw
    refine sameRole_put ?_ k
    unfold writeMailbox at hb
    split at hb
    · cases hb
    next b₀ hb₀ =>
      split at hb
      · cases hb
      · obtain ⟨g, -, rfl⟩ := Option.map_eq_some_iff.mp hb
        rw [hb₀]; exact sameRole_tx rfl rfl
  | node n byte => obtain ⟨e, -, rfl⟩ := Option.map_eq_some_iff.mp hw; exact .refl _
  | counter | queueView | outside => cases hw
  | point | status | acceptance => cases hw; exact .refl _
  | param =>
    simp only [writeByte] at hw
    split at hw <;> cases hw
    exact .refl _
  | header bank byte =>
    simp only [writeByte] at hw
    split at hw <;> cases hw
    cases bank <;> exact .refl _
  | entry bank i byte =>
    simp only [writeByte] at hw
    split at hw
    · obtain ⟨e, -, rfl⟩ := Option.map_eq_some_iff.mp hw
      cases bank <;> exact .refl _
    · cases hw

theorem pathOk_writeByte {s t : State} {w : WindowByte} {v : Byte} (hw : writeByte w v s = some t) (h : PathOk s) :
    PathOk t := by
  obtain ⟨-, -, htx, -, -, -, -, hqueue, -⟩ := writeByte_keeps hw
  exact pathOk_of_records h (writeByte_sameRole hw) htx (by rw [hqueue])

theorem pathOk_writes {s t : State} {a : BusAddress} {v : Byte} (hw : Writes s a v t) (htx : TransmitterOk s)
    (h : PathOk s) : PathOk t := by
  cases hw with
  | cmd => exact pathOk_kept.writeCmd _ (pathOk_actionOf (s := takenAs v s) _ htx) h
  | data => exact pathOk_kept.writeData _ (fun hw => pathOk_writeByte hw h) h
  | _ => exact h

theorem pathOk_reset (rest : List Instr) : PathOk { State.reset with pending := rest } := by
  have hbox : ∀ m : Fin 24, State.reset.boxes[m] = .rx (RxMailbox.fresh .keep) := fun m => by simp [State.reset]
  refine ⟨fun m => iff_of_false ?_ nofun, Nat.zero_le 8, List.nodup_nil, nofun, fun m hm => ?_, nofun⟩
  · change ¬State.reset.boxes[m].inState .locked = true
    rw [hbox]; nofun
  · change State.reset.boxes[m].inState .queued = true at hm
    rw [hbox] at hm; cases hm

theorem pathOk_acts {s t : State} {c : Instr} (hc : Acts s c t) (htx : TransmitterOk s) (hwait : WaitOk s) (h : PathOk s) :
    PathOk t := by
  have hkept := pathOk_kept
  cases hc with
  | write hw => exact pathOk_writes (busWrite_writes _ _ s) htx h
  | nothing | wdataRead | posLRead | lineHighAfterStopBitError => exact h
  | startValidated => exact hkept.startValidated h
  | armValidated => exact hkept.armValidated h
  | hardwareReset => exact pathOk_reset _
  | startBitConfirmed => exact hkept.confirmStartBit h
  | characterComplete v => exact hkept.completeCharacter v h
  | stopBitError => exact hkept.characterFails h
  | gapTimerExpires => exact hkept.abandonAssembly _ h
  | positionReached | cycleBoundary => exact pathOk_endOfCt h
  | startupSilenceCompletes => exact hkept.settleWait (hkept.completeStartup h)
  | backoffElapses hreached => exact pathOk_elapse (headMayWait_of_backoffReached hwait hreached) h
  | transmissionCompletes t htx => exact pathOk_completeTransmission h htx
  | transmissionCollides t htx => exact pathOk_collideTransmission h htx

end Sys2Proof.Machine
end

section
/-! # The transmitter's states and the head's wait are kept (R69, R91, R111)

The states in which a frame is SENDING, by what each happening does to the link state; then the head's wait, which each
happening that can change a condition of R111 settles at its end; then the obligation on the transmit path. -/

namespace Sys2Proof.Machine

/-! ### Link state and transmitter -/

theorem transmitterOk_of_counting {t : State}
    (h : t.link.state = .align ∨ t.link.state = .running ∨ t.link.state = .listen) : TransmitterOk t := by
  refine ⟨fun _ => ?_, fun hs => ?_⟩
  · obtain h | h | h := h <;> rw [h]
    exacts [.inl rfl, .inl rfl, .inr rfl]
  · rw [hs] at h; simp at h

theorem transmitterOk_of_idle {t : State} (htx : t.tx = none) (h : t.link.state ≠ .stopping) : TransmitterOk t :=
  ⟨by simp [htx], fun hs => absurd hs h⟩

/-- Link state and transmitter as they were, or a frame begun where one may begin. -/
theorem transmitterOk_of_begins {s t : State} (h : TransmitterOk s) (hlink : t.link.state = s.link.state)
    (hbegins : TxBeginsFrom s t) : TransmitterOk t := by
  obtain htx | ⟨hrunning, -⟩ := hbegins
  · exact ⟨by rw [htx, hlink]; exact h.1, by rw [htx, hlink]; exact h.2⟩
  · exact transmitterOk_of_counting (.inr (.inl (hlink.trans hrunning)))

theorem transmitterOk_of_same {s t : State} (h : TransmitterOk s) (hlink : t.link.state = s.link.state)
    (htx : t.tx = s.tx) : TransmitterOk t := transmitterOk_of_begins h hlink (.inl htx)

@[simp] theorem enterOff_link (s : State) : (enterOff s).link = ⟨.off, false, 0⟩ := by
  simp [enterOff, setLinkState_link]

/-- An accepted cycle-start frame leaves RUNNING or ALIGN (R82). -/
theorem compareBanks_state (f : Frame) (n : Nat) (s : State) :
    (compareBanks f n s).link.state = .running ∨ (compareBanks f n s).link.state = .align := by
  unfold compareBanks
  split
  · exact .inl (by simp [runActiveBank, setLinkState_link])
  · split
    · exact .inl (by simp [runActiveBank, setLinkState_link])
    · refine .inr ?_
      unfold goToAlign
      by_cases h : s.link.state = .align <;> simp [h, setLinkState_link]

/-- The link state stays, or an accepted cycle-start frame has set it. -/
def StaysOrAccepts (s t : State) : Prop :=
  t.link.state = s.link.state ∨ t.link.state = .running ∨ t.link.state = .align

theorem staysOrAccepts_handCycleStart (f : Frame) (n : Nat) (s : State) : StaysOrAccepts s (handCycleStart f n s) := by
  unfold handCycleStart
  simp only
  split
  · exact .inl (by simp)
  · unfold acceptCs
    split
    · exact .inr (compareBanks_state _ _ _)
    · exact .inr (compareBanks_state _ _ _)
    · exact .inr (compareBanks_state _ _ _)
    · exact .inl (by simp)

theorem staysOrAccepts_takeCharacter (v : Byte) (s : State) : StaysOrAccepts s (takeCharacter v s) := by
  have hend : StaysOrAccepts s (endAssembly (countCharacter s)) := by
    unfold endAssembly
    simp only
    split
    · exact .inl (by simp)
    · split
      · exact staysOrAccepts_handCycleStart _ _ { countCharacter s with rx := Receiver.hunting }
      · exact .inl (by simp)
  unfold takeCharacter
  split
  · split <;> exact .inl (by simp)
  · unfold inFrameCharacter
    simp only
    split
    · exact .inl (by simp)
    · split
      · exact hend
      · split <;> exact .inl (by simp)
  · exact .inl (by simp)

theorem transmitterOk_completeCharacter {s : State} (v : Byte) (h : TransmitterOk s) :
    TransmitterOk (completeCharacter v s) := by
  cases htx : s.tx with
  | some t =>
    have heq : completeCharacter v s = { lineBecomesIdle s with tx := some (judgeReadback v t) } := by
      unfold completeCharacter; simp [htx]
    rw [heq]
    exact ⟨fun _ => h.1 (by simp [htx]), fun _ => rfl⟩
  | none =>
    have heq : completeCharacter v s = settleWait (takeCharacter v (lineBecomesIdle s)) := by
      unfold completeCharacter; simp [htx]
    have hbegins := txBeginsFrom_completeCharacter v htx
    rw [heq] at hbegins ⊢
    obtain hstays | haccepts := staysOrAccepts_takeCharacter v (lineBecomesIdle s)
    · exact transmitterOk_of_begins h hstays hbegins
    · exact transmitterOk_of_counting (haccepts.elim (fun h => .inr (.inl h)) .inl)

theorem transmitterOk_characterFails {s : State} (h : TransmitterOk s) : TransmitterOk (characterFails s) := by
  unfold characterFails
  simp only
  split
  next t htx =>
    change s.tx = some t at htx
    exact ⟨fun _ => h.1 (by simp [htx]), fun _ => rfl⟩
  · exact transmitterOk_of_same h (by simp) (by simp)

/-- The timer's advance keeps the link state, or sync loss takes it to LISTEN (R86). -/
theorem advanceTimer_state (s : State) :
    (advanceTimer s).link.state = s.link.state ∨ (advanceTimer s).link.state = .listen := by
  have hlost : ∀ u : State, (csWindowEnd u).link.state = u.link.state ∨ (csWindowEnd u).link.state = .listen := by
    intro u
    obtain ⟨-, heq⟩ | ⟨-, -, heq⟩ := csWindowEnd_cases u
    · exact .inl (by rw [heq])
    · obtain ⟨-, -, hlost⟩ | ⟨-, hkept⟩ := missedStart_cases u
      · exact .inr (by rw [heq, hlost]; simp [syncLoss, setLinkState_link])
      · exact .inl (by rw [heq, hkept]; rfl)
  have hcount : ∀ q, (countTo q s).link.state = s.link.state ∨ (countTo q s).link.state = .listen := by
    intro q
    have := hlost { s with timer := { s.timer with position := q } }
    unfold countTo
    simp only
    split
    · split
      · exact this
      · simpa using this
    · split
      · exact .inl rfl
      · exact .inl (by simp)
  obtain ⟨-, heq⟩ | ⟨_, -, -, heq⟩ | ⟨_, -, -, heq⟩ := advanceTimer_cases s <;> rw [heq]
  · exact .inl rfl
  · exact hcount _
  · exact .inl (by simp)

theorem transmitterOk_advanceTimer {s : State} (h : TransmitterOk s) : TransmitterOk (advanceTimer s) := by
  obtain hstays | hlisten := advanceTimer_state s
  · exact transmitterOk_of_begins h hstays (beginsFrom_advanceTimer s).tx
  · exact transmitterOk_of_counting (.inr (.inr hlisten))

/-- After a transmission has ended the link is not in STOPPING, and nothing is SENDING (R91). -/
theorem endTransmission_idle (outcome : State → State) (s : State) (htx : (outcome (transmitterIdle s)).tx = none) :
    (endTransmission outcome s).tx = none ∧ (endTransmission outcome s).link.state ≠ .stopping := by
  unfold endTransmission finishStopping
  split
  · exact ⟨by simpa using htx, by simp⟩
  next h => exact ⟨htx, h⟩

theorem transmitterOk_completeTransmission (t : Transmission) (s : State) : TransmitterOk (completeTransmission t s) :=
  let ⟨htx, hstate⟩ := endTransmission_idle (outcomeCompleted t.requester) s (by simp; rfl)
  transmitterOk_of_idle htx hstate

theorem transmitterOk_collideTransmission (t : Transmission) (s : State) : TransmitterOk (collideTransmission t s) :=
  let ⟨htx, hstate⟩ := endTransmission_idle (fun s => outcomeCollided t.requester (countCollision s)) s (by simp; rfl)
  transmitterOk_of_idle htx hstate

theorem transmitterOk_endDueTransmission {s : State} (h : TransmitterOk s) : TransmitterOk (endDueTransmission s) := by
  obtain ⟨-, heq⟩ | ⟨t, -, -, -, heq⟩ | ⟨t, -, -, heq⟩ := endDueTransmission_cases s <;> rw [heq]
  · exact h
  · exact transmitterOk_completeTransmission t s
  · exact transmitterOk_collideTransmission t s

theorem transmitterOk_endOfCt {s : State} (h : TransmitterOk s) : TransmitterOk (endOfCt s) := by
  obtain ⟨-, heq⟩ | ⟨-, heq⟩ := endOfCt_cases s <;> rw [heq]
  · exact h
  · exact transmitterOk_advanceTimer (transmitterOk_endDueTransmission (s := ctPasses s) h)

theorem transmitterOk_elapse {s : State} (hmay : headMayWait s = true) (h : TransmitterOk s) : TransmitterOk (elapse s) :=
  transmitterOk_of_begins h (by simp) (.inr (mayBegin_of_headMayWait hmay))

/-- HALT's steps leave the link in OFF (R92). -/
theorem haltSteps_state (s : State) : (haltSteps s).link.state = .off := by
  unfold haltSteps
  simp only
  split
  · assumption
  · simp

/-- The commands that change the link state are STOP, HALT and LINK_RESET; the others leave it and the transmitter. -/
theorem actionOf_state_tx (code : Byte) (s : State) :
    ((actionOf code s).link.state = s.link.state ∧ (actionOf code s).tx = s.tx) ∨
      ((actionOf code s).link.state = .off ∧ (actionOf code s).tx = none) ∨
      ((actionOf code s).link.state = .stopping ∧ (actionOf code s).tx = s.tx ∧ s.tx ≠ none) := by
  have hbox : ∀ act : Fin 24 → TxMailbox → State → State,
      (∀ m b, (act m b s).link.state = s.link.state ∧ (act m b s).tx = s.tx) →
      (onTx act s).link.state = s.link.state ∧ (onTx act s).tx = s.tx := by
    intro act hact
    obtain ⟨-, heq⟩ | ⟨_, _, -, -, heq⟩ | ⟨m, b, -, -, heq⟩ := onTx_cases act s <;> rw [heq]
    · exact ⟨rfl, rfl⟩
    · exact ⟨rfl, rfl⟩
    · exact hact m b
  have hrx : ∀ act : Fin 24 → RxMailbox → State → State,
      (∀ m r, (act m r s).link.state = s.link.state ∧ (act m r s).tx = s.tx) →
      (onRx act s).link.state = s.link.state ∧ (onRx act s).tx = s.tx := by
    intro act hact
    obtain ⟨-, heq⟩ | ⟨_, _, -, -, heq⟩ | ⟨m, r, -, -, heq⟩ := onRx_cases act s <;> rw [heq]
    · exact ⟨rfl, rfl⟩
    · exact ⟨rfl, rfl⟩
    · exact hact m r
  unfold actionOf
  split
  case h_2 =>
    unfold stopAction
    split
    · exact .inl ⟨rfl, rfl⟩
    · split
      next hidle => exact .inr (.inl ⟨by simp, by simpa using hidle⟩)
      next hbusy => exact .inr (.inr ⟨by simp [setLinkState_link], by simp, by simpa using hbusy⟩)
  case h_3 => exact .inr (.inl ⟨by simp [haltAction, haltSteps_state], by simp [haltAction, haltSteps_tx]⟩)
  case h_6 => exact .inr (.inl ⟨by simp [linkResetAction, haltSteps_state], by simp [linkResetAction, haltSteps_tx]⟩)
  case h_9 | h_10 | h_11 | h_12 => exact .inl (hbox _ (by simp))
  case h_13 | h_14 => exact .inl (hrx _ (by simp))
  all_goals exact .inl (by simp)

theorem transmitterOk_actionOf {s : State} (code : Byte) (h : TransmitterOk s) : TransmitterOk (actionOf code s) := by
  obtain ⟨hstate, htx⟩ | ⟨hstate, htx⟩ | ⟨hstate, htx, hsome⟩ := actionOf_state_tx code s
  · exact transmitterOk_of_same h hstate htx
  · exact transmitterOk_of_idle htx (by rw [hstate]; nofun)
  · exact ⟨fun _ => .inl (by rw [hstate]; rfl), fun _ => by rw [htx]; exact Option.isSome_iff_ne_none.mpr hsome⟩

theorem transmitterOk_writes {s t : State} {a : BusAddress} {v : Byte} (hw : Writes s a v t) (h : TransmitterOk s) :
    TransmitterOk t := by
  cases hw with
  | cmd =>
    obtain ⟨-, -, heq⟩ | ⟨-, heq⟩ := writeCmd_cases v s <;> rw [heq]
    · exact h
    · exact transmitterOk_actionOf (s := takenAs v s) v h
  | data => exact transmitterOk_of_same h (by simp) (by simp)
  | _ => exact h

theorem startValidated_tx (s : State) : (startValidated s).tx = s.tx ∧ (startValidated s).link.state ≠ .stopping ∨
    (startValidated s).tx = s.tx ∧ (startValidated s).link.state = s.link.state := by
  unfold startValidated
  split
  · exact .inr ⟨rfl, rfl⟩
  · refine .inl ⟨by simp, ?_⟩
    simp only [complete_link, setLinkState_link]
    split <;> nofun

theorem transmitterOk_acts {s t : State} {c : Instr} (hc : Acts s c t) (hcmd : CommandUnitOk s) (hwait : WaitOk s)
    (h : TransmitterOk s) : TransmitterOk t := by
  cases hc with
  | write hw => exact transmitterOk_writes (busWrite_writes _ _ s) h
  | nothing | wdataRead | posLRead | lineHighAfterStopBitError | startBitConfirmed => exact h
  | startValidated hstart =>
    have hidle := not_sending_of_off h (hcmd.2.2.1 hstart)
    obtain ⟨htx, hstate⟩ | ⟨htx, hstate⟩ := startValidated_tx s
    · exact transmitterOk_of_idle (htx.trans hidle) hstate
    · exact transmitterOk_of_same h hstate htx
  | armValidated | gapTimerExpires => exact transmitterOk_of_same h (by simp) (by simp)
  | hardwareReset => exact transmitterOk_of_idle rfl nofun
  | characterComplete v => exact transmitterOk_completeCharacter v h
  | stopBitError => exact transmitterOk_characterFails h
  | positionReached | cycleBoundary => exact transmitterOk_endOfCt h
  | startupSilenceCompletes => exact transmitterOk_of_counting (.inr (.inl (completeStartup_begins s).1))
  | backoffElapses hreached => exact transmitterOk_elapse (headMayWait_of_backoffReached hwait hreached) h
  | transmissionCompletes t => exact transmitterOk_completeTransmission t s
  | transmissionCollides t => exact transmitterOk_collideTransmission t s

/-! ### The head's wait -/

theorem headQueued_eq (s : State) :
    headQueued s = (match s.queue.entries.head? with | none => false | some m => s.boxes[m].inState .queued) := by
  unfold headQueued
  cases s.queue.entries.head? with
  | none => rfl
  | some m =>
    simp only
    cases s.boxes[m] <;> rfl

/-- States that agree in all that the head's wait reads (R111), and in the wait. -/
structure SameWait (s t : State) : Prop where
  slot : t.seq.slot = s.seq.slot
  state : t.link.state = s.link.state
  silent : t.link.silent = s.link.silent
  tx : t.tx.isNone = s.tx.isNone
  entries : t.queue.entries = s.queue.entries
  turnedAway : t.queue.turnedAway = s.queue.turnedAway
  queued : ∀ m : Fin 24, t.boxes[m].inState .queued = s.boxes[m].inState .queued
  wait : t.queue.wait.isSome = s.queue.wait.isSome

theorem SameWait.headMayWait {s t : State} (h : SameWait s t) : headMayWait t = headMayWait s := by
  have hqueued : headQueued t = headQueued s := by
    rw [headQueued_eq, headQueued_eq, h.entries]
    split
    · rfl
    next m _ => exact h.queued m
  unfold Machine.headMayWait openWindowOpen
  rw [h.slot, h.state, h.silent, h.tx, h.turnedAway, hqueued]

theorem waitOk_of_same {s t : State} (hs : WaitOk s) (h : SameWait s t) : WaitOk t :=
  (h.wait.trans hs).trans h.headMayWait.symm

/-- Outside RUNNING no head may wait. -/
theorem headMayWait_of_not_running {s : State} (h : s.link.state ≠ .running) : headMayWait s = false := by
  rw [Bool.eq_false_iff]
  exact fun hmay => h (mayBegin_of_headMayWait hmay).1

theorem wait_none_of_not_running {s : State} (hs : WaitOk s) (h : s.link.state ≠ .running) : s.queue.wait = none := by
  have := hs.trans (headMayWait_of_not_running h)
  simpa using this

theorem waitOk_of_none {t : State} (hwait : t.queue.wait = none) (hmay : headMayWait t = false) : WaitOk t := by
  unfold WaitOk; rw [hwait, hmay]; rfl

/-- With no open window no head may wait. -/
theorem headMayWait_of_not_open {s : State} (h : openWindowOpen s = false) : headMayWait s = false := by
  simp [headMayWait, h]

theorem waitOk_slotFrameEnded {s : State} (h : WaitOk s) : WaitOk (slotFrameEnded s) := by
  obtain ⟨-, heq⟩ | ⟨sl, hsl, hb, heq⟩ | ⟨sl, hsl, hb, heq⟩ := slotFrameEnded_cases s <;> rw [heq]
  · exact h
  · have hclosed : headMayWait s = false := headMayWait_of_not_open (by simp [openWindowOpen, hsl, hb])
    refine waitOk_of_none ?_ (headMayWait_of_not_open (by simp [openWindowOpen, setSlot]))
    have := h.trans hclosed
    simpa using this
  · exact waitOk_of_none (by simp [closeSlot]) (headMayWait_of_not_open (by simp [openWindowOpen, closeSlot]))

theorem waitOk_abandonAssembly {s : State} (c : Counter) (h : WaitOk s) : WaitOk (abandonAssembly c s) := by
  obtain ⟨-, heq⟩ | ⟨-, heq⟩ := abandonAssembly_cases c s <;> rw [heq]
  · exact h
  · exact waitOk_slotFrameEnded (s := lineError c { s with rx := Receiver.hunting }) h

theorem waitOk_completeCharacter {s : State} (v : Byte) (h : WaitOk s) : WaitOk (completeCharacter v s) := by
  cases htx : s.tx with
  | some t =>
    have heq : completeCharacter v s = { lineBecomesIdle s with tx := some (judgeReadback v t) } := by
      unfold completeCharacter; simp [htx]
    rw [heq]
    exact waitOk_of_same h ⟨rfl, rfl, rfl, by simp [htx], rfl, rfl, fun _ => rfl, rfl⟩
  | none =>
    have heq : completeCharacter v s = settleWait (takeCharacter v (lineBecomesIdle s)) := by
      unfold completeCharacter; simp [htx]
    rw [heq]; exact settleWait_ok _

theorem waitOk_characterFails {s : State} (h : WaitOk s) : WaitOk (characterFails s) := by
  unfold characterFails
  simp only
  split
  next t htx =>
    change s.tx = some t at htx
    exact waitOk_of_same h ⟨rfl, rfl, rfl, by simp [htx], rfl, rfl, fun _ => rfl, rfl⟩
  · exact waitOk_abandonAssembly (s := { s with line := { s.line with level := .heldLow } }) _ h

theorem waitOk_ctPasses {s : State} (h : WaitOk s) : WaitOk (ctPasses s) := by
  refine waitOk_of_same h ⟨rfl, rfl, rfl, rfl, rfl, rfl, fun _ => rfl, ?_⟩
  unfold ctPasses
  cases s.line.ctIdle <;> simp

theorem waitOk_endOfCt {s : State} (h : WaitOk s) : WaitOk (endOfCt s) := by
  obtain ⟨-, heq⟩ | ⟨-, heq⟩ := endOfCt_cases s <;> rw [heq]
  · exact h
  · have hdue : WaitOk (endDueTransmission (ctPasses s)) := by
      obtain ⟨-, heq⟩ | ⟨t, -, -, -, heq⟩ | ⟨t, -, -, heq⟩ := endDueTransmission_cases (ctPasses s) <;> rw [heq]
      · exact waitOk_ctPasses h
      · exact settleWait_ok _
      · exact settleWait_ok _
    obtain ⟨-, heq⟩ | ⟨_, -, -, heq⟩ | ⟨_, -, -, heq⟩ := advanceTimer_cases (endDueTransmission (ctPasses s)) <;> rw [heq]
    · exact hdue
    · exact settleWait_ok _
    · exact settleWait_ok _

theorem waitOk_elapse {s : State} (h : WaitOk s) : WaitOk (elapse s) := by
  unfold elapse
  split
  · exact h
  · exact settleWait_ok _

theorem waitOk_idleCt {s : State} (h : WaitOk s) : WaitOk (idleCt s) := by
  refine waitOk_of_same h ?_
  unfold idleCt
  (repeat' split) <;> exact ⟨rfl, rfl, rfl, rfl, rfl, rfl, fun _ => rfl, rfl⟩

/-! ### The head's wait and the commands -/

theorem waitOk_complete {s : State} (r : ResultCode) (h : WaitOk s) : WaitOk (complete r s) := h

theorem waitOk_setBox {s : State} {m : Fin 24} {b : Mailbox} (hs : WaitOk s)
    (hb : b.inState .queued = s.boxes[m].inState .queued) : WaitOk (setBox m b s) := by
  refine waitOk_of_same hs ⟨rfl, rfl, rfl, rfl, rfl, rfl, fun k => ?_, rfl⟩
  by_cases hk : k = m
  · subst hk; exact (congrArg (Mailbox.inState .queued) (put_get_same s.boxes k b)).trans hb
  · exact congrArg (Mailbox.inState .queued) (put_get_other s.boxes m k b hk)

theorem haltSteps_wait {s : State} (h : WaitOk s) : (haltSteps s).queue.wait = none := by
  unfold haltSteps
  simp only
  split
  next hoff =>
    have hoff' : s.link.state = .off := by simpa using hoff
    simpa using wait_none_of_not_running h (by rw [hoff']; nofun)
  · simp [enterOff, stopTimer, closeSlot]

theorem waitOk_off {s : State} (hwait : s.queue.wait = none) (hoff : s.link.state = .off) : WaitOk s :=
  waitOk_of_none hwait (headMayWait_of_not_running (by rw [hoff]; nofun))

theorem waitOk_stopAction {s : State} (h : WaitOk s) : WaitOk (stopAction s) := by
  unfold stopAction
  split
  · exact h
  · split
    · exact waitOk_off (by simp [enterOff, stopTimer, closeSlot]) (by simp)
    · exact settleWait_ok _

theorem waitOk_commitOn {s : State} {m : Fin 24} {b : TxMailbox} (hb : s.boxes[m] = .tx b) (h : WaitOk s) :
    WaitOk (commitOn m b s) := by
  have hcommit : (Mailbox.tx b.commit).inState .queued = s.boxes[m].inState .queued := by
    rw [hb]
    by_cases hf : b.state = .free <;> simp [Mailbox.inState, TxMailbox.commit, hf]
  unfold commitOn
  split
  · exact h
  · split
    · exact h
    · split
      · exact waitOk_setBox h (by rw [hb]; rfl)
      · exact waitOk_setBox h hcommit

theorem waitOk_withdrawOn {s : State} {m : Fin 24} {b : TxMailbox} (hb : s.boxes[m] = .tx b) (h : WaitOk s) :
    WaitOk (withdrawOn m b s) := by
  unfold withdrawOn
  split
  next hl => exact waitOk_setBox h (by rw [hb]; simp [Mailbox.inState, hl])
  all_goals exact h

theorem waitOk_sendEventOn {s : State} (m : Fin 24) (b : TxMailbox) (h : WaitOk s) : WaitOk (sendEventOn m b s) := by
  unfold sendEventOn
  split
  · exact h
  · split
    case h_4 =>
      split
      · exact h
      · exact waitOk_complete _ (settleWait_ok _)
    all_goals exact h

theorem waitOk_cancelEventOn {s : State} (m : Fin 24) (b : TxMailbox) (h : WaitOk s) : WaitOk (cancelEventOn m b s) := by
  unfold cancelEventOn
  split
  · exact h
  · split
    case h_1 => exact waitOk_complete _ (settleWait_ok _)
    all_goals exact h

theorem waitOk_holdOn {s : State} {m : Fin 24} {r : RxMailbox} (hr : s.boxes[m] = .rx r) (h : WaitOk s) :
    WaitOk (holdOn m r s) := by
  unfold holdOn
  split
  case h_3 => exact waitOk_setBox h (by rw [hr]; rfl)
  all_goals exact h

theorem waitOk_releaseOn {s : State} {m : Fin 24} {r : RxMailbox} (hr : s.boxes[m] = .rx r) (h : WaitOk s) :
    WaitOk (releaseOn m r s) := by
  by_cases hempty : r.state = .empty
  · rw [releaseOn_empty hempty]; exact h
  · have hbox : WaitOk (setBox m (.rx r.release.1) s) := waitOk_setBox h (by rw [hr]; rfl)
    rw [releaseOn_not_empty hempty]
    refine waitOk_complete _ ?_
    split
    · exact hbox
    · exact hbox

theorem waitOk_configMailboxAction {s : State} (h : WaitOk s) : WaitOk (configMailboxAction s) := by
  unfold configMailboxAction
  split
  · exact h
  · exact h
  · split
    next hoff =>
      refine waitOk_off ?_ hoff
      have := wait_none_of_not_running h (by rw [hoff]; nofun)
      simp [leaveQueue, this]
    · exact h

theorem waitOk_clearCountersAction {s : State} (h : WaitOk s) : WaitOk (clearCountersAction s) := by
  refine waitOk_of_same h ⟨rfl, rfl, rfl, rfl, rfl, rfl, fun m => ?_, rfl⟩
  rw [clearCountersAction_boxes_get]
  cases s.boxes[m] <;> rfl

theorem waitOk_onTx {s : State} {act : Fin 24 → TxMailbox → State → State}
    (hact : ∀ m b, s.boxes[m] = .tx b → WaitOk (act m b s)) (h : WaitOk s) : WaitOk (onTx act s) := by
  obtain ⟨-, heq⟩ | ⟨_, _, -, -, heq⟩ | ⟨m, b, -, hb, heq⟩ := onTx_cases act s <;> rw [heq]
  · exact h
  · exact h
  · exact hact m b hb

theorem waitOk_onRx {s : State} {act : Fin 24 → RxMailbox → State → State}
    (hact : ∀ m r, s.boxes[m] = .rx r → WaitOk (act m r s)) (h : WaitOk s) : WaitOk (onRx act s) := by
  obtain ⟨-, heq⟩ | ⟨_, _, -, -, heq⟩ | ⟨m, r, -, hr, heq⟩ := onRx_cases act s <;> rw [heq]
  · exact h
  · exact h
  · exact hact m r hr

theorem waitOk_actionOf {s : State} (code : Byte) (h : WaitOk s) : WaitOk (actionOf code s) := by
  unfold actionOf
  split
  · exact waitOk_of_same h ⟨by simp, by simp, by simp, by simp, by simp, by simp, by simp, by simp⟩
  · exact waitOk_stopAction h
  · exact waitOk_complete .ok (waitOk_off (haltSteps_wait h) (haltSteps_state s))
  · unfold goSilentAction
    split
    · exact h
    · exact waitOk_complete _ (settleWait_ok _)
  · unfold resumeAction
    split
    · exact waitOk_complete _ (settleWait_ok _)
    · exact h
  · exact waitOk_complete .ok (waitOk_off rfl (by simp [haltSteps_state]))
  · exact waitOk_of_same h ⟨by simp, by simp, by simp, by simp, by simp, by simp, by simp, by simp⟩
  · exact waitOk_of_same h ⟨by simp, by simp, by simp, by simp, by simp, by simp, by simp, by simp⟩
  · exact waitOk_onTx (fun _ _ hb => waitOk_commitOn hb h) h
  · exact waitOk_onTx (fun _ _ hb => waitOk_withdrawOn hb h) h
  · exact waitOk_onTx (fun m b _ => waitOk_sendEventOn m b h) h
  · exact waitOk_onTx (fun m b _ => waitOk_cancelEventOn m b h) h
  · exact waitOk_onRx (fun _ _ hr => waitOk_holdOn hr h) h
  · exact waitOk_onRx (fun _ _ hr => waitOk_releaseOn hr h) h
  · exact waitOk_configMailboxAction h
  · exact waitOk_clearCountersAction h
  · exact h

theorem waitOk_writes {s t : State} {a : BusAddress} {v : Byte} (hw : Writes s a v t) (h : WaitOk s) : WaitOk t := by
  cases hw with
  | cmd =>
    obtain ⟨-, -, heq⟩ | ⟨-, heq⟩ := writeCmd_cases v s <;> rw [heq]
    · exact h
    · exact waitOk_actionOf (s := takenAs v s) v h
  | data =>
    obtain ⟨t, ht, heq⟩ | ⟨-, heq⟩ := writeWindow_cases s.win.pointer v s <;> rw [writeData, heq]
    · obtain ⟨-, -, htx, -, hseq, hlink, -, hqueue, -⟩ := writeByte_keeps ht
      exact waitOk_of_same h ⟨congrArg (·.slot) hseq, congrArg (·.state) hlink, congrArg (·.silent) hlink,
        congrArg (·.isNone) htx, congrArg (·.entries) hqueue, congrArg (·.turnedAway) hqueue,
        fun m => (writeByte_sameRole ht m).queued, congrArg (·.wait.isSome) hqueue⟩
    · exact h
  | _ => exact h

theorem waitOk_startValidated {s : State} (hoff : s.link.state = .off) (h : WaitOk s) : WaitOk (startValidated s) := by
  have hnone := wait_none_of_not_running h (by rw [hoff]; nofun)
  refine waitOk_of_none (by simpa using hnone) (headMayWait_of_not_running ?_)
  unfold startValidated
  split
  · simp [hoff]
  · simp only [complete_link, setLinkState_link]
    split <;> nofun

theorem waitOk_acts {s t : State} {c : Instr} (hc : Acts s c t) (hcmd : CommandUnitOk s) (h : WaitOk s) : WaitOk t := by
  cases hc with
  | write hw => exact waitOk_writes (busWrite_writes _ _ s) h
  | nothing | wdataRead | posLRead | lineHighAfterStopBitError => exact h
  | startValidated hstart => exact waitOk_startValidated (hcmd.2.2.1 hstart) h
  | armValidated => exact waitOk_of_same h ⟨by simp, by simp, by simp, by simp, by simp, by simp, by simp, by simp⟩
  | hardwareReset => rfl
  | startBitConfirmed => exact waitOk_of_same h ⟨rfl, rfl, rfl, rfl, rfl, rfl, fun _ => rfl, by simp [confirmStartBit]⟩
  | characterComplete v => exact waitOk_completeCharacter v h
  | stopBitError => exact waitOk_characterFails h
  | gapTimerExpires => exact waitOk_abandonAssembly _ h
  | positionReached | cycleBoundary => exact waitOk_endOfCt h
  | startupSilenceCompletes => exact settleWait_ok _
  | backoffElapses => exact waitOk_elapse h
  | transmissionCompletes t => exact settleWait_ok _
  | transmissionCollides t => exact settleWait_ok _

/-! ### The obligation -/

/-- Settles O56: the locks and the queue through the operations that change a mailbox, the transmitter or the queue, the
transmitter's states through those that change the link state, and the wait because each happening settles it. -/
theorem locksAndQueueKept : Obligations.LocksAndQueueKept := by
  intro s t hcmd htx hlocks hqueue hwait hstep
  obtain rfl | ⟨c, rest, -, hc⟩ := step_cases hstep
  · obtain ⟨hlocks', hqueue'⟩ := pathOk_kept.idleCt ⟨hlocks, hqueue⟩
    exact ⟨transmitterOk_of_same htx (by simp) (by simp), hlocks', hqueue', waitOk_idleCt hwait⟩
  · obtain ⟨hlocks', hqueue'⟩ := pathOk_acts hc htx hwait ⟨hlocks, hqueue⟩
    exact ⟨transmitterOk_acts hc hcmd hwait htx, hlocks', hqueue', waitOk_acts hc hcmd hwait⟩

end Sys2Proof.Machine
end

section
/-! # The command unit and the Link Controller are kept (R34, R43, R70, R71, R73, R84, R87, R90, R178)

What a happening can do to command unit, shadow and link state is said once (`Proceeds`); silence count, missed count and
deviation follow the operations that write them. -/

open Sys2Proof

namespace Sys2Proof.Machine

/-! ### What a happening does to command unit, parameters, link state and shadow -/

/-- The link counts or waits for a cycle: it is neither OFF nor STARTING nor STOPPING. -/
def LinkState.cyclic (l : LinkState) : Prop := l = .listen ∨ l = .align ∨ l = .running

/-- The command unit and the parameters stay; the link state stays, or moves to LISTEN, ALIGN or RUNNING from a state other
than OFF and STOPPING; the shadow stays, or a swap has taken an ARMED one. -/
structure Proceeds (s t : State) : Prop where
  cmd : t.cmd = s.cmd
  params : t.params = s.params
  state : t.link.state = s.link.state ∨ (s.link.state ≠ .off ∧ s.link.state ≠ .stopping) ∧ t.link.state.cyclic
  shadow : t.sched.shadow = s.sched.shadow ∨ s.sched.shadow = .armed ∧ t.sched.shadow = .idle

theorem Proceeds.commandUnitOk {s t : State} (h : Proceeds s t) (hs : CommandUnitOk s) : CommandUnitOk t := by
  obtain ⟨hcmd, -, hstate, hshadow⟩ := h
  obtain ⟨hpending, hvalidating, hstart, hstopping⟩ := hs
  refine ⟨by rw [hcmd]; exact hpending, ?_, ?_, ?_⟩ <;> rw [hcmd]
  · obtain heq | ⟨harmed, hidle⟩ := hshadow
    · rw [heq]; exact hvalidating
    · rw [← hvalidating, harmed, hidle]; simp
  · intro hs
    obtain heq | ⟨⟨hoff, -⟩, -⟩ := hstate
    · rw [heq]; exact hstart hs
    · exact absurd (hstart hs) hoff
  · obtain heq | ⟨⟨-, hne⟩, hcyclic⟩ := hstate
    · rw [heq]; exact hstopping
    · refine iff_of_false ?_ (fun hs => hne (hstopping.mpr hs))
      obtain h | h | h := hcyclic <;> simp [h]

theorem Proceeds.paramsOk {s t : State} (h : Proceeds s t) (hs : ParamsOk s) : ParamsOk t := by
  obtain ⟨hcmd, hparams, hstate, -⟩ := h
  unfold ParamsOk at hs ⊢
  rw [hcmd, hparams]
  rintro (hoff | hstart)
  · obtain heq | ⟨⟨hs', -⟩, -⟩ := hstate
    · exact hs (.inl (heq ▸ hoff))
    · exact hs (.inl hs')
  · exact hs (.inr hstart)

/-! ### The five conditions together -/

/-- The command unit and the Link Controller stand as R34, R43, R70, R71, R84, R87, R90 and R178 say. -/
structure ControllerOk (s : State) : Prop where
  unit : CommandUnitOk s
  params : ParamsOk s
  role : RoleOk s
  missed : MissedOk s
  deviation : DeviationOk s

section
variable {s t : State}

theorem roleOk_of_same (h : RoleOk s) (hlink : t.link = s.link) (hparams : t.params = s.params)
    (hlimit : s.link.state = .starting → startupLimit t = startupLimit s) : RoleOk t := by
  obtain ⟨hmaster, hfollower, hsilent, hcount, hzero⟩ := h
  have hrole : isMaster t = isMaster s := by unfold isMaster; rw [hparams]
  refine ⟨?_, ?_, ?_, fun hs => ?_, ?_⟩
  · rw [hlink, hrole]; exact hmaster
  · rw [hlink, hrole]; exact hfollower
  · rw [hlink]; exact hsilent
  · rw [hlink] at hs ⊢; rw [hlimit hs]; exact hcount hs
  · rw [hlink]; exact hzero

theorem missedOk_of_same (h : MissedOk s) (hstate : t.link.state = s.link.state) (hparams : t.params = s.params)
    (hmissed : t.sync.missed = s.sync.missed) : MissedOk t := by
  unfold MissedOk isMaster at h ⊢
  rw [hstate, hparams, hmissed]; exact h

/-- A happening that leaves link, schedule, parameters, sync record and command unit keeps the controller. -/
theorem controllerOk_of_same (h : ControllerOk s) (hcmd : t.cmd = s.cmd) (hparams : t.params = s.params)
    (hlink : t.link = s.link) (hsched : t.sched = s.sched) (hsync : t.sync = s.sync) : ControllerOk t where
  unit := Proceeds.commandUnitOk ⟨hcmd, hparams, .inl (by rw [hlink]), .inl (by rw [hsched])⟩ h.unit
  params := Proceeds.paramsOk ⟨hcmd, hparams, .inl (by rw [hlink]), .inl (by rw [hsched])⟩ h.params
  role := roleOk_of_same h.role hlink hparams (fun _ => by simp [startupLimit, activeBank, bankOf, hsched])
  missed := missedOk_of_same h.missed (by rw [hlink]) hparams (by rw [hsync])
  deviation := by unfold DeviationOk; rw [hsync]; exact h.deviation

/-- Outside OFF the sync loss limit is 1 to 7 (R72). -/
theorem syncLossLimit_of_params {p : Params} (h : paramFault p = none) :
    1 ≤ p.syncLossLimit.toNat ∧ p.syncLossLimit.toNat ≤ 7 := by
  unfold paramFault at h
  (repeat' split at h) <;> cases h
  omega

theorem roleOk_of_cyclic (hstate : t.link.state.cyclic) (hsilence : t.link.silence = 0)
    (hrole : t.link.state ≠ .running → isMaster t = false) : RoleOk t := by
  refine ⟨fun h => ?_, fun h => ?_, fun h => ?_, fun h => ?_, fun _ => hsilence⟩
  · rw [h] at hstate; simp [LinkState.cyclic] at hstate
  · exact hrole (by obtain h | h := h <;> simp [h])
  · rw [h] at hstate; simp [LinkState.cyclic] at hstate
  · rw [h] at hstate; simp [LinkState.cyclic] at hstate

/-! ### The Cycle Timer -/

theorem countMissed_missed (s : State) :
    (countMissed s).sync.missed =
      if s.sync.missed < s.params.syncLossLimit.toNat then s.sync.missed + 1 else s.sync.missed := rfl

/-- A missed start outside OFF: the count goes up to its limit, and sync loss at it leaves LISTEN (R84 to R86). -/
theorem controllerOk_missedStart (h : ControllerOk s) (hon : s.link.state ≠ .off) (hfollower : isMaster s = false) :
    ControllerOk (missedStart s) := by
  obtain ⟨hunit, hparams, hrole, ⟨hle, hlt⟩, hdev⟩ := h
  obtain ⟨-, hlimit⟩ := syncLossLimit_of_params (hparams (.inl hon))
  have hcount := countMissed_missed s
  have hle' : (countMissed s).sync.missed ≤ 7 := by rw [hcount]; split <;> omega
  obtain ⟨-, hstate, heq⟩ | ⟨hbelow, heq⟩ := missedStart_cases s <;> rw [heq]
  · have hstate' : (syncLoss (countMissed s)).link.state = .listen := by simp [syncLoss, setLinkState_link]
    have hproceeds : Proceeds s (syncLoss (countMissed s)) :=
      ⟨by simp, by simp, .inr ⟨⟨by obtain h | h := hstate <;> simp [h], by obtain h | h := hstate <;> simp [h]⟩,
        .inl hstate'⟩, .inl (by simp)⟩
    refine ⟨hproceeds.commandUnitOk hunit, hproceeds.paramsOk hparams, roleOk_of_cyclic (.inl hstate') ?_ fun _ => ?_,
      ⟨by simpa using hle', fun h => by simp [hstate'] at h⟩, by simpa [DeviationOk] using hdev⟩
    · obtain ⟨-, -, -, -, hzero⟩ := hrole
      simpa using hzero (by obtain h | h := hstate <;> simp [h])
    · unfold isMaster at hfollower ⊢; simpa using hfollower
  · have hproceeds : Proceeds s (countMissed s) := ⟨rfl, rfl, .inl rfl, .inl rfl⟩
    refine ⟨hproceeds.commandUnitOk hunit, hproceeds.paramsOk hparams, roleOk_of_same hrole rfl rfl fun _ => rfl,
      ⟨hle', fun hcounts => ?_⟩, hdev⟩
    have hcounts' : s.sync.missed < s.params.syncLossLimit.toNat := hlt hcounts
    have hne : (countMissed s).sync.missed ≠ s.params.syncLossLimit.toNat := fun heq => hbelow ⟨heq, hcounts.2⟩
    change (countMissed s).sync.missed < s.params.syncLossLimit.toNat
    rw [hcount, if_pos hcounts'] at hne ⊢
    omega

theorem controllerOk_csWindowEnd (h : ControllerOk s) (hon : s.link.state ≠ .off) : ControllerOk (csWindowEnd s) := by
  obtain ⟨-, heq⟩ | ⟨hfollower, -, heq⟩ := csWindowEnd_cases s <;> rw [heq]
  · exact h
  · exact controllerOk_missedStart h hon hfollower

theorem controllerOk_reachOffset (swapping : Bool) (q : Nat) (h : ControllerOk s) : ControllerOk (reachOffset swapping q s) :=
  controllerOk_of_same h (by simp) (by simp) (by simp) (by simp) (by simp)

theorem controllerOk_countTo (q : Nat) (h : ControllerOk s) (hon : s.link.state ≠ .off) : ControllerOk (countTo q s) := by
  have hpos : ControllerOk { s with timer := { s.timer with position := q } } := controllerOk_of_same h rfl rfl rfl rfl rfl
  unfold countTo
  simp only
  split
  · split
    · exact controllerOk_csWindowEnd hpos hon
    · exact controllerOk_reachOffset _ _ (controllerOk_csWindowEnd hpos hon)
  · split
    · exact hpos
    · exact controllerOk_reachOffset _ _ hpos

/-- A swap outside STARTING takes an ARMED shadow, and no silence count reads the bank that it makes active. -/
theorem controllerOk_exchangeBanks (h : ControllerOk s) (harmed : s.sched.shadow = .armed)
    (hstate : s.link.state ≠ .starting) : ControllerOk (exchangeBanks s) := by
  have hproceeds : Proceeds s (exchangeBanks s) :=
    ⟨by simp, by simp, .inl (by simp), .inr ⟨harmed, by unfold exchangeBanks; simp only; split <;> rfl⟩⟩
  exact ⟨hproceeds.commandUnitOk h.unit, hproceeds.paramsOk h.params,
    roleOk_of_same h.role (by simp) (by simp) (fun hs => absurd hs hstate),
    missedOk_of_same h.missed (by simp) (by simp) (by simp), by simpa [DeviationOk] using h.deviation⟩

theorem controllerOk_countedBoundary (h : ControllerOk s) : ControllerOk (countedBoundary s) := by
  have hboundary : ControllerOk (boundaryEffects s) := controllerOk_of_same h (by simp) (by simp) (by simp) (by simp) (by simp)
  unfold countedBoundary
  simp only
  split
  next hmaster =>
    have hswap : ControllerOk (masterSwap (boundaryEffects s)) := by
      unfold masterSwap
      split
      next harmed => exact controllerOk_exchangeBanks hboundary harmed (by rw [hmaster.2]; nofun)
      · exact hboundary
    exact controllerOk_of_same hswap (by simp) (by simp) (by simp) (by simp) (by simp)
  · exact hboundary

theorem controllerOk_advanceTimer (h : ControllerOk s) (hon : s.timer.length ≠ none → s.link.state ≠ .off) :
    ControllerOk (advanceTimer s) := by
  obtain ⟨-, heq⟩ | ⟨_, hlen, -, heq⟩ | ⟨_, -, -, heq⟩ := advanceTimer_cases s <;> rw [heq]
  · exact h
  · exact controllerOk_of_same (controllerOk_countTo _ h (hon (by simp [hlen]))) rfl rfl rfl rfl rfl
  · exact controllerOk_of_same (controllerOk_countedBoundary h) rfl rfl rfl rfl rfl

/-! ### The end of a transmission -/

theorem enterOff_shadow (s : State) :
    (enterOff s).sched.shadow = if s.sched.shadow = .armed then .idle else s.sched.shadow := by
  unfold enterOff disarmOnOff
  by_cases ha : s.sched.shadow = .armed <;> simp [ha]

/-- Entry to OFF with the completion of the command in flight (R91, R94). An ARM in flight is abandoned before it. -/
theorem controllerOk_completeOff (r : ResultCode) (hr : r ≠ .pending) (h : ControllerOk s)
    (harm : s.sched.shadow ≠ .validating) : ControllerOk (complete r (enterOff s)) := by
  have hshadow : (enterOff s).sched.shadow ≠ .validating := by
    rw [enterOff_shadow]; split
    · nofun
    · exact harm
  obtain ⟨⟨hle, -⟩, hdev⟩ := And.intro h.missed h.deviation
  refine ⟨⟨?_, ?_, ?_, ?_⟩, ?_, ⟨?_, ?_, ?_, ?_, ?_⟩, ⟨by simpa using hle, ?_⟩, by simpa [DeviationOk] using hdev⟩ <;>
    simp [complete, completeWith, hr, hshadow]

/-- A STOP in flight leaves the shadow IDLE or ARMED. -/
theorem controllerOk_finishStopping (h : ControllerOk s) : ControllerOk (finishStopping s) := by
  unfold finishStopping
  split
  next hstopping =>
    obtain ⟨-, hvalidating, -, hstop⟩ := h.unit
    refine controllerOk_completeOff .ok nofun h fun hv => ?_
    have h1 := hvalidating.mp hv
    rw [hstop.mp hstopping] at h1
    cases h1
  · exact h

theorem controllerOk_endTransmission {outcome : State → State} (h : ControllerOk s)
    (hkeeps : ∀ u, (outcome u).cmd = u.cmd ∧ (outcome u).params = u.params ∧ (outcome u).link = u.link ∧
      (outcome u).sched = u.sched ∧ (outcome u).sync = u.sync) : ControllerOk (endTransmission outcome s) := by
  obtain ⟨hcmd, hparams, hlink, hsched, hsync⟩ := hkeeps (transmitterIdle s)
  exact controllerOk_of_same (controllerOk_finishStopping (controllerOk_of_same h hcmd hparams hlink hsched hsync))
    rfl rfl rfl rfl rfl

theorem controllerOk_completeTransmission (x : Transmission) (h : ControllerOk s) : ControllerOk (completeTransmission x s) :=
  controllerOk_endTransmission h fun u => by simp

theorem controllerOk_collideTransmission (x : Transmission) (h : ControllerOk s) : ControllerOk (collideTransmission x s) :=
  controllerOk_endTransmission h fun u => by simp

theorem endDueTransmission_running (s : State) (h : (endDueTransmission s).timer.length ≠ none) :
    (endDueTransmission s).timer = s.timer ∧ (endDueTransmission s).link = s.link := by
  have hfinish : ∀ u : State, u.timer = s.timer → u.link = s.link → (settleWait (finishStopping u)).timer.length ≠ none →
      (settleWait (finishStopping u)).timer = s.timer ∧ (settleWait (finishStopping u)).link = s.link := by
    intro u htimer hlink hruns
    unfold finishStopping at hruns ⊢
    split at hruns
    · simp [enterOff, stopTimer] at hruns
    next hne => rw [if_neg hne]; exact ⟨htimer, hlink⟩
  obtain ⟨-, heq⟩ | ⟨t, -, -, -, heq⟩ | ⟨t, -, -, heq⟩ := endDueTransmission_cases s <;> rw [heq] at h ⊢
  · exact ⟨rfl, rfl⟩
  · exact hfinish _ (by simp) (by simp) h
  · exact hfinish _ (by simp) (by simp) h

/-- The timer runs in no state that R23 does not list, so never in OFF. -/
theorem not_off_of_timer (htimer : TimerOk s) (h : s.timer.length ≠ none) : s.link.state ≠ .off := by
  intro hoff
  obtain ⟨-, hstopped, -⟩ := htimer
  exact h (hstopped (by rw [hoff]; rfl))

theorem controllerOk_endOfCt (htimer : TimerOk s) (h : ControllerOk s) : ControllerOk (endOfCt s) := by
  have hpasses : ControllerOk (ctPasses s) := controllerOk_of_same h (by simp) (by simp) (by simp) (by simp) (by simp)
  obtain ⟨-, heq⟩ | ⟨-, heq⟩ := endOfCt_cases s <;> rw [heq]
  · exact h
  · refine controllerOk_advanceTimer ?_ fun hruns => ?_
    · obtain ⟨-, heq⟩ | ⟨t, -, -, -, heq⟩ | ⟨t, -, -, heq⟩ := endDueTransmission_cases (ctPasses s) <;> rw [heq]
      · exact hpasses
      · exact controllerOk_completeTransmission t hpasses
      · exact controllerOk_collideTransmission t hpasses
    · obtain ⟨htimer', hlink⟩ := endDueTransmission_running (ctPasses s) hruns
      rw [hlink]
      rw [htimer'] at hruns
      exact not_off_of_timer htimer (by simpa using hruns)

/-! ### Cycle-start frames -/

theorem startupLimit_congr (h : t.sched = s.sched) : startupLimit t = startupLimit s := by
  simp [startupLimit, activeBank, bankOf, h]

/-- The bank comparison on a follower that has just recorded a frame (R79, R82). -/
theorem controllerOk_compareBanks (f : Frame) (n : Nat) (h : ControllerOk s) (hcyclic : s.link.state.cyclic)
    (hfollower : isMaster s = false) (hmissed : s.sync.missed = 0) : ControllerOk (compareBanks f n s) := by
  have hon : s.link.state ≠ .off ∧ s.link.state ≠ .stopping ∧ s.link.state ≠ .starting := by
    obtain h | h | h := hcyclic <;> simp [h]
  obtain ⟨hlimit, -⟩ := syncLossLimit_of_params (h.params (.inl hon.1))
  have hstate := compareBanks_state f n s
  have hshadow : (compareBanks f n s).sched.shadow = s.sched.shadow ∨
      s.sched.shadow = .armed ∧ (compareBanks f n s).sched.shadow = .idle := by
    unfold compareBanks
    split
    · exact .inl (by simp)
    · split
      next hswaps =>
        refine .inr ⟨?_, ?_⟩
        · simp [frameSwaps] at hswaps; exact hswaps.1.2
        · have hexchange : (exchangeBanks s).sched.shadow = .idle := by
            unfold exchangeBanks; simp only; split <;> rfl
          unfold followerSwap
          simp only
          split
          · simpa using hexchange
          · split
            · simpa using hexchange
            · simpa using hexchange
      · exact .inl (by simp)
  have hproceeds : Proceeds s (compareBanks f n s) :=
    ⟨by simp, by simp, .inr ⟨⟨hon.1, hon.2.1⟩, hstate.elim (fun h => .inr (.inr h)) (fun h => .inr (.inl h))⟩, hshadow⟩
  have hrole : isMaster (compareBanks f n s) = false := by unfold isMaster at hfollower ⊢; simpa using hfollower
  obtain ⟨-, -, -, -, hzero⟩ := h.role
  refine ⟨hproceeds.commandUnitOk h.unit, hproceeds.paramsOk h.params,
    roleOk_of_cyclic (hstate.elim (fun h => .inr (.inr h)) (fun h => .inr (.inl h))) ?_ fun _ => hrole,
    ⟨by simp [hmissed], fun _ => by simp [hmissed]; omega⟩, by simpa [DeviationOk] using h.deviation⟩
  simpa using hzero hon.2.2

theorem clampDeviation_bounds (d : Int) : -128 ≤ clampDeviation d ∧ clampDeviation d ≤ 127 := by
  unfold clampDeviation; omega

/-- States that agree but in the deviation, which is within its bounds. -/
theorem controllerOk_of_deviation (h : ControllerOk s) (hcmd : t.cmd = s.cmd) (hparams : t.params = s.params)
    (hlink : t.link = s.link) (hsched : t.sched = s.sched) (hmissed : t.sync.missed = s.sync.missed)
    (hdev : DeviationOk t) : ControllerOk t where
  unit := Proceeds.commandUnitOk ⟨hcmd, hparams, .inl (by rw [hlink]), .inl (by rw [hsched])⟩ h.unit
  params := Proceeds.paramsOk ⟨hcmd, hparams, .inl (by rw [hlink]), .inl (by rw [hsched])⟩ h.params
  role := roleOk_of_same h.role hlink hparams (fun _ => startupLimit_congr hsched)
  missed := missedOk_of_same h.missed (by rw [hlink]) hparams hmissed
  deviation := hdev

/-- Recording the frame sets the missed count to 0, which is below every limit of START (R79). -/
theorem controllerOk_recordAccepted (f : Frame) (h : ControllerOk s) (hon : s.link.state ≠ .off) :
    ControllerOk (recordAccepted f s) := by
  obtain ⟨hlimit, -⟩ := syncLossLimit_of_params (h.params (.inl hon))
  exact ⟨h.unit, h.params, roleOk_of_same h.role rfl rfl (fun _ => rfl), ⟨Nat.zero_le 7, fun _ => hlimit⟩, h.deviation⟩

theorem controllerOk_acceptCs (f : Frame) (n : Nat) (h : ControllerOk s) (hfollower : isMaster s = false) :
    ControllerOk (acceptCs f n s) := by
  have haccept : ∀ u : State, ControllerOk u → u.link.state.cyclic → u.params = s.params →
      ControllerOk (compareBanks f n (recordAccepted f u)) := by
    intro u hu hcyclic hparams
    have hon : u.link.state ≠ .off := by obtain h | h | h := hcyclic <;> simp [h]
    refine controllerOk_compareBanks f n (controllerOk_recordAccepted f hu hon) hcyclic ?_ rfl
    unfold isMaster at hfollower ⊢
    change (u.params.role == 1) = false
    rw [hparams]; exact hfollower
  have hresync : ∀ length d, s.link.state.cyclic →
      ControllerOk (compareBanks f n (recordAccepted f (checkDeviation d (checkCycleNumber f (resync f n length s))))) := by
    intro length d hcyclic
    refine haccept _ (controllerOk_of_deviation h (by simp) (by simp) (by simp) (by simp) (by simp) ?_) (by simpa using hcyclic)
      (by simp)
    have hdev : (resync f n length s).sync.deviation = clampDeviation (deviationOf s.timer.position n length) := rfl
    simpa [DeviationOk, hdev] using clampDeviation_bounds _
  unfold acceptCs
  split
  next hlisten =>
    refine haccept _ (controllerOk_of_deviation h (by simp) (by simp) (by simp) (by simp) (by simp) ?_) (.inl (by simpa using hlisten))
      (by simp)
    have hdev : (startFromListen f n s).sync.deviation = 0 := by
      unfold startFromListen; simp [setPosition]
    simp [DeviationOk, hdev]
  next halign _ => exact hresync _ _ (.inr (.inl halign))
  next hrunning _ => exact hresync _ _ (.inr (.inr hrunning))
  · exact h

/-- A master that hears a cycle-start frame: in STARTING the silence count returns to 0, in RUNNING SILENT is set (R74,
R78). -/
theorem controllerOk_masterHearsCs (f : Frame) (h : ControllerOk s) : ControllerOk (masterHearsCs f s) := by
  obtain ⟨hunit, hparams, ⟨hmaster, hfollower, hsilent, hcount, hzero⟩, hmissed, hdev⟩ := h
  have hproceeds : Proceeds s (masterHearsCs f s) := ⟨by simp, by simp, .inl (by simp), .inl (by simp)⟩
  refine ⟨hproceeds.commandUnitOk hunit, hproceeds.paramsOk hparams, ?_,
    missedOk_of_same hmissed (by simp) (by simp) (by simp), by simpa [DeviationOk] using hdev⟩
  unfold masterHearsCs
  split
  next hs =>
    refine ⟨fun _ => hmaster hs, fun hl => ?_, fun hl => ?_, fun _ => ?_, fun hl => absurd hs hl⟩
    · simp [hs] at hl
    · simp [hs] at hl
    · exact Nat.lt_of_lt_of_le (Nat.succ_pos 27) (Nat.le_add_left 28 _)
  next hr =>
    refine ⟨fun hl => ?_, fun hl => ?_, fun hl => ?_, fun hl => ?_, fun hl => hzero hl⟩ <;> simp [hr] at hl
  · exact ⟨hmaster, hfollower, hsilent, hcount, hzero⟩

theorem controllerOk_handCycleStart (f : Frame) (n : Nat) (h : ControllerOk s) : ControllerOk (handCycleStart f n s) := by
  have hended : ControllerOk (slotFrameEnded s) := controllerOk_of_same h (by simp) (by simp) (by simp) (by simp) (by simp)
  unfold handCycleStart
  simp only
  split
  · exact controllerOk_masterHearsCs f hended
  next hfollower => exact controllerOk_acceptCs f n hended (by simpa using hfollower)

theorem controllerOk_takeCharacter (v : Byte) (h : ControllerOk s) : ControllerOk (takeCharacter v s) := by
  have hend : ControllerOk (endAssembly (countCharacter s)) := by
    unfold endAssembly
    simp only
    split
    · exact controllerOk_of_same h (by simp) (by simp) (by simp) (by simp) (by simp)
    · split
      · exact controllerOk_handCycleStart _ _ (s := { countCharacter s with rx := Receiver.hunting })
          (controllerOk_of_same h rfl rfl rfl rfl rfl)
      · exact controllerOk_of_same h (by simp) (by simp) (by simp) (by simp) (by simp)
  unfold takeCharacter
  split
  · split
    · exact controllerOk_of_same h (by simp) (by simp) (by simp) (by simp) (by simp)
    · exact h
  · unfold inFrameCharacter
    simp only
    split
    · exact controllerOk_of_same h (by simp) (by simp) (by simp) (by simp) (by simp)
    · split
      · exact hend
      · split
        · exact controllerOk_of_same h rfl rfl rfl rfl rfl
        · exact controllerOk_of_same h (by simp) (by simp) (by simp) (by simp) (by simp)
  · exact controllerOk_of_same h (by simp) (by simp) (by simp) (by simp) (by simp)

theorem controllerOk_completeCharacter (v : Byte) (h : ControllerOk s) : ControllerOk (completeCharacter v s) := by
  have hidle : ControllerOk (lineBecomesIdle s) := controllerOk_of_same h rfl rfl rfl rfl rfl
  unfold completeCharacter
  simp only
  split
  · exact controllerOk_of_same hidle rfl rfl rfl rfl rfl
  · exact controllerOk_of_same (controllerOk_takeCharacter v hidle) rfl rfl rfl rfl rfl

/-! ### Startup, the start bit, and the CT of an empty queue -/

/-- The startup takes a master to RUNNING (R75). -/
theorem controllerOk_completeStartup (h : ControllerOk s) (hstarting : s.link.state = .starting) :
    ControllerOk (completeStartup s) := by
  have hlink : (completeStartup s).link = { s.link with state := .running, silence := 0 } := by
    rw [completeStartup_eq]; simp [startupBegun]
  have hmaster : isMaster (completeStartup s) = true := by
    obtain ⟨hmaster, -⟩ := h.role
    have := hmaster hstarting
    unfold isMaster at this ⊢; simpa using this
  have hproceeds : Proceeds s (completeStartup s) :=
    ⟨by simp, by simp, .inr ⟨by rw [hstarting]; exact ⟨nofun, nofun⟩, by rw [hlink]; exact .inr (.inr rfl)⟩, .inl (by simp)⟩
  exact ⟨hproceeds.commandUnitOk h.unit, hproceeds.paramsOk h.params,
    roleOk_of_cyclic (by rw [hlink]; exact .inr (.inr rfl)) (by rw [hlink]) (fun hne => absurd (by rw [hlink]) hne),
    ⟨by simpa using h.missed.1, fun hf => by simp [hmaster] at hf⟩, by simpa [DeviationOk] using h.deviation⟩

/-- Only the silence count of the link changes, to a value that R74 allows. -/
theorem controllerOk_of_silence (h : ControllerOk s) (hcmd : t.cmd = s.cmd) (hparams : t.params = s.params)
    (hstate : t.link.state = s.link.state) (hsilent : t.link.silent = s.link.silent) (hsched : t.sched = s.sched)
    (hsync : t.sync = s.sync) (hstarting : s.link.state = .starting → t.link.silence < startupLimit s)
    (hother : s.link.state ≠ .starting → t.link.silence = 0) : ControllerOk t := by
  have hproceeds : Proceeds s t := ⟨hcmd, hparams, .inl hstate, .inl (by rw [hsched])⟩
  obtain ⟨hmaster, hfollower, hquiet, -, -⟩ := h.role
  have hrole : isMaster t = isMaster s := by unfold isMaster; rw [hparams]
  refine ⟨hproceeds.commandUnitOk h.unit, hproceeds.paramsOk h.params, ⟨?_, ?_, ?_, ?_, ?_⟩,
    missedOk_of_same h.missed hstate hparams (by rw [hsync]), by unfold DeviationOk; rw [hsync]; exact h.deviation⟩
  · rw [hstate, hrole]; exact hmaster
  · rw [hstate, hrole]; exact hfollower
  · rw [hstate, hsilent]; exact hquiet
  · rw [hstate, startupLimit_congr hsched]; exact hstarting
  · rw [hstate]; exact hother

theorem controllerOk_confirmStartBit (h : ControllerOk s) : ControllerOk (confirmStartBit s) :=
  controllerOk_of_silence h rfl rfl rfl rfl rfl rfl
    (fun _ => Nat.lt_of_lt_of_le (Nat.succ_pos 27) (Nat.le_add_left 28 _)) (fun _ => rfl)

theorem controllerOk_idleCt (h : ControllerOk s) : ControllerOk (idleCt s) := by
  obtain ⟨-, -, -, hcount, hzero⟩ := h.role
  refine controllerOk_of_silence h (by simp) (by simp) (by simp) (by simp) (by simp) (by simp) (fun hs => ?_) (fun hs => ?_)
  · unfold idleCt
    simp only [hs]
    split
    next hbelow => exact hbelow.2
    · exact hcount hs
  · unfold idleCt
    split
    next hstarting => exact absurd hstarting hs
    · split <;> exact hzero hs
    · exact hzero hs

/-! ### Commands that complete -/

/-- The command in flight or taken has completed, with a result other than PENDING (R181). -/
def Completes (s t : State) : Prop :=
  ∃ r d i, r ≠ .pending ∧ t.cmd = { s.cmd with result := r, detail := d, detailIdx := i, inFlight := none }

theorem completes_complete {u : State} (r : ResultCode) (hr : r ≠ .pending) (hcmd : u.cmd = s.cmd) :
    Completes s (complete r u) := ⟨r, 0, 0, hr, by rw [← hcmd]; rfl⟩

/-- A command that was not in flight completes, and all that the controller reads beside stays. -/
theorem controllerOk_of_completes (h : ControllerOk s) (hidle : s.cmd.inFlight = none) (hc : Completes s t)
    (hparams : t.params = s.params) (hlink : t.link = s.link) (hsched : t.sched = s.sched) (hsync : t.sync = s.sync) :
    ControllerOk t := by
  obtain ⟨r, d, i, hr, hcmd⟩ := hc
  obtain ⟨-, hvalidating, -, hstopping⟩ := h.unit
  refine ⟨⟨?_, ?_, ?_, ?_⟩, fun hp => ?_, roleOk_of_same h.role hlink hparams (fun _ => startupLimit_congr hsched),
    missedOk_of_same h.missed (by rw [hlink]) hparams (by rw [hsync]), by unfold DeviationOk; rw [hsync]; exact h.deviation⟩
  · simp [hcmd, hr]
  · rw [hsched, hvalidating, hcmd, hidle]
  · simp [hcmd]
  · rw [hlink, hstopping, hcmd, hidle]
  · rw [hparams]
    rw [hlink] at hp
    exact h.params (hp.elim .inl fun hs => by simp [hcmd] at hs)

theorem completes_commitOn (m : Fin 24) (b : TxMailbox) : Completes s (commitOn m b s) := by
  unfold commitOn
  (repeat' split) <;> exact completes_complete _ nofun rfl

theorem completes_withdrawOn (m : Fin 24) (b : TxMailbox) : Completes s (withdrawOn m b s) := by
  unfold withdrawOn
  split <;> exact completes_complete _ nofun rfl

theorem completes_sendEventOn (m : Fin 24) (b : TxMailbox) : Completes s (sendEventOn m b s) := by
  unfold sendEventOn
  (repeat' split) <;> exact completes_complete _ nofun rfl

theorem completes_cancelEventOn (m : Fin 24) (b : TxMailbox) : Completes s (cancelEventOn m b s) := by
  unfold cancelEventOn
  (repeat' split) <;> exact completes_complete _ nofun rfl

theorem completes_holdOn (m : Fin 24) (r : RxMailbox) : Completes s (holdOn m r s) := by
  unfold holdOn
  split <;> exact completes_complete _ nofun rfl

theorem completes_releaseOn (m : Fin 24) (r : RxMailbox) : Completes s (releaseOn m r s) := by
  by_cases hempty : r.state = .empty
  · rw [releaseOn_empty hempty]; exact completes_complete _ nofun rfl
  · rw [releaseOn_not_empty hempty]
    refine completes_complete _ nofun ?_
    split <;> rfl

theorem completes_configMailboxAction : Completes s (configMailboxAction s) := by
  unfold configMailboxAction
  (repeat' split) <;> exact completes_complete _ nofun rfl

theorem controllerOk_onTx {act : Fin 24 → TxMailbox → State → State} (h : ControllerOk s) (hidle : s.cmd.inFlight = none)
    (hc : ∀ m b, Completes s (act m b s))
    (hkeeps : ∀ m b, (act m b s).params = s.params ∧ (act m b s).link = s.link ∧ (act m b s).sched = s.sched ∧
      (act m b s).sync = s.sync) : ControllerOk (onTx act s) := by
  obtain ⟨-, heq⟩ | ⟨_, _, -, -, heq⟩ | ⟨m, b, -, -, heq⟩ := onTx_cases act s <;> rw [heq]
  · exact controllerOk_of_completes h hidle (completes_complete .badArg nofun rfl) rfl rfl rfl rfl
  · exact controllerOk_of_completes h hidle (completes_complete .badArg nofun rfl) rfl rfl rfl rfl
  · obtain ⟨hparams, hlink, hsched, hsync⟩ := hkeeps m b
    exact controllerOk_of_completes h hidle (hc m b) hparams hlink hsched hsync

theorem controllerOk_onRx {act : Fin 24 → RxMailbox → State → State} (h : ControllerOk s) (hidle : s.cmd.inFlight = none)
    (hc : ∀ m r, Completes s (act m r s))
    (hkeeps : ∀ m r, (act m r s).params = s.params ∧ (act m r s).link = s.link ∧ (act m r s).sched = s.sched ∧
      (act m r s).sync = s.sync) : ControllerOk (onRx act s) := by
  obtain ⟨-, heq⟩ | ⟨_, _, -, -, heq⟩ | ⟨m, r, -, -, heq⟩ := onRx_cases act s <;> rw [heq]
  · exact controllerOk_of_completes h hidle (completes_complete .badArg nofun rfl) rfl rfl rfl rfl
  · exact controllerOk_of_completes h hidle (completes_complete .badArg nofun rfl) rfl rfl rfl rfl
  · obtain ⟨hparams, hlink, hsched, hsync⟩ := hkeeps m r
    exact controllerOk_of_completes h hidle (hc m r) hparams hlink hsched hsync

/-! ### Link and schedule commands -/

/-- With no command in flight the shadow is not VALIDATING and the link is not STOPPING. -/
theorem controllerOk_idle (h : ControllerOk s) (hidle : s.cmd.inFlight = none) :
    s.sched.shadow ≠ .validating ∧ s.link.state ≠ .stopping := by
  obtain ⟨-, hvalidating, -, hstopping⟩ := h.unit
  exact ⟨fun hv => by simpa [hidle] using hvalidating.mp hv, fun hs => by simpa [hidle] using hstopping.mp hs⟩

theorem controllerOk_startAction (h : ControllerOk s) (hidle : s.cmd.inFlight = none) : ControllerOk (startAction s) := by
  obtain ⟨hshadow, hstate⟩ := controllerOk_idle h hidle
  unfold startAction
  split
  · exact controllerOk_of_completes h hidle (completes_complete .badState nofun rfl) rfl rfl rfl rfl
  next hoff =>
    have hoff' : s.link.state = .off := not_not.mp hoff
    split
    · exact controllerOk_of_completes h hidle ⟨.badParam, _, _, nofun, rfl⟩ rfl rfl rfl rfl
    next hfault =>
      exact ⟨⟨by simp [stayInFlight], by simp [stayInFlight, hshadow], by simp [hoff'], by simp [stayInFlight, hstate]⟩,
        fun _ => hfault, h.role, h.missed, h.deviation⟩

theorem controllerOk_stopAction (h : ControllerOk s) (htx : TransmitterOk s) (hidle : s.cmd.inFlight = none) :
    ControllerOk (stopAction s) := by
  obtain ⟨hshadow, hstate⟩ := controllerOk_idle h hidle
  unfold stopAction
  split
  · exact controllerOk_of_completes h hidle (completes_complete .badState nofun rfl) rfl rfl rfl rfl
  next hon =>
    split
    · exact controllerOk_completeOff .ok nofun h hshadow
    next hbusy =>
      have hne : s.link.state ≠ .starting := fun hs => by
        have := htx.1 (by cases hs' : s.tx <;> simp [hs'] at hbusy ⊢)
        simp [hs, LinkState.timed] at this
      obtain ⟨-, -, -, -, hzero⟩ := h.role
      have hlink : (settleWait (stayInFlight .stop (setLinkState .stopping s))).link = { s.link with state := .stopping } := by
        simp [setLinkState_link]
      refine ⟨⟨by simp [stayInFlight], by simp [stayInFlight, hshadow], by simp [stayInFlight], by simp [stayInFlight, setLinkState_link]⟩,
        fun _ => by simpa using h.params (.inl hon), ?_, ⟨by simpa using h.missed.1, by simp [setLinkState_link]⟩, by simpa [DeviationOk] using h.deviation⟩
      rw [RoleOk, hlink]
      simp [hzero hne]

theorem controllerOk_silent (r : ResultCode) (hr : r ≠ .pending) (h : ControllerOk s) (hidle : s.cmd.inFlight = none)
    (v : Bool) (hv : s.link.state = .off → v = false) :
    ControllerOk (complete r (settleWait { s with link := { s.link with silent := v } })) := by
  obtain ⟨hmaster, hfollower, -, hcount, hzero⟩ := h.role
  have hsilent : ControllerOk { s with link := { s.link with silent := v } } :=
    ⟨h.unit, h.params, ⟨hmaster, hfollower, hv, hcount, hzero⟩, h.missed, h.deviation⟩
  exact controllerOk_of_completes hsilent hidle (completes_complete r hr rfl) rfl rfl rfl rfl

theorem controllerOk_goSilentAction (h : ControllerOk s) (hidle : s.cmd.inFlight = none) :
    ControllerOk (goSilentAction s) := by
  unfold goSilentAction
  split
  · exact controllerOk_of_completes h hidle (completes_complete .badState nofun rfl) rfl rfl rfl rfl
  next hon => exact controllerOk_silent .ok nofun h hidle true (fun hoff => absurd hoff hon)

theorem controllerOk_resumeAction (h : ControllerOk s) (hidle : s.cmd.inFlight = none) : ControllerOk (resumeAction s) := by
  unfold resumeAction
  split
  · exact controllerOk_silent .ok nofun h hidle false (fun _ => rfl)
  · exact controllerOk_of_completes h hidle (completes_complete .badState nofun rfl) rfl rfl rfl rfl

theorem controllerOk_armAction (h : ControllerOk s) (hidle : s.cmd.inFlight = none) : ControllerOk (armAction s) := by
  obtain ⟨-, hstate⟩ := controllerOk_idle h hidle
  unfold armAction
  split
  · exact ⟨⟨by simp [stayInFlight], by simp [stayInFlight], by simp [stayInFlight], by simp [stayInFlight, hstate]⟩,
      fun hp => h.params (hp.elim .inl fun hs => by simp [stayInFlight] at hs), h.role, h.missed, h.deviation⟩
  · exact controllerOk_of_completes h hidle (completes_complete .badState nofun rfl) rfl rfl rfl rfl

theorem controllerOk_disarmAction (h : ControllerOk s) (hidle : s.cmd.inFlight = none) : ControllerOk (disarmAction s) := by
  obtain ⟨hshadow, hstate⟩ := controllerOk_idle h hidle
  unfold disarmAction
  split
  next harmed =>
    obtain ⟨hpending, hvalidating, hstart, hstopping⟩ := h.unit
    have hdisarmed : ControllerOk { s with sched := { s.sched with shadow := .idle } } :=
      ⟨⟨hpending, by simp [hidle], hstart, hstopping⟩, h.params, h.role, h.missed, h.deviation⟩
    exact controllerOk_of_completes hdisarmed hidle (completes_complete .ok nofun rfl) rfl rfl rfl rfl
  · exact controllerOk_of_completes h hidle (completes_complete .badState nofun rfl) rfl rfl rfl rfl

/-! ### HALT and LINK_RESET -/

theorem haltSteps_inFlight (s : State) : (haltSteps s).cmd.inFlight = none := by
  have hcut : (cutTransmission (abandonCommand s)).cmd.inFlight = none := by simp [abandonCommand_eq]
  unfold haltSteps
  simp only
  split
  · exact hcut
  · simpa using hcut

theorem haltSteps_shadow (h : ControllerOk s) : (haltSteps s).sched.shadow ≠ .validating := by
  have hcut : (cutTransmission (abandonCommand s)).sched.shadow ≠ .validating := by
    obtain ⟨-, hvalidating, -, -⟩ := h.unit
    by_cases harm : s.cmd.inFlight = some .arm
    · simp [abandonCommand_eq, harm]
    · simpa [abandonCommand_eq, harm] using fun hv => harm (hvalidating.mp hv)
  unfold haltSteps
  simp only
  split
  · exact hcut
  · rw [enterOff_shadow]; split
    · nofun
    · exact hcut

theorem haltSteps_link (h : RoleOk s) : (haltSteps s).link = ⟨.off, false, 0⟩ := by
  obtain ⟨-, -, hsilent, -, hzero⟩ := h
  unfold haltSteps
  simp only
  split
  next hoff =>
    have hoff' : s.link.state = .off := by simpa using hoff
    have hlink : (cutTransmission (abandonCommand s)).link = s.link := by simp
    rw [hlink]
    have h1 := hsilent hoff'
    have h2 := hzero (by simp [hoff'])
    rcases hl : s.link with ⟨a, b, c⟩
    simp_all
  · simp

/-- A link in OFF with no command in flight and a completed result. -/
theorem controllerOk_off (hlink : t.link = ⟨.off, false, 0⟩) (hidle : t.cmd.inFlight = none) (hresult : t.cmd.result ≠ .pending)
    (hshadow : t.sched.shadow ≠ .validating) (hmissed : t.sync.missed ≤ 7) (hdev : DeviationOk t) : ControllerOk t := by
  refine ⟨⟨?_, ?_, ?_, ?_⟩, ?_, ⟨?_, ?_, ?_, ?_, ?_⟩, ⟨hmissed, ?_⟩, hdev⟩ <;> simp [hlink, hidle, hresult, hshadow]

theorem controllerOk_haltAction (h : ControllerOk s) : ControllerOk (haltAction s) :=
  controllerOk_off (by simp [haltAction, haltSteps_link h.role]) rfl nofun (haltSteps_shadow h)
    (by simpa using h.missed.1) (by simpa [DeviationOk] using h.deviation)

theorem controllerOk_linkResetAction (h : ControllerOk s) : ControllerOk (linkResetAction s) := by
  have hsync : (linkResetAction s).sync = ⟨0, 0, 0, 0⟩ := rfl
  refine controllerOk_off (by simp [linkResetAction, haltSteps_link h.role]) rfl nofun
    (by simpa [linkResetAction] using haltSteps_shadow h) (by rw [hsync]; exact Nat.zero_le 7) ?_
  rw [DeviationOk, hsync]
  exact ⟨by decide, by decide⟩

/-! ### Writes of direct registers -/

theorem controllerOk_actionOf (code : Byte) (h : ControllerOk s) (htx : TransmitterOk s)
    (hidle : s.cmd.inFlight = none ∨ Urgent code) : ControllerOk (actionOf code s) := by
  have hcalm : code.toNat ≠ 3 → code.toNat ≠ 6 → s.cmd.inFlight = none := fun h3 h6 =>
    hidle.resolve_right fun hu => by obtain rfl | rfl := hu <;> simp at h3 h6
  unfold actionOf
  split
  next hcode => exact controllerOk_startAction h (hcalm (by omega) (by omega))
  next hcode => exact controllerOk_stopAction h htx (hcalm (by omega) (by omega))
  · exact controllerOk_haltAction h
  next hcode => exact controllerOk_goSilentAction h (hcalm (by omega) (by omega))
  next hcode => exact controllerOk_resumeAction h (hcalm (by omega) (by omega))
  · exact controllerOk_linkResetAction h
  next hcode => exact controllerOk_armAction h (hcalm (by omega) (by omega))
  next hcode => exact controllerOk_disarmAction h (hcalm (by omega) (by omega))
  next hcode => exact controllerOk_onTx h (hcalm (by omega) (by omega)) completes_commitOn (by simp)
  next hcode => exact controllerOk_onTx h (hcalm (by omega) (by omega)) completes_withdrawOn (by simp)
  next hcode => exact controllerOk_onTx h (hcalm (by omega) (by omega)) completes_sendEventOn (by simp)
  next hcode => exact controllerOk_onTx h (hcalm (by omega) (by omega)) completes_cancelEventOn (by simp)
  next hcode => exact controllerOk_onRx h (hcalm (by omega) (by omega)) completes_holdOn (by simp)
  next hcode => exact controllerOk_onRx h (hcalm (by omega) (by omega)) completes_releaseOn (by simp)
  next hcode =>
    exact controllerOk_of_completes h (hcalm (by omega) (by omega)) completes_configMailboxAction
      (by simp) (by simp) (by simp) (by simp)
  next hcode =>
    exact controllerOk_of_completes h (hcalm (by omega) (by omega)) (completes_complete .ok nofun rfl) rfl rfl rfl rfl
  next h3 _ _ h6 _ _ _ _ _ _ _ _ _ _ => exact controllerOk_of_completes h (hcalm h3 h6) (completes_complete .unknownCmd nofun rfl) rfl rfl rfl rfl

/-- A write that a collection takes leaves the active bank and an armed or validating shadow (R44), and the parameters where
the link is not OFF or a START is in flight (R71). -/
theorem writeByte_banks {w : WindowByte} {v : Byte} (hw : writeByte w v s = some t) :
    (∀ n : BankName, n = s.sched.active ∨ s.sched.shadow ≠ .idle → bankOf n t = bankOf n s) ∧
      (t.params = s.params ∨ s.link.state = .off ∧ s.cmd.inFlight ≠ some .start) := by
  have hother : ∀ (bank : BankName) (b : Bank), bankWritable bank s = true → ∀ n : BankName,
      n = s.sched.active ∨ s.sched.shadow ≠ .idle → bankOf n (setBank bank b s) = bankOf n s := by
    intro bank b hwritable n hn
    have hne : n ≠ bank := by
      rintro rfl
      simp only [bankWritable, Bool.and_eq_true, bne_iff_ne, beq_iff_eq] at hwritable
      exact hn.elim hwritable.1 (fun h => h hwritable.2)
    cases n with
    | a => cases bank with | a => exact absurd rfl hne | b => rfl
    | b => cases bank with | a => rfl | b => exact absurd rfl hne
  cases w with
  | param =>
    simp only [writeByte] at hw
    split at hw <;> cases hw
    next hwritable =>
      simp [paramsWritable] at hwritable
      exact ⟨fun _ _ => rfl, .inr hwritable⟩
  | mailbox | node => obtain ⟨e, -, rfl⟩ := Option.map_eq_some_iff.mp hw; exact ⟨fun _ _ => rfl, .inl rfl⟩
  | counter | queueView | outside => cases hw
  | point | status | acceptance => cases hw; exact ⟨fun _ _ => rfl, .inl rfl⟩
  | header bank byte =>
    simp only [writeByte] at hw
    split at hw <;> cases hw
    next hwritable => exact ⟨hother bank _ hwritable, .inl (by simp)⟩
  | entry bank i byte =>
    simp only [writeByte] at hw
    split at hw
    next hwritable =>
      obtain ⟨e, -, rfl⟩ := Option.map_eq_some_iff.mp hw
      exact ⟨hother bank _ hwritable, .inl (by simp)⟩
    · cases hw

theorem controllerOk_writeByte {w : WindowByte} {v : Byte} (hw : writeByte w v s = some t) (h : ControllerOk s) :
    ControllerOk t := by
  obtain ⟨-, -, -, -, -, hlink, hsync, -, hcmd, -, -, hactive, hshadow, -⟩ := writeByte_keeps hw
  obtain ⟨hbanks, hparams⟩ := writeByte_banks hw
  have hunit : CommandUnitOk t := by unfold CommandUnitOk; rw [hcmd, hshadow, hlink]; exact h.unit
  have hdev : DeviationOk t := by unfold DeviationOk; rw [hsync]; exact h.deviation
  have hlimit : startupLimit t = startupLimit s := by
    unfold startupLimit activeBank; rw [hactive, hbanks _ (.inl rfl)]
  obtain hparams | ⟨hoff, hstart⟩ := hparams
  · refine ⟨hunit, ?_, roleOk_of_same h.role hlink hparams fun _ => hlimit,
      missedOk_of_same h.missed (by rw [hlink]) hparams (by rw [hsync]), hdev⟩
    unfold ParamsOk; rw [hparams, hlink, hcmd]; exact h.params
  · obtain ⟨-, -, hsilent, -, hzero⟩ := h.role
    refine ⟨hunit, ?_, ?_, ⟨by rw [hsync]; exact h.missed.1, by simp [hlink, hoff]⟩, hdev⟩
    · unfold ParamsOk; rw [hlink, hcmd]; exact fun hp => (hp.elim (fun h => h hoff) hstart).elim
    · unfold RoleOk
      rw [hlink]
      simp [hoff, hsilent hoff, hzero (by simp [hoff])]

theorem controllerOk_writes {a : BusAddress} {v : Byte} (hw : Writes s a v t) (htx : TransmitterOk s) (h : ControllerOk s) :
    ControllerOk t := by
  have hcmd : ∀ u : CommandUnit, u.result = s.cmd.result → u.inFlight = s.cmd.inFlight → ControllerOk { s with cmd := u } :=
    fun u hresult hinFlight => by
      refine ⟨?_, ?_, h.role, h.missed, h.deviation⟩
      · unfold CommandUnitOk; simp only; rw [hresult, hinFlight]; exact h.unit
      · unfold ParamsOk; simp only; rw [hinFlight]; exact h.params
  cases hw with
  | cmd =>
    obtain ⟨-, -, heq⟩ | ⟨hidle, heq⟩ := writeCmd_cases v s <;> rw [heq]
    · exact hcmd _ rfl rfl
    · exact controllerOk_actionOf v (s := takenAs v s) (hcmd _ rfl rfl) htx hidle
  | data =>
    obtain ⟨t, ht, heq⟩ | ⟨-, heq⟩ := writeWindow_cases s.win.pointer v s <;> rw [writeData, heq]
    · exact controllerOk_of_same (controllerOk_writeByte ht h) rfl rfl rfl rfl rfl
    · exact controllerOk_of_same h rfl rfl rfl rfl rfl
  | arg0 | arg1 | cmdstat => exact hcmd _ rfl rfl
  | nothing => exact h
  | _ => exact controllerOk_of_same h rfl rfl rfl rfl rfl

/-! ### The end of a validation, and the obligation -/

theorem controllerOk_startValidated (h : ControllerOk s) (hstart : s.cmd.inFlight = some .start) :
    ControllerOk (startValidated s) := by
  obtain ⟨-, hvalidating, hoff, -⟩ := h.unit
  have hshadow : s.sched.shadow ≠ .validating := fun hv => by
    have := hvalidating.mp hv
    rw [hstart] at this; cases this
  have hstate := hoff hstart
  obtain ⟨-, -, hsilent, -, hzero⟩ := h.role
  unfold startValidated
  split
  · refine controllerOk_off ?_ rfl nofun hshadow h.missed.1 h.deviation
    rcases hl : s.link with ⟨a, b, c⟩
    have h1 := hsilent hstate
    have h2 := hzero (by simp [hstate])
    simp_all
  · have hparams := h.params (.inr hstart)
    refine ⟨⟨by simp [complete, completeWith], by simp [complete, completeWith, hshadow], by simp [complete, completeWith],
      ?_⟩, fun _ => by simpa using hparams, ⟨fun hs => ?_, fun hs => ?_, fun _ => ?_, fun _ => ?_, fun _ => rfl⟩,
      ⟨by simpa using h.missed.1, fun hf => ?_⟩, by simpa [DeviationOk] using h.deviation⟩
    · simp only [complete_link, setLinkState_link]
      split <;> simp [complete, completeWith]
    · simp only [complete_link, setLinkState_link] at hs
      split at hs
      next hmaster => simpa [isMaster] using hmaster
      · cases hs
    · simp only [complete_link, setLinkState_link] at hs
      split at hs
      · simp at hs
      next hfollower => simpa [isMaster] using hfollower
    · simpa using hsilent hstate
    · exact Nat.lt_of_lt_of_le (Nat.succ_pos 27) (Nat.le_add_left 28 _)
    · simp only [complete_link, setLinkState_link] at hf
      split at hf <;> simp at hf

theorem controllerOk_armValidated (h : ControllerOk s) (harm : s.cmd.inFlight = some .arm) : ControllerOk (armValidated s) := by
  obtain ⟨-, -, -, hstopping⟩ := h.unit
  have hstate : s.link.state ≠ .stopping := fun hs => by simpa [harm] using hstopping.mp hs
  have hcompletes : ∀ (r : ResultCode) (d i : Byte) (u : State), r ≠ .pending → u.params = s.params → u.link = s.link →
      u.sync = s.sync → u.sched.shadow ≠ .validating → (s.link.state = .starting → startupLimit u = startupLimit s) →
      ControllerOk (completeWith r d i u) := by
    intro r d i u hr hparams hlink hsync hshadow hlimit
    refine ⟨⟨by simp [completeWith, hr], by simp [completeWith, hshadow], by simp [completeWith],
      by simp [completeWith, hlink, hstate]⟩, fun hp => ?_, roleOk_of_same h.role hlink hparams hlimit,
      missedOk_of_same h.missed (by simp [hlink]) hparams (by simp [hsync]), ?_⟩
    · simp only [completeWith_params, hparams]
      simp only [completeWith_link, hlink] at hp
      exact h.params (hp.elim .inl fun hs => by simp [completeWith] at hs)
    · unfold DeviationOk; simp only [completeWith_sync, hsync]; exact h.deviation
  unfold armValidated
  split
  · exact hcompletes _ _ _ _ nofun rfl rfl rfl nofun (fun _ => rfl)
  · split
    next hoff =>
      refine hcompletes .ok 0 0 _ nofun (by simp) (by simp) (by simp) ?_ (fun hs => by simp [hoff] at hs)
      unfold exchangeBanks; simp only; split <;> nofun
    · exact hcompletes .ok 0 0 _ nofun rfl rfl rfl nofun (fun _ => rfl)

theorem controllerOk_acts {c : Instr} (hc : Acts s c t) (htx : TransmitterOk s) (htimer : TimerOk s) (h : ControllerOk s) :
    ControllerOk t := by
  cases hc with
  | write hw => exact controllerOk_writes (busWrite_writes _ _ s) htx h
  | nothing => exact h
  | wdataRead | posLRead | lineHighAfterStopBitError => exact controllerOk_of_same h rfl rfl rfl rfl rfl
  | startValidated hstart => exact controllerOk_startValidated h hstart
  | armValidated harm => exact controllerOk_armValidated h harm
  | hardwareReset => exact controllerOk_off rfl rfl nofun nofun (Nat.zero_le 7) (by simp [DeviationOk, State.reset])
  | startBitConfirmed => exact controllerOk_confirmStartBit h
  | characterComplete v => exact controllerOk_completeCharacter v h
  | stopBitError | gapTimerExpires | backoffElapses =>
    exact controllerOk_of_same h (by simp) (by simp) (by simp) (by simp) (by simp)
  | positionReached | cycleBoundary => exact controllerOk_endOfCt htimer h
  | startupSilenceCompletes hstarting =>
    exact controllerOk_of_same (controllerOk_completeStartup h hstarting) rfl rfl rfl rfl rfl
  | transmissionCompletes x => exact controllerOk_completeTransmission x h
  | transmissionCollides x => exact controllerOk_collideTransmission x h

end

/-- Settles O55: a happening moves link state and shadow only as `Proceeds` says, each command completes or stays in flight,
and the counts follow the operations that write them. -/
theorem controllerKept : Obligations.ControllerKept := by
  intro s t hunit htx htimer hparams hrole hmissed hdev hstep
  have h : ControllerOk s := ⟨hunit, hparams, hrole, hmissed, hdev⟩
  have ht : ControllerOk t := by
    obtain rfl | ⟨c, rest, -, hc⟩ := step_cases hstep
    · exact controllerOk_idleCt h
    · exact controllerOk_acts hc htx htimer (controllerOk_of_same h rfl rfl rfl rfl rfl)
  exact ⟨ht.unit, ht.params, ht.role, ht.missed, ht.deviation⟩

end Sys2Proof.Machine
end

section
/-! # Configuration, held content, parameters and banks stay (R43, R44, R70, R71, R117, R124, R125, R131)

What every happening and every command but three leaves of a mailbox; then those three, which name the mailbox or reset it;
then the obligation. -/

open Sys2Proof

namespace Sys2Proof.Machine

/-! ### One mailbox -/

/-- The configuration stays, and a HELD mailbox stays HELD with its content. -/
structure BoxKeeps (b b' : Mailbox) : Prop where
  config : configCode b' = configCode b
  held : ∀ r, b = .rx r → r.state = .held → ∃ r', b' = .rx r' ∧ r'.state = .held ∧ r'.content = r.content

theorem BoxKeeps.refl (b : Mailbox) : BoxKeeps b b := ⟨rfl, fun r hb hr => ⟨r, hb, hr, rfl⟩⟩

theorem BoxKeeps.trans {b b' b'' : Mailbox} (h : BoxKeeps b b') (h' : BoxKeeps b' b'') : BoxKeeps b b'' where
  config := h'.config.trans h.config
  held r hb hr := by
    obtain ⟨r', hb', hr', hc'⟩ := h.held r hb hr
    obtain ⟨r'', hb'', hr'', hc''⟩ := h'.held r' hb' hr'
    exact ⟨r'', hb'', hr'', hc''.trans hc'⟩

/-- A change of a TX mailbox that leaves its mode. -/
theorem boxKeeps_tx {b b' : TxMailbox} (hmode : b'.mode = b.mode) : BoxKeeps (.tx b) (.tx b') :=
  ⟨by simp [configCode, hmode], nofun⟩

/-- A change of an RX mailbox that leaves its policy, and a HELD one HELD with its content. -/
theorem boxKeeps_rx {r r' : RxMailbox} (hpolicy : r'.policy = r.policy)
    (hheld : r.state = .held → r'.state = .held ∧ r'.content = r.content) : BoxKeeps (.rx r) (.rx r') := by
  refine ⟨by simp [configCode, hpolicy], fun q hq hstate => ⟨r', rfl, ?_⟩⟩
  cases hq
  exact hheld hstate

/-- A delivery leaves the policy, and the content of a HELD mailbox (R131, R132). -/
theorem boxKeeps_take (cycle : Word) (f : Frame) (r : RxMailbox) : BoxKeeps (.rx r) (.rx (r.take cycle f).1) := by
  unfold RxMailbox.take
  simp only
  split
  · exact boxKeeps_rx rfl fun h => ⟨h, rfl⟩
  · split <;> exact boxKeeps_rx rfl (by simp_all)

/-! ### All mailboxes, through the happenings -/

/-- Each mailbox keeps its configuration and what it holds, from the first state to the second. -/
def BoxesKept (s t : State) : Prop := ∀ m : Fin 24, BoxKeeps s.boxes[m] t.boxes[m]

section
variable {s₀ s t : State}

theorem boxesKept_of_boxes (h : BoxesKept s₀ s) (heq : t.boxes = s.boxes) : BoxesKept s₀ t := fun m => by
  rw [heq]; exact h m

theorem boxesKept_setBox {m : Fin 24} {b : Mailbox} (h : BoxesKept s₀ s) (hb : BoxKeeps s.boxes[m] b) :
    BoxesKept s₀ { s with boxes := put s.boxes m b } := by
  intro k
  by_cases hk : k = m
  · subst hk; simp only [put_get_same]; exact (h k).trans hb
  · simp only [put_get_other _ _ _ _ hk]; exact h k

theorem boxesKept_setTx {m : Fin 24} {b b' : TxMailbox} (h : BoxesKept s₀ s) (hb : s.boxes[m] = .tx b)
    (hmode : b'.mode = b.mode) : BoxesKept s₀ { s with boxes := put s.boxes m (.tx b') } :=
  boxesKept_setBox h (by rw [hb]; exact boxKeeps_tx hmode)

theorem boxesKept_kept (s₀ : State) : Kept (BoxesKept s₀) where
  same h hsame := boxesKept_of_boxes h hsame.boxes
  flag _ h := h
  heard _ _ h := h
  missed _ h := h
  taken cycle hr _ h := boxesKept_setBox h (by rw [hr]; exact boxKeeps_take cycle _ _)
  refused _ hb h := boxesKept_setTx h hb rfl
  slotSends hb _ _ _ h := boxesKept_setTx h hb rfl
  launches _ _ h := h
  readback _ _ h := h

theorem boxesKept_updateTx (m : Fin 24) {f : TxMailbox → TxMailbox} (hmode : ∀ b, (f b).mode = b.mode) (h : BoxesKept s₀ s) :
    BoxesKept s₀ (updateTx m f s) := by
  cases hb : s.boxes[m] with
  | tx b => rw [updateTx_tx hb]; exact boxesKept_setTx h hb (hmode b)
  | rx r => rw [updateTx_rx hb]; exact h

/-- The end of a lock leaves the mode (R102). -/
theorem boxesKept_endLock (m : Fin 24) {f : TxMailbox → TxMailbox} (hmode : ∀ b, (f b).mode = b.mode) (h : BoxesKept s₀ s) :
    BoxesKept s₀ (updateTx m (fun b => (f b).applyPending) s) :=
  boxesKept_updateTx m (fun b => (applyPending_mode (f b)).trans (hmode b)) h

theorem boxesKept_outcomeCompleted (r : Requester) (h : BoxesKept s₀ s) : BoxesKept s₀ (outcomeCompleted r s) := by
  cases r with
  | cycleStart => exact h
  | slot m => exact boxesKept_endLock m (fun _ => rfl) h
  | event m => exact boxesKept_endLock m (f := TxMailbox.eventSent) (fun _ => rfl) h

theorem boxesKept_outcomeCollided (r : Requester) (h : BoxesKept s₀ s) : BoxesKept s₀ (outcomeCollided r s) := by
  cases r with
  | cycleStart => exact h
  | slot m => exact boxesKept_endLock m (f := TxMailbox.slotCollided) (fun _ => rfl) h
  | event m =>
    unfold outcomeCollided
    simp only
    split
    · exact boxesKept_endLock m (fun _ => rfl) h
    · exact boxesKept_endLock m (f := TxMailbox.eventDropped) (fun _ => rfl) h

theorem boxesKept_outcomeCut (r : Requester) (h : BoxesKept s₀ s) : BoxesKept s₀ (outcomeCut r s) := by
  cases r with
  | cycleStart => exact h
  | slot m => exact boxesKept_endLock m (fun _ => rfl) h
  | event m => exact boxesKept_endLock m (fun _ => rfl) h

theorem boxesKept_completeTransmission (x : Transmission) (h : BoxesKept s₀ s) : BoxesKept s₀ (completeTransmission x s) :=
  (boxesKept_kept s₀).settleWait ((boxesKept_kept s₀).finishStopping
    (boxesKept_outcomeCompleted (s := transmitterIdle s) _ h))

theorem boxesKept_collideTransmission (x : Transmission) (h : BoxesKept s₀ s) : BoxesKept s₀ (collideTransmission x s) :=
  (boxesKept_kept s₀).settleWait ((boxesKept_kept s₀).finishStopping
    (boxesKept_outcomeCollided (s := countCollision (transmitterIdle s)) _ h))

theorem boxesKept_endDueTransmission (h : BoxesKept s₀ s) : BoxesKept s₀ (endDueTransmission s) := by
  obtain ⟨-, heq⟩ | ⟨x, -, -, -, heq⟩ | ⟨x, -, -, heq⟩ := endDueTransmission_cases s <;> rw [heq]
  · exact h
  · exact boxesKept_completeTransmission x h
  · exact boxesKept_collideTransmission x h

theorem boxesKept_endOfCt (h : BoxesKept s₀ s) : BoxesKept s₀ (endOfCt s) := by
  obtain ⟨-, heq⟩ | ⟨-, heq⟩ := endOfCt_cases s <;> rw [heq]
  · exact h
  · exact (boxesKept_kept s₀).advanceTimer (boxesKept_endDueTransmission ((boxesKept_kept s₀).ctPasses h))

theorem boxesKept_elapse (h : BoxesKept s₀ s) : BoxesKept s₀ (elapse s) := by
  unfold elapse
  split
  · exact h
  · refine (boxesKept_kept s₀).settleWait ?_
    split
    · exact (boxesKept_kept s₀).abandonAssembly .truncErr (boxesKept_updateTx _ (fun _ => rfl) h)
    · exact h

/-! ### Commands and accesses of the host -/

theorem boxesKept_complete (r : ResultCode) (h : BoxesKept s₀ s) : BoxesKept s₀ (complete r s) := h

theorem boxesKept_commitOn {m : Fin 24} {b : TxMailbox} (hb : s.boxes[m] = .tx b) (h : BoxesKept s₀ s) :
    BoxesKept s₀ (commitOn m b s) := by
  unfold commitOn
  split
  · exact h
  · split
    · exact h
    · split
      · exact boxesKept_complete _ (boxesKept_setTx (b' := { b with pendingCommit := true }) h hb rfl)
      · exact boxesKept_complete _ (boxesKept_setTx (b' := b.commit) h hb rfl)

theorem boxesKept_withdrawOn {m : Fin 24} {b : TxMailbox} (hb : s.boxes[m] = .tx b) (h : BoxesKept s₀ s) :
    BoxesKept s₀ (withdrawOn m b s) := by
  unfold withdrawOn
  split
  case h_1 => exact boxesKept_complete .ok (boxesKept_setTx (b' := { b with state := .free }) h hb rfl)
  all_goals exact h

theorem boxesKept_sendEventOn {m : Fin 24} {b : TxMailbox} (hb : s.boxes[m] = .tx b) (h : BoxesKept s₀ s) :
    BoxesKept s₀ (sendEventOn m b s) := by
  unfold sendEventOn
  split
  · exact h
  · split
    case h_4 =>
      split
      · exact h
      · exact boxesKept_complete .ok (boxesKept_setTx (b' := { b with state := .queued, retry := 0 }) h hb rfl)
    all_goals exact h

theorem boxesKept_cancelEventOn {m : Fin 24} {b : TxMailbox} (hb : s.boxes[m] = .tx b) (h : BoxesKept s₀ s) :
    BoxesKept s₀ (cancelEventOn m b s) := by
  unfold cancelEventOn
  split
  · exact h
  · split
    case h_1 => exact boxesKept_complete .ok (boxesKept_setTx (b' := { b with state := .loaded }) h hb rfl)
    all_goals exact h

theorem boxesKept_holdOn {m : Fin 24} {r : RxMailbox} (hr : s.boxes[m] = .rx r) (h : BoxesKept s₀ s) :
    BoxesKept s₀ (holdOn m r s) := by
  unfold holdOn
  split
  case h_3 =>
    exact boxesKept_complete .ok (boxesKept_setBox (b := .rx r.hold) h (by rw [hr]; exact boxKeeps_rx rfl fun _ => ⟨rfl, rfl⟩))
  all_goals exact h

theorem boxesKept_clearCountersAction (h : BoxesKept s₀ s) : BoxesKept s₀ (clearCountersAction s) := by
  intro m
  rw [clearCountersAction_boxes_get]
  refine (h m).trans ?_
  cases s.boxes[m] with
  | tx b => exact .refl _
  | rx r => exact boxKeeps_rx rfl fun hr => ⟨hr, rfl⟩

theorem boxesKept_haltSteps (h : BoxesKept s₀ s) : BoxesKept s₀ (haltSteps s) := by
  have habandon := (boxesKept_kept s₀).abandonCommand h
  have hcut : BoxesKept s₀ (cutTransmission (abandonCommand s)) := by
    unfold cutTransmission
    split
    · exact habandon
    · exact boxesKept_outcomeCut _ habandon
  unfold haltSteps
  simp only
  split
  · exact hcut
  · exact (boxesKept_kept s₀).enterOff hcut

/-- Of the codes only LINK_RESET, RELEASE and CONFIG_MAILBOX may end a hold. -/
theorem boxesKept_actionOf {code : Byte} (hreset : code ≠ 0x06) (hrelease : code ≠ 0x25) (hconfig : code ≠ 0x26)
    (h : BoxesKept s₀ s) : BoxesKept s₀ (actionOf code s) := by
  have hkept := boxesKept_kept s₀
  unfold actionOf
  split
  · exact hkept.startAction h
  · exact hkept.stopAction h
  · exact boxesKept_complete _ (boxesKept_haltSteps h)
  · exact hkept.goSilentAction h
  · exact hkept.resumeAction h
  next hcode => exact absurd (BitVec.eq_of_toNat_eq hcode) hreset
  · exact hkept.armAction h
  · exact hkept.disarmAction h
  · exact hkept.onTx (fun _ _ hb => boxesKept_commitOn hb h) h
  · exact hkept.onTx (fun _ _ hb => boxesKept_withdrawOn hb h) h
  · exact hkept.onTx (fun _ _ hb => boxesKept_sendEventOn hb h) h
  · exact hkept.onTx (fun _ _ hb => boxesKept_cancelEventOn hb h) h
  · exact hkept.onRx (fun _ _ hr => boxesKept_holdOn hr h) h
  next hcode => exact absurd (BitVec.eq_of_toNat_eq hcode) hrelease
  next hcode => exact absurd (BitVec.eq_of_toNat_eq hcode) hconfig
  · exact boxesKept_clearCountersAction h
  · exact h

theorem boxesKept_writeByte {w : WindowByte} {v : Byte} (hw : writeByte w v s = some t) (h : BoxesKept s₀ s) :
    BoxesKept s₀ t := by
  cases w with
  | mailbox m byte =>
    obtain ⟨b, hb, rfl⟩ := Option.map_eq_some_iff.mp hw
    unfold writeMailbox at hb
    split at hb
    · cases hb
    next b₀ hb₀ =>
      split at hb
      · cases hb
      · obtain ⟨g, -, rfl⟩ := Option.map_eq_some_iff.mp hb
        exact boxesKept_setTx h hb₀ rfl
  | node n byte => obtain ⟨e, -, rfl⟩ := Option.map_eq_some_iff.mp hw; exact h
  | counter | queueView | outside => cases hw
  | point | status | acceptance => cases hw; exact h
  | param =>
    simp only [writeByte] at hw
    split at hw <;> cases hw
    exact h
  | header bank byte =>
    simp only [writeByte] at hw
    split at hw <;> cases hw
    exact boxesKept_of_boxes h (by simp)
  | entry bank i byte =>
    simp only [writeByte] at hw
    split at hw
    · obtain ⟨e, -, rfl⟩ := Option.map_eq_some_iff.mp hw
      exact boxesKept_of_boxes h (by simp)
    · cases hw

/-! ### RELEASE, CONFIG_MAILBOX and LINK_RESET -/

/-- The configuration of every mailbox stays. -/
def ConfigKept (s t : State) : Prop := ∀ m : Fin 24, configuration t m = configuration s m

theorem BoxesKept.config (h : BoxesKept s t) : ConfigKept s t := fun m => (h m).config

/-- The mailbox that RELEASE may change is the one that ARG0 names, and its policy stays (R135). -/
theorem release_boxes (s : State) (k : Fin 24) :
    ((onRx releaseOn s).boxes[k] = s.boxes[k] ∨ namedMailbox s = some k) ∧
      configCode (onRx releaseOn s).boxes[k] = configCode s.boxes[k] := by
  obtain ⟨-, heq⟩ | ⟨_, _, -, -, heq⟩ | ⟨m, r, hm, hr, heq⟩ := onRx_cases releaseOn s <;> rw [heq]
  · exact ⟨.inl rfl, rfl⟩
  · exact ⟨.inl rfl, rfl⟩
  · by_cases hempty : r.state = .empty
    · rw [releaseOn_empty hempty]; exact ⟨.inl rfl, rfl⟩
    · have hboxes : (releaseOn m r s).boxes = put s.boxes m (.rx r.release.1) := by
        rw [releaseOn_not_empty hempty]
        split <;> rfl
      rw [hboxes]
      by_cases hk : k = m
      · subst hk
        refine ⟨.inr hm, ?_⟩
        rw [put_get_same, hr]
        unfold RxMailbox.release
        split <;> rfl
      · rw [put_get_other _ _ _ _ hk]; exact ⟨.inl rfl, rfl⟩

theorem configMailbox_boxes (hon : s.link.state ≠ .off) : (configMailboxAction s).boxes = s.boxes := by
  unfold configMailboxAction
  split
  · rfl
  · rfl
  · split
    next hoff => exact absurd hoff hon
    · rfl

/-- LINK_RESET leaves the configuration, and the content of a mailbox that was HELD (R121, R124). -/
theorem linkReset_boxes (m : Fin 24) :
    configCode (linkResetAction s).boxes[m] = configCode s.boxes[m] ∧
      ∀ r, s.boxes[m] = .rx r → r.state = .held → ∃ r', (linkResetAction s).boxes[m] = .rx r' ∧ r'.content = r.content := by
  have hbox : (linkResetAction s).boxes[m] = (haltSteps s).boxes[m].linkReset :=
    mapTable_get Mailbox.linkReset (haltSteps s).boxes m
  have hconfig : ∀ b : Mailbox, configCode b.linkReset = configCode b := by
    rintro (b | r)
    · change configCode (.tx b.linkReset) = _
      unfold TxMailbox.linkReset
      split <;> rfl
    · rfl
  have hhalt := boxesKept_haltSteps (s₀ := s) (s := s) (fun _ => .refl _) m
  rw [hbox, hconfig]
  refine ⟨hhalt.config, fun r hr hheld => ?_⟩
  obtain ⟨r', hr', -, hcontent⟩ := hhalt.held r hr hheld
  exact ⟨r'.linkReset, by rw [hr']; rfl, hcontent⟩

/-! ### Every row -/

theorem configKept_writeCmd (code : Byte) (hon : s.link.state ≠ .off) : ConfigKept s (writeCmd code s) := by
  obtain ⟨-, -, heq⟩ | ⟨-, heq⟩ := writeCmd_cases code s <;> rw [heq]
  · exact fun _ => rfl
  · intro m
    by_cases hreset : code = 0x06
    · subst hreset; exact (linkReset_boxes (s := takenAs 0x06 s) m).1
    · by_cases hrelease : code = 0x25
      · subst hrelease; exact (release_boxes (takenAs 0x25 s) m).2
      · by_cases hconfig : code = 0x26
        · subst hconfig
          have hboxes : (configMailboxAction (takenAs 0x26 s)).boxes = s.boxes := configMailbox_boxes (s := takenAs 0x26 s) hon
          exact congrArg (fun v : Vector Mailbox 24 => configCode v[m]) hboxes
        · exact (boxesKept_actionOf (s₀ := s) (s := takenAs code s) hreset hrelease hconfig (fun _ => .refl _)).config m

theorem boxesKept_writes {a : BusAddress} {v : Byte} (hw : Writes s a v t) (hcmd : a ≠ 0x00) : BoxesKept s t := by
  have hrefl : BoxesKept s s := fun _ => .refl _
  cases hw with
  | cmd => exact absurd rfl hcmd
  | data => exact (boxesKept_kept s).writeData _ (fun hw => boxesKept_writeByte hw hrefl) hrefl
  | _ => exact hrefl

/-- A row that writes no register keeps every mailbox's configuration and hold. -/
theorem boxesKept_acts {c : Instr} (hc : Acts s c t) (hrow : c ≠ .hardwareReset) (hwrite : asWrite c = none) : BoxesKept s t := by
  have hkept := boxesKept_kept s
  have h : BoxesKept s s := fun _ => .refl _
  cases hc with
  | write hw => rw [hwrite] at hw; cases hw
  | nothing | wdataRead | posLRead | lineHighAfterStopBitError => exact h
  | startValidated => exact hkept.startValidated h
  | armValidated => exact hkept.armValidated h
  | hardwareReset => exact absurd rfl hrow
  | startBitConfirmed => exact hkept.confirmStartBit h
  | characterComplete v => exact hkept.completeCharacter v h
  | stopBitError => exact hkept.characterFails h
  | gapTimerExpires => exact hkept.abandonAssembly _ h
  | positionReached | cycleBoundary => exact boxesKept_endOfCt h
  | startupSilenceCompletes => exact hkept.settleWait (hkept.completeStartup h)
  | backoffElapses => exact boxesKept_elapse h
  | transmissionCompletes x => exact boxesKept_completeTransmission x h
  | transmissionCollides x => exact boxesKept_collideTransmission x h

theorem configKept_acts {c : Instr} (hc : Acts s c t) (hrow : c ≠ .hardwareReset) (hon : s.link.state ≠ .off) :
    ConfigKept s t := by
  rcases hw : asWrite c with _ | ⟨a, v⟩
  · exact (boxesKept_acts hc hrow hw).config
  · obtain rfl : t = busWrite a v s := by
      cases hc with
      | write hw' => rw [hw] at hw'; cases hw'; rfl
      | nothing hn => rw [hw] at hn; cases hn
      | _ => cases hw
    by_cases ha : a = 0x00
    · subst ha; exact configKept_writeCmd v hon
    · exact (boxesKept_writes (busWrite_writes a v s) ha).config

theorem params_writes {a : BusAddress} {v : Byte} (hw : Writes s a v t) (hon : s.link.state ≠ .off) : t.params = s.params := by
  cases hw with
  | cmd => simp
  | data =>
    obtain ⟨t, ht, heq⟩ | ⟨-, heq⟩ := writeWindow_cases s.win.pointer v s <;> rw [writeData, heq]
    · obtain ⟨-, hparams | ⟨hoff, -⟩⟩ := writeByte_banks ht
      · exact hparams
      · exact absurd hoff hon
    · rfl
  | _ => rfl

theorem bankOf_congr {n : BankName} (ha : t.sched.bankA = s.sched.bankA) (hb : t.sched.bankB = s.sched.bankB) :
    bankOf n t = bankOf n s := by
  cases n
  · exact ha
  · exact hb

theorem banks_writes {a : BusAddress} {v : Byte} (hw : Writes s a v t) {n : BankName}
    (hn : n = s.sched.active ∨ s.sched.shadow ≠ .idle) : bankOf n t = bankOf n s := by
  cases hw with
  | cmd => exact bankOf_congr (by simp) (by simp)
  | data =>
    obtain ⟨t, ht, heq⟩ | ⟨-, heq⟩ := writeWindow_cases s.win.pointer v s <;> rw [writeData, heq]
    · exact (writeByte_banks ht).1 n hn
    · rfl
  | _ => rfl

theorem params_acts {c : Instr} (hc : Acts s c t) (hrow : c ≠ .hardwareReset) (hon : s.link.state ≠ .off) :
    t.params = s.params := by
  cases hc with
  | write hw => exact params_writes (busWrite_writes _ _ s) hon
  | hardwareReset => exact absurd rfl hrow
  | _ => simp

theorem banks_acts {c : Instr} (hc : Acts s c t) (hrow : c ≠ .hardwareReset) {n : BankName}
    (hn : n = s.sched.active ∨ s.sched.shadow ≠ .idle) : bankOf n t = bankOf n s := by
  cases hc with
  | write hw => exact banks_writes (busWrite_writes _ _ s) hn
  | hardwareReset => exact absurd rfl hrow
  | nothing => rfl
  | _ => exact bankOf_congr (by simp) (by simp)

end

/-! ### The obligation -/

/-- A well-formed row that writes a code to CMD is the row of that code, or the row of a lost write, or a code outside the
table (R177, R179). -/
theorem row_of_asWrite_cmd {c : Instr} {code : Byte} (hwf : c.wellFormed = true) (h : asWrite c = some (0x00, code)) :
    c = .cmdWriteLost code ∨ code ∉ commandCodes ∨
      ((code = 0x06 → c = .linkReset) ∧ (code = 0x25 → c = .release) ∧ (code = 0x26 → c = .configMailbox)) := by
  cases c
  case cmdWriteLost => cases h; exact .inl rfl
  case unknownCommand =>
    cases h
    have hout : code ∉ Sys2Proof.commandCodes := by simpa [Instr.wellFormed] using hwf
    exact .inr (.inl hout)
  case registerWrite a v =>
    cases h
    have hown : (0x00 : BusAddress) ∉ ownRowRegisters := by simpa [Instr.wellFormed] using hwf
    exact absurd (by decide) hown
  case iflgWrite r _ => cases r <;> cases h
  case ienWrite r _ => cases r <;> cases h
  all_goals cases h <;> exact .inr (.inr (by simp))

/-- A write of CMD leaves the content of a HELD mailbox, and its hold, but for the three rows that end holds. -/
theorem held_writeCmd {c : Instr} {code : Byte} {s : State} {m : Fin 24} {r : RxMailbox} (hwf : c.wellFormed = true)
    (hlost : ∀ code, c = .cmdWriteLost code → s.cmd.inFlight ≠ none) (hw : asWrite c = some (0x00, code))
    (hr : s.boxes[m] = .rx r) (hheld : r.state = .held) (hconfig : c ≠ .configMailbox) :
    ∃ r', (writeCmd code s).boxes[m] = .rx r' ∧
      (c ≠ .release → r'.content = r.content ∧ (c ≠ .linkReset → r'.state = .held)) ∧
      (c = .release → s.cmd.arg0.toNat ≠ m.val → r' = r) := by
  obtain ⟨-, -, heq⟩ | ⟨htaken, heq⟩ := writeCmd_cases code s <;> rw [heq]
  · exact ⟨r, hr, fun _ => ⟨rfl, fun _ => hheld⟩, fun _ _ => rfl⟩
  · obtain rfl | hunknown | ⟨hreset, hrelease, hconfigRow⟩ := row_of_asWrite_cmd hwf hw
    · obtain hidle | hurgent := htaken
      · exact absurd hidle (hlost code rfl)
      · obtain rfl | rfl := hurgent <;> simp [Instr.wellFormed] at hwf
    · rw [actionOf_of_notMem hunknown]
      exact ⟨r, hr, fun _ => ⟨rfl, fun _ => hheld⟩, fun _ _ => rfl⟩
    · by_cases h06 : code = 0x06
      · obtain rfl := hreset h06
        subst h06
        obtain ⟨r', hr', hcontent⟩ := (linkReset_boxes (s := takenAs 0x06 s) m).2 r hr hheld
        exact ⟨r', hr', fun _ => ⟨hcontent, fun h => absurd rfl h⟩, nofun⟩
      · by_cases h25 : code = 0x25
        · obtain rfl := hrelease h25
          subst h25
          obtain ⟨hsame | hnamed, -⟩ := release_boxes (takenAs 0x25 s) m
          · exact ⟨r, hsame.trans hr, fun h => absurd rfl h, fun _ _ => rfl⟩
          · rw [namedMailbox_takenAs, mailboxIndex_eq_some] at hnamed
            have hkept : ∃ r', (onRx releaseOn (takenAs 0x25 s)).boxes[m] = .rx r' := by
              have hcode := (release_boxes (takenAs 0x25 s) m).2
              cases hb : (onRx releaseOn (takenAs 0x25 s)).boxes[m] with
              | rx r' => exact ⟨r', rfl⟩
              | tx b =>
                have hrx : configCode (takenAs 0x25 s).boxes[m] = configCode (.rx r) := congrArg configCode hr
                rw [hb, hrx] at hcode
                exact absurd hcode (by simp only [configCode]; split <;> split <;> decide)
            obtain ⟨r', hr'⟩ := hkept
            exact ⟨r', hr', fun h => absurd rfl h, fun _ hne => absurd hnamed hne⟩
        · by_cases h26 : code = 0x26
          · exact absurd (hconfigRow h26) hconfig
          · obtain ⟨r', hr', hheld', hcontent⟩ :=
              (boxesKept_actionOf (s₀ := s) (s := takenAs code s) h06 h25 h26 (fun _ => .refl _) m).held r hr hheld
            refine ⟨r', hr', fun _ => ⟨hcontent, fun _ => hheld'⟩, ?_⟩
            rintro rfl
            cases hw
            exact absurd rfl h25

/-- Settles O60: outside OFF the parameters, the configurations and the banks in use have no writer but the hardware reset, and
only RELEASE, CONFIG_MAILBOX and LINK_RESET end a hold. -/
theorem heldAndConfiguredStateStays : Obligations.HeldAndConfiguredStateStays := by
  refine ⟨fun c s t hrow hexec => ?_, fun c s t m r hwf hlost hexec hr hheld hrow hconfig => ?_⟩
  · have hacts := acts_of_exec hexec
    exact ⟨fun hon => ⟨params_acts hacts hrow hon, configKept_acts hacts hrow hon⟩, fun n hn => banks_acts hacts hrow hn⟩
  · have hkeeps : BoxesKept s t → c ≠ .release → ∃ r', t.boxes[m] = .rx r' ∧
        (c ≠ .release → r'.content = r.content ∧ (c ≠ .linkReset → r'.state = .held)) ∧
        (c = .release → s.cmd.arg0.toNat ≠ m.val → r' = r) := fun h hne =>
      let ⟨r', hr', hheld', hcontent⟩ := (h m).held r hr hheld
      ⟨r', hr', fun _ => ⟨hcontent, fun _ => hheld'⟩, fun heq => absurd heq hne⟩
    rcases hw : asWrite c with _ | ⟨a, v⟩
    · exact hkeeps (boxesKept_acts (acts_of_exec hexec) hrow hw) (by rintro rfl; cases hw)
    · obtain rfl : busWrite a v s = t := Host.Outcome.next.inj ((exec_of_asWrite hw s).symm.trans hexec)
      by_cases ha : a = 0x00
      · subst ha; exact held_writeCmd hwf hlost hw hr hheld hconfig
      · exact hkeeps (boxesKept_writes (busWrite_writes a v s) ha) (by rintro rfl; cases hw; exact absurd rfl ha)

end Sys2Proof.Machine
end

section
/-! # Frames on the line (R6, R7, R10, R11, R16, R17, R19)

The end-of-frame checks read a run of bytes as header, payload and CRC; what they say of a run so split serves both the frames
that pass and the errors that the others count. -/

open Sys2Proof

namespace Sys2Proof.Machine

/-! ### Words and kinds -/

theorem mkWord_eq_append (hi lo : Byte) : mkWord hi lo = hi ++ lo := by
  apply BitVec.eq_of_getLsbD_eq
  intro i hi'
  simp only [mkWord, BitVec.getLsbD_or, BitVec.getLsbD_shiftLeft, BitVec.getLsbD_setWidth, BitVec.getLsbD_append]
  by_cases h : i < 8
  · simp [h, hi']
  · simp [h, hi', BitVec.getLsbD_of_ge lo i (by omega)]
    omega

theorem mkWord_hiByte_loByte (w : Word) : mkWord (hiByte w) (loByte w) = w := by
  rw [mkWord_eq_append]
  apply BitVec.eq_of_getLsbD_eq
  intro i hi
  simp only [hiByte, loByte, BitVec.getLsbD_append, BitVec.getLsbD_setWidth, BitVec.getLsbD_ushiftRight]
  by_cases h : i < 8
  · simp [h]
  · have h8 : 8 + (i - 8) = i := by omega
    have hlt : i - 8 < 8 := by omega
    simp [h, h8, hlt]

theorem frameKind?_eq_some (b : Byte) (k : FrameKind) : frameKind? b = some k ↔ b = k.code := by
  constructor
  · intro h
    unfold frameKind? at h
    (repeat' split at h) <;> cases h <;> assumption
  · rintro rfl
    cases k <;> rfl

theorem frameKind?_eq_none {b : Byte} : frameKind? b = none ↔ b ∉ [0x01#8, 0x02, 0x03] := by
  unfold frameKind?
  constructor
  · intro h
    (repeat' split at h) <;> cases h
    simp_all
  · intro h
    simp only [List.mem_cons, List.not_mem_nil, or_false, not_or] at h
    obtain ⟨h1, h2, h3⟩ := h
    exact (if_neg h1).trans ((if_neg h2).trans (if_neg h3))

theorem cycleLengthOk_iff (w : Word) : cycleLengthOk w = true ↔ 64 ≤ w.toNat ∧ w.toNat ≤ 16383 := by
  simp [cycleLengthOk]

theorem csFormatOk_iff (f : Frame) :
    f.csFormatOk = true ↔ f.payload.length = 5 ∧ f.dst = 255 ∧ f.csId ≠ 0 ∧ 64 ≤ f.csLength.toNat ∧ f.csLength.toNat ≤ 16383 := by
  simp only [Frame.csFormatOk, Bool.and_eq_true, beq_iff_eq, bne_iff_ne, cycleLengthOk_iff, and_assoc, Config.broadcast]
  rfl

/-! ### The checks of a run of bytes, split as a frame is (R19) -/

/-- A run of at least eight bytes is a header, a payload and two bytes of CRC. -/
theorem exists_frame_split {bytes : List Byte} (h : 8 ≤ bytes.length) :
    ∃ d s k t q n payload hi lo, bytes = d :: s :: k :: t :: q :: n :: (payload ++ [hi, lo]) := by
  match bytes, h with
  | d :: s :: k :: t :: q :: n :: rest, h =>
    have htail : (rest.drop (rest.length - 2)).length = 2 := by simp at h ⊢; omega
    obtain ⟨hi, lo, heq⟩ := List.length_eq_two.mp htail
    exact ⟨d, s, k, t, q, n, rest.take (rest.length - 2), hi, lo, by rw [← heq, List.take_append_drop]⟩

/-- The checks of R19 in their order, on a run of bytes whose LEN agrees with it. -/
theorem checkFrame_split (d s k t q n hi lo : Byte) (payload : List Byte) (hlen : n.toNat = payload.length) :
    checkFrame (d :: s :: k :: t :: q :: n :: (payload ++ [hi, lo])) =
      if 32 < payload.length then .invalid .lenErr
      else if crc (d :: s :: k :: t :: q :: n :: payload) ≠ mkWord hi lo then .invalid .crcErr
      else match frameKind? k with
        | none => .invalid .formatErr
        | some kind =>
          if kind = .cycleStart ∧ (⟨d, s, kind, t, q, payload⟩ : Frame).csFormatOk = false then .invalid .formatErr
          else .valid ⟨d, s, kind, t, q, payload⟩ := by
  have htake : (payload ++ [hi, lo]).take payload.length = payload := by simp
  have h6 : 6 + payload.length = payload.length + 6 := Nat.add_comm _ _
  have h7 : 7 + payload.length = payload.length + 1 + 6 := by omega
  have hlength : (d :: s :: k :: t :: q :: n :: (payload ++ [hi, lo])).length = 8 + payload.length := by simp; omega
  unfold checkFrame
  simp [hlen, hlength, h6, h7, htake] <;> rfl

/-- A valid frame's bytes are as many as its LEN says. -/
theorem length_of_checkFrame_valid {bytes : List Byte} {f : Frame} (h : checkFrame bytes = .valid f) :
    8 ≤ bytes.length ∧ (bytes.getD 5 0).toNat ≤ 32 ∧ bytes.length = 8 + (bytes.getD 5 0).toNat := by
  unfold checkFrame at h
  simp only [Config.payloadBytes] at h
  split at h
  · cases h
  · split at h
    · cases h
    next hshort hlen =>
      simp only [Bool.or_eq_true, decide_eq_true_eq, bne_iff_ne, not_or, not_lt, not_not] at hlen
      exact ⟨by omega, hlen⟩

theorem toNat_ofNat_length {payload : List Byte} (h : payload.length ≤ 32) :
    (BitVec.ofNat 8 payload.length).toNat = payload.length := by
  rw [BitVec.toNat_ofNat]; omega

/-- The checks of R19 pass a run of bytes exactly as the frame whose inner bytes it is. -/
theorem checkFrame_eq_valid (bytes : List Byte) (f : Frame) :
    checkFrame bytes = .valid f ↔
      bytes = f.inner ∧ f.payload.length ≤ 32 ∧ (f.kind = .cycleStart → f.csFormatOk = true) := by
  constructor
  · intro h
    obtain ⟨h8, hle, hlen⟩ := length_of_checkFrame_valid h
    obtain ⟨d, s, k, t, q, n, payload, hi, lo, rfl⟩ := exists_frame_split h8
    have hn : n.toNat = payload.length := by simp at hlen; omega
    rw [checkFrame_split d s k t q n hi lo payload hn] at h
    split at h
    · cases h
    · split at h
      · cases h
      next hshort hcrc =>
        split at h
        · cases h
        next kind hkind =>
          split at h
          · cases h
          next hform =>
            cases h
            have hk := (frameKind?_eq_some k kind).mp hkind
            have hn' : BitVec.ofNat 8 payload.length = n := by rw [← hn]; simp
            refine ⟨?_, not_lt.mp hshort, fun hcs => by simpa using fun h => hform ⟨hcs, h⟩⟩
            have hcrc' : crc (d :: s :: k :: t :: q :: n :: payload) = mkWord hi lo := not_not.mp hcrc
            subst hk
            simp [Frame.inner, Frame.body, hn', hcrc', hiByte_mkWord, loByte_mkWord]
  · rintro ⟨rfl, hle, hform⟩
    have hn := toNat_ofNat_length hle
    have hkind := (frameKind?_eq_some f.kind.code f.kind).mpr rfl
    have hchecks := checkFrame_split f.dst f.src f.kind.code f.tag f.seq (BitVec.ofNat 8 f.payload.length)
      (hiByte (crc f.body)) (loByte (crc f.body)) f.payload hn
    rw [hkind, if_neg (by omega), mkWord_hiByte_loByte] at hchecks
    refine hchecks.trans ((if_neg (not_not.mpr rfl)).trans (if_neg ?_))
    rintro ⟨hcs, hbad⟩
    exact absurd (hform hcs) (by rw [show f.csFormatOk = false from hbad]; nofun)

/-- Settles O27: the checks on a run split as a frame, with the form of a cycle-start frame written out. -/
theorem checksPassExactlyFrames : Obligations.ChecksPassExactlyFrames := by
  intro bytes f
  rw [checkFrame_eq_valid, csFormatOk_iff]

/-! ### What a failed frame counts, and the CRC (R10, R19) -/

theorem crcBit_eq (c : Word) (b : Bool) : crcBit c b = if c.getLsbD 15 != b then (c <<< 1) ^^^ 0x1021 else c <<< 1 := by
  unfold crcBit
  rw [BitVec.msb_eq_getLsbD_last]

theorem crcByte_eq (c : Word) (b : Byte) :
    crcByte c b = (List.range 8).foldl (fun (c : Word) i =>
      if c.getLsbD 15 != b.getLsbD (7 - i) then (c <<< 1) ^^^ 0x1021 else c <<< 1) c := by
  simp only [crcByte, crcBit_eq, List.range_succ, List.foldl_cons]
  rfl

theorem crc_append (bytes : List Byte) (b : Byte) : crc (bytes ++ [b]) = crcByte (crc bytes) b := by
  simp [crc, List.foldl_append]

section
variable {bytes : List Byte}

theorem checkFrame_short (h : bytes.length < 8) : checkFrame bytes = .invalid .lenErr := by
  simp [checkFrame, h]

theorem checkFrame_badLen (h8 : 8 ≤ bytes.length)
    (h : 32 < (bytes.getD 5 0).toNat ∨ bytes.length ≠ 8 + (bytes.getD 5 0).toNat) : checkFrame bytes = .invalid .lenErr := by
  unfold checkFrame
  rw [if_neg (by omega), if_pos (by simpa using h)]

/-- Past the length checks, the run is split as a frame and its bytes are found by their places. -/
theorem exists_split_of_len (hle : (bytes.getD 5 0).toNat ≤ 32) (hlen : bytes.length = 8 + (bytes.getD 5 0).toNat) :
    ∃ d s k t q n payload hi lo, bytes = d :: s :: k :: t :: q :: n :: (payload ++ [hi, lo]) ∧ n.toNat = payload.length ∧
      payload.length ≤ 32 := by
  obtain ⟨d, s, k, t, q, n, payload, hi, lo, rfl⟩ := exists_frame_split (by omega : 8 ≤ bytes.length)
  have hn : n.toNat = payload.length := by simp at hlen; omega
  exact ⟨d, s, k, t, q, n, payload, hi, lo, rfl, hn, by simp at hle; omega⟩

end

/-- The CRC of a run split as a frame stands in its two last bytes (R7, R19). -/
theorem crcMatches_split {d s k t q n hi lo : Byte} {payload : List Byte} (hn : n.toNat = payload.length) :
    let bytes := d :: s :: k :: t :: q :: n :: (payload ++ [hi, lo])
    (crc (bytes.take (6 + n.toNat)) = bytes.getD (6 + n.toNat) 0 ++ bytes.getD (7 + n.toNat) 0) ↔
      crc (d :: s :: k :: t :: q :: n :: payload) = mkWord hi lo := by
  have h6 : 6 + payload.length = payload.length + 6 := Nat.add_comm _ _
  have h7 : 7 + payload.length = payload.length + 1 + 6 := by omega
  simp [hn, h6, h7, mkWord_eq_append]

/-- The check value of R10. -/
theorem crc_checkValue : crc [0x31, 0x32, 0x33, 0x34, 0x35, 0x36, 0x37, 0x38, 0x39] = 0x29B1 := by
  simp [crc, crcByte, crcBit, BitVec.msb_eq_getLsbD_last]

/-- The form of a cycle-start frame, read from the places of its fields in the run (R9, R19). -/
theorem csFormat_split {d s t q n hi lo : Byte} {payload : List Byte} (hn : n.toNat = payload.length)
    (byte : Nat → Byte) (hbyte : byte = fun i => (d :: s :: 0x01 :: t :: q :: n :: (payload ++ [hi, lo])).getD i 0)
    (hform : n.toNat ≠ 5 ∨ byte 0 ≠ 255 ∨ byte 8 = 0 ∨ (byte 9 ++ byte 10 : Word).toNat < 64 ∨
      16383 < (byte 9 ++ byte 10 : Word).toNat) :
    (⟨d, s, .cycleStart, t, q, payload⟩ : Frame).csFormatOk = false := by
  rw [← Bool.not_eq_true, csFormatOk_iff]
  rintro ⟨hfive, hdst, hid, hlow, hhigh⟩
  dsimp only at hfive hdst
  have hplace : ∀ i < 5, byte (i + 6) = payload.getD i 0 := by
    intro i hi
    rw [hbyte]
    simp [List.getElem?_append_left (hfive ▸ hi : i < payload.length)]
  have hlength : (⟨d, s, .cycleStart, t, q, payload⟩ : Frame).csLength = (byte 9 ++ byte 10 : Word) := by
    rw [hplace 3 (by omega), hplace 4 (by omega), ← mkWord_eq_append]; rfl
  rw [hlength] at hlow hhigh
  obtain h | h | h | h | h := hform
  · exact h (hn.trans hfive)
  · exact h (by rw [hbyte]; exact hdst)
  · exact hid ((hplace 2 (by omega)).symm.trans h)
  · exact absurd hlow (not_le.mpr h)
  · exact absurd hhigh (not_le.mpr h)

/-- Settles O28: the length checks from the definition; the others from the run split as a frame. -/
theorem failedFrameCounted : Obligations.FailedFrameCounted := by
  refine ⟨fun bytes => ?_, rfl, fun bytes b => ?_, crc_checkValue⟩
  · refine ⟨checkFrame_short, checkFrame_badLen, fun hle hlen hcrc => ?_, fun hle hlen hcrc hkind => ?_,
      fun hle hlen hcrc hkind hform => ?_⟩
    · obtain ⟨d, s, k, t, q, n, payload, hi, lo, rfl, hn, hp⟩ := exists_split_of_len hle hlen
      rw [checkFrame_split d s k t q n hi lo payload hn, if_neg (by omega), if_pos]
      exact fun h => hcrc ((crcMatches_split hn).mpr h)
    · obtain ⟨d, s, k, t, q, n, payload, hi, lo, rfl, hn, hp⟩ := exists_split_of_len hle hlen
      have hcrc' := not_not.mpr ((crcMatches_split hn).mp hcrc)
      rw [checkFrame_split d s k t q n hi lo payload hn, if_neg (by omega), if_neg hcrc', frameKind?_eq_none.mpr (by exact hkind)]
    · obtain ⟨d, s, k, t, q, n, payload, hi, lo, rfl, hn, hp⟩ := exists_split_of_len hle hlen
      have hcrc' := not_not.mpr ((crcMatches_split hn).mp hcrc)
      have hk : frameKind? k = some .cycleStart := (frameKind?_eq_some _ _).mpr hkind
      rw [checkFrame_split d s k t q n hi lo payload hn, if_neg (by omega), if_neg hcrc', hk]
      have hk' : k = 0x01 := hkind
      subst hk'
      exact if_pos ⟨rfl, csFormat_split hn _ rfl hform⟩
  · rw [crc_append, crcByte_eq]

end Sys2Proof.Machine
end

section
/-! # The banks, the time base and the open slot (R23, R25, R43, R52, R56, R58, R59)

The Cycle Timer, the slot and the lengths of the banks are kept together (`ClockOk`): a swap brings the shadow's length into
force. Validation reads the configuration of the mailboxes too; which bank is active and which is ARMED is said apart
(`Selects`), and validity follows from that and from what no happening changes. -/

open Sys2Proof

namespace Sys2Proof.Machine

/-! ### Where a slot is open -/

/-- A slot is open only where one was, or where the link is RUNNING (R58). -/
def SlotWithin (s t : State) : Prop := t.seq.slot.isSome = true → s.seq.slot.isSome = true ∨ s.link.state = .running

section
variable {s t : State}

@[simp] theorem closeSlot_seq_slot (s : State) : (closeSlot s).seq.slot = none := rfl

theorem slotWithin_of_same (h : t.seq.slot = s.seq.slot) : SlotWithin s t := fun ht => .inl (by rw [← h]; exact ht)

theorem slotWithin_of_none (h : t.seq.slot = none) : SlotWithin s t := fun ht => by rw [h] at ht; cases ht

theorem SlotWithin.trans {u : State} (hst : SlotWithin s t) (hlink : t.link.state = s.link.state) (htu : SlotWithin t u) :
    SlotWithin s u := fun hu => (htu hu).elim hst fun h => .inr (by rw [← hlink]; exact h)

/-- A second operation that leaves the slot follows. -/
theorem SlotWithin.keep {u : State} (hst : SlotWithin s t) (h : u.seq.slot = t.seq.slot) : SlotWithin s u :=
  fun hu => hst (by rw [← h]; exact hu)

variable (s)

theorem slotWithin_slotFrameOpened : SlotWithin s (slotFrameOpened s) := by
  intro h
  rw [slotFrameOpened_eq] at h
  exact .inl (by simpa using h)

theorem slotWithin_slotFrameEnded : SlotWithin s (slotFrameEnded s) := by
  obtain ⟨-, heq⟩ | ⟨sl, hsl, -, heq⟩ | ⟨sl, hsl, -, heq⟩ := slotFrameEnded_cases s <;> rw [heq]
  · exact slotWithin_of_same rfl
  · exact fun _ => .inl (by simp [hsl])
  · exact slotWithin_of_none (by simp)

theorem slotWithin_abandonAssembly (c : Counter) : SlotWithin s (abandonAssembly c s) := by
  obtain ⟨-, heq⟩ | ⟨-, heq⟩ := abandonAssembly_cases c s <;> rw [heq]
  · exact slotWithin_of_same rfl
  · exact slotWithin_slotFrameEnded _

theorem slotWithin_beginFrame (r : Requester) (f : Frame) : SlotWithin s (beginFrame r f s) :=
  (slotWithin_abandonAssembly s .truncErr).keep rfl

theorem slotWithin_slotWindowEnd : SlotWithin s (slotWindowEnd s) := by
  unfold slotWindowEnd
  split
  · exact slotWithin_of_same rfl
  next sl hsl =>
    split
    · exact slotWithin_of_none rfl
    · exact slotWithin_of_none rfl
    · exact slotWithin_of_none (by simp)
    · exact slotWithin_of_none rfl
    · exact fun _ => .inl (by simp [hsl])

theorem slotWithin_reachSlotEnd (q : Nat) : SlotWithin s (reachSlotEnd q s) := by
  unfold reachSlotEnd
  split
  · split
    · exact slotWithin_slotWindowEnd s
    · exact slotWithin_of_same rfl
  · exact slotWithin_of_same rfl

/-- An entry is reached as a slot only in RUNNING (R57). -/
theorem slotWithin_reachEntry (swapping : Bool) (q : Nat) : SlotWithin s (reachEntry swapping q s) := by
  unfold reachEntry
  split
  · exact slotWithin_of_same rfl
  · split
    · simp only
      split
      next hdue => exact fun _ => .inr hdue.1
      · exact slotWithin_of_same rfl
    · exact slotWithin_of_same rfl

theorem slotWithin_reachOffset (swapping : Bool) (q : Nat) : SlotWithin s (reachOffset swapping q s) :=
  (slotWithin_reachSlotEnd s q).trans (by simp)
    ((slotWithin_reachEntry _ swapping q).keep (u := firePoints q (reachEntry swapping q (reachSlotEnd q s))) (by simp))

theorem slotWithin_launchCycleStart : SlotWithin s (launchCycleStart s) := by
  obtain ⟨-, heq⟩ | ⟨-, -, heq⟩ | ⟨-, -, -, heq⟩ | ⟨-, -, -, heq⟩ := launchCycleStart_cases s <;> rw [heq]
  · exact slotWithin_of_same rfl
  · exact slotWithin_of_same rfl
  · exact slotWithin_of_same rfl
  · exact slotWithin_beginFrame s _ _

theorem slotWithin_receiveSlotTakes (sl : Slot) (sub : ReceiveSub) (extended : Bool) (f : Frame)
    (h : s.link.state = .running) : SlotWithin s (receiveSlotTakes sl sub extended f s) := fun _ => .inr h

theorem slotWithin_routeFrame (f : Frame) : SlotWithin s (routeFrame f s) := by
  unfold routeFrame
  split
  next hrunning => exact fun _ => .inr hrunning
  · exact slotWithin_of_same rfl

/-! ### The next index -/

/-- A schedule has at most the 32 entries of its bank (R40). -/
theorem schedule_length_le (b : Bank) : b.schedule.length ≤ 32 := by
  simp [Bank.schedule]

theorem firstEntryFrom_le (q : Nat) : firstEntryFrom q s ≤ 32 :=
  (List.findIdx_le_length).trans (schedule_length_le _)

variable {s}

theorem nextIndex_reachEntry (swapping : Bool) (q : Nat) (h : s.seq.nextIndex ≤ 32) :
    (reachEntry swapping q s).seq.nextIndex ≤ 32 := by
  unfold reachEntry
  split
  · exact h
  next e he =>
    split
    · have hlt : s.seq.nextIndex < (activeBank s).schedule.length := (List.getElem?_eq_some_iff.mp he).1
      exact hlt.trans_le (schedule_length_le _)
    · exact h

theorem nextIndex_reachOffset (swapping : Bool) (q : Nat) (h : s.seq.nextIndex ≤ 32) :
    (reachOffset swapping q s).seq.nextIndex ≤ 32 := by
  have hreach := nextIndex_reachEntry (s := reachSlotEnd q s) swapping q (by simpa using h)
  simpa [reachOffset] using hreach

end

/-! ### Timer, slot and bank lengths together -/

/-- The Cycle Timer and the open slot stand as R23, R25, R56 and R59 say; the active bank's length is one of R46 outside OFF,
and so is that of an ARMED shadow, which there is in no other state (R52). -/
structure ClockOk (s : State) : Prop where
  timer : TimerOk s
  slot : SlotOk s
  active : s.link.state ≠ .off → cycleLengthOk (activeBank s).length = true
  armed : s.sched.shadow = .armed → s.link.state ≠ .off ∧ cycleLengthOk (shadowBank s).length = true

section
variable {s t : State}

theorem activeBank_congr (h : t.sched = s.sched) : activeBank t = activeBank s := by
  simp [activeBank, bankOf, h]

theorem shadowBank_congr (h : t.sched = s.sched) : shadowBank t = shadowBank s := by
  simp [shadowBank, bankOf, h]

theorem timerOk_of_same (h : TimerOk s) (hstate : t.link.state = s.link.state) (hsched : t.sched = s.sched)
    (htimer : t.timer.length = s.timer.length) (hpos : t.timer.position = s.timer.position)
    (hseen : s.timer.length = none → t.timer.csSeen = s.timer.csSeen) : TimerOk t := by
  obtain ⟨hruns, hstopped, hzero, hbelow, hactive⟩ := h
  refine ⟨?_, ?_, fun hnone => ?_, ?_, ?_⟩
  · rw [hstate, htimer]; exact hruns
  · rw [hstate, htimer]; exact hstopped
  · rw [htimer] at hnone
    rw [hpos, hseen hnone]; exact hzero hnone
  · rw [htimer, hpos]; exact hbelow
  · rw [hstate, htimer, activeBank_congr hsched]; exact hactive

/-- What timer, link state and banks leave, and where a slot is open no more than R58 allows, stands as before. -/
theorem clockOk_of_same (h : ClockOk s) (hstate : t.link.state = s.link.state) (hsched : t.sched = s.sched)
    (htimer : t.timer = s.timer) (hnext : t.seq.nextIndex ≤ 32) (hslot : SlotWithin s t) : ClockOk t where
  timer := timerOk_of_same h.timer hstate hsched (by rw [htimer]) (by rw [htimer]) (fun _ => by rw [htimer])
  slot := ⟨fun hs => by rw [hstate]; exact (hslot hs).elim h.slot.1 .inl, hnext⟩
  active := by rw [hstate, activeBank_congr hsched]; exact h.active
  armed := by rw [hstate, hsched, shadowBank_congr hsched]; exact h.armed

theorem clockOk_of_unscheduled (h : ClockOk s) (hstate : t.link.state = s.link.state) (hsched : t.sched = s.sched)
    (htimer : t.timer = s.timer) (hseq : t.seq = s.seq) : ClockOk t :=
  clockOk_of_same h hstate hsched htimer (by rw [hseq]; exact h.slot.2) (slotWithin_of_same (by rw [hseq]))

theorem clockOk_reachOffset (swapping : Bool) (q : Nat) (h : ClockOk s) : ClockOk (reachOffset swapping q s) :=
  clockOk_of_same h (by simp) (by simp) (by simp) (nextIndex_reachOffset swapping q h.slot.2) (slotWithin_reachOffset s swapping q)

theorem cycleLengthOk_bounds {w : Word} (h : cycleLengthOk w = true) : 64 ≤ w.toNat ∧ w.toNat ≤ 16383 :=
  (cycleLengthOk_iff w).mp h

/-! ### Stopping the timer -/

/-- A happening that stops the timer and closes the slot, and leaves the link in a state in which the timer does not run. -/
theorem clockOk_stopped (h : ClockOk s) (huntimed : t.link.state.timed = false)
    (htimer : t.timer.length = none ∧ t.timer.position = 0 ∧ t.timer.csSeen = false)
    (hseq : t.seq.slot = none ∧ t.seq.nextIndex ≤ 32) (hbanks : activeBank t = activeBank s ∧ shadowBank t = shadowBank s)
    (hon : t.link.state ≠ .off → s.link.state ≠ .off)
    (harmed : t.sched.shadow = .armed → t.link.state ≠ .off ∧ s.sched.shadow = .armed) : ClockOk t := by
  obtain ⟨hlength, hpos, hseen⟩ := htimer
  refine ⟨⟨?_, fun _ => hlength, fun _ => ⟨hpos, hseen⟩, by simp [hlength], ?_⟩, ⟨by simp [hseq.1], hseq.2⟩, fun ht => ?_,
    fun ht => ?_⟩
  · rintro (h | h) <;> simp [h, LinkState.timed] at huntimed
  · intro h; simp [h, LinkState.timed] at huntimed
  · rw [hbanks.1]; exact h.active (hon ht)
  · rw [hbanks.2]; exact ⟨(harmed ht).1, (h.armed (harmed ht).2).2⟩

theorem clockOk_syncLoss (h : ClockOk s) (hon : s.link.state ≠ .off) : ClockOk (syncLoss s) := by
  have hstate : (syncLoss s).link.state = .listen := by simp [syncLoss, setLinkState_link]
  refine clockOk_stopped h (by rw [hstate]; rfl) (by simp [syncLoss, stopTimer]) (by simp [syncLoss, stopTimer])
    ⟨activeBank_congr (by simp), shadowBank_congr (by simp)⟩ (fun _ => hon) fun harmed => ⟨by rw [hstate]; nofun, by simpa using harmed⟩

theorem enterOff_banks (s : State) : activeBank (enterOff s) = activeBank s ∧ shadowBank (enterOff s) = shadowBank s := by
  simp [activeBank, shadowBank, bankOf]

theorem clockOk_enterOff (h : ClockOk s) : ClockOk (enterOff s) := by
  refine clockOk_stopped h (by simp; rfl) ?_ ?_ (enterOff_banks s) (fun ht => by simp at ht) fun harmed => ?_
  · simp [enterOff, stopTimer]
  · simp [enterOff, stopTimer]
  · rw [enterOff_shadow] at harmed
    split at harmed
    · cases harmed
    next hne => exact absurd harmed hne

/-! ### Counting -/

theorem clockOk_missedStart (h : ClockOk s) (hon : s.link.state ≠ .off) : ClockOk (missedStart s) := by
  have hcount : ClockOk (countMissed s) := clockOk_of_unscheduled h rfl rfl rfl rfl
  obtain ⟨-, -, heq⟩ | ⟨-, heq⟩ := missedStart_cases s <;> rw [heq]
  · exact clockOk_syncLoss hcount hon
  · exact hcount

theorem clockOk_csWindowEnd (h : ClockOk s) (hon : s.link.state ≠ .off) : ClockOk (csWindowEnd s) := by
  obtain ⟨-, heq⟩ | ⟨-, -, heq⟩ := csWindowEnd_cases s <;> rw [heq]
  · exact h
  · exact clockOk_missedStart h hon

theorem clockOk_on (h : ClockOk s) (hruns : s.timer.length ≠ none) : s.link.state ≠ .off := not_off_of_timer h.timer hruns

/-- The running timer stands at another position of its cycle. -/
theorem clockOk_position {q length : Nat} (h : ClockOk s) (hlength : s.timer.length = some length) (hq : q < length) :
    ClockOk { s with timer := { s.timer with position := q } } := by
  obtain ⟨⟨hruns, hstopped, -, hbelow, hactive⟩, hslot, hact, harmed⟩ := h
  refine ⟨⟨hruns, hstopped, fun hnone => ?_, fun l hl => ?_, hactive⟩, hslot, hact, harmed⟩
  · exact absurd (hlength.symm.trans hnone) nofun
  · have hl' : s.timer.length = some l := hl
    rw [hlength] at hl'
    cases hl'
    exact ⟨hq, (hbelow length hlength).2⟩

theorem clockOk_countTo {q length : Nat} (h : ClockOk s) (hlength : s.timer.length = some length) (hq : q < length) :
    ClockOk (countTo q s) := by
  have hpos := clockOk_position h hlength hq
  have hon : s.link.state ≠ .off := clockOk_on h (by simp [hlength])
  unfold countTo
  simp only
  split
  · split
    · exact clockOk_csWindowEnd hpos hon
    · exact clockOk_reachOffset _ _ (clockOk_csWindowEnd hpos hon)
  · split
    · exact hpos
    · exact clockOk_reachOffset _ _ hpos

/-- A boundary begins the next cycle of a running timer, or of one about to run. -/
theorem clockOk_boundaryBegun (h : ClockOk s) (hruns : s.timer.length ≠ none) : ClockOk (boundaryBegun s) := by
  obtain ⟨length, hlength⟩ := Option.ne_none_iff_exists'.mp hruns
  obtain ⟨-, -, -, hbelow, -⟩ := h.timer
  have hpos := clockOk_position h hlength (by have := hbelow length hlength; omega : 0 < length)
  obtain ⟨⟨h1, h2, -, h4, h5⟩, ⟨hslot, -⟩, hact, harmed⟩ := hpos
  exact ⟨⟨h1, h2, fun hnone => absurd (hlength.symm.trans hnone) nofun, h4, h5⟩, ⟨hslot, Nat.zero_le 32⟩, hact, harmed⟩

theorem clockOk_boundaryEffects (h : ClockOk s) (hruns : s.timer.length ≠ none) : ClockOk (boundaryEffects s) :=
  clockOk_reachOffset false 0 (clockOk_boundaryBegun h hruns)

theorem exchangeBanks_sched (s : State) :
    (exchangeBanks s).sched = { s.sched with active := s.sched.active.other, shadow := .idle } := by
  unfold exchangeBanks
  simp only
  split <;> rfl

theorem activeBank_swapped (h : t.sched = { s.sched with active := s.sched.active.other, shadow := .idle }) :
    activeBank t = shadowBank s := by
  simp [activeBank, shadowBank, bankOf, h]

theorem exchangeBanks_length (h : s.link.state = .running) :
    (exchangeBanks s).timer = { s.timer with length := some (shadowBank s).length.toNat } := by
  unfold exchangeBanks
  simp only [h, if_true]
  rfl

/-- The swap of an ARMED shadow at the start of a cycle in RUNNING (R53, R54). -/
theorem clockOk_exchangeBanks (h : ClockOk s) (hrunning : s.link.state = .running) (harmed : s.sched.shadow = .armed)
    (hpos : s.timer.position < 64) : ClockOk (exchangeBanks s) := by
  obtain ⟨-, hlength⟩ := h.armed harmed
  have hbounds := cycleLengthOk_bounds hlength
  have hsched := exchangeBanks_sched s
  have htimer := exchangeBanks_length hrunning
  have hstate : (exchangeBanks s).link.state = .running := by simpa using hrunning
  refine ⟨⟨fun _ => by simp [htimer], fun hu => ?_, fun hnone => by simp [htimer] at hnone, fun l hl => ?_, fun _ => ?_⟩,
    by simpa [SlotOk] using h.slot, fun _ => by rw [activeBank_swapped hsched]; exact hlength, fun ha => by simp [hsched] at ha⟩
  · rw [hstate] at hu; cases hu
  · simp only [htimer, Option.mem_def, Option.some.injEq] at hl ⊢
    subst hl
    exact ⟨hpos.trans_le hbounds.1, hbounds⟩
  · simp [htimer, activeBank_swapped hsched]

theorem clockOk_launchCycleStart (h : ClockOk s) : ClockOk (launchCycleStart s) :=
  clockOk_of_same h (by simp) (by simp) (by simp) (by simpa using h.slot.2) (slotWithin_launchCycleStart s)

theorem clockOk_countedBoundary (h : ClockOk s) (hruns : s.timer.length ≠ none) : ClockOk (countedBoundary s) := by
  have hboundary := clockOk_boundaryEffects h hruns
  have hpos : (boundaryEffects s).timer.position < 64 := by simp [boundaryEffects]
  unfold countedBoundary
  simp only
  split
  next hmaster =>
    refine clockOk_launchCycleStart ?_
    unfold masterSwap
    split
    next harmed => exact clockOk_exchangeBanks hboundary hmaster.2 harmed hpos
    · exact hboundary
  · exact hboundary

theorem clockOk_settleWait (h : ClockOk s) : ClockOk (settleWait s) := clockOk_of_unscheduled h rfl rfl rfl rfl

theorem clockOk_advanceTimer (h : ClockOk s) : ClockOk (advanceTimer s) := by
  obtain ⟨-, heq⟩ | ⟨length, hlength, hq, heq⟩ | ⟨length, hlength, -, heq⟩ := advanceTimer_cases s <;> rw [heq]
  · exact h
  · exact clockOk_settleWait (clockOk_countTo h hlength hq)
  · exact clockOk_settleWait (clockOk_countedBoundary h (by simp [hlength]))

/-! ### The end of a transmission -/

theorem clockOk_finishStopping (h : ClockOk s) : ClockOk (finishStopping s) := by
  unfold finishStopping
  split
  · exact clockOk_of_unscheduled (clockOk_enterOff h) rfl rfl rfl rfl
  · exact h

theorem clockOk_endTransmission {outcome : State → State} (h : ClockOk s)
    (hkeeps : ∀ u, (outcome u).link = u.link ∧ (outcome u).sched = u.sched ∧ (outcome u).timer = u.timer ∧
      (outcome u).seq = u.seq) : ClockOk (endTransmission outcome s) := by
  obtain ⟨hlink, hsched, htimer, hseq⟩ := hkeeps (transmitterIdle s)
  exact clockOk_settleWait (clockOk_finishStopping (clockOk_of_unscheduled h (by rw [hlink]; rfl) hsched htimer hseq))

theorem clockOk_completeTransmission (x : Transmission) (h : ClockOk s) : ClockOk (completeTransmission x s) :=
  clockOk_endTransmission h fun u => by simp

theorem clockOk_collideTransmission (x : Transmission) (h : ClockOk s) : ClockOk (collideTransmission x s) :=
  clockOk_endTransmission h fun u => by simp

theorem clockOk_endOfCt (h : ClockOk s) : ClockOk (endOfCt s) := by
  have hpasses : ClockOk (ctPasses s) := clockOk_of_unscheduled h (by simp) (by simp) (by simp) (by simp)
  obtain ⟨-, heq⟩ | ⟨-, heq⟩ := endOfCt_cases s <;> rw [heq]
  · exact h
  · refine clockOk_advanceTimer ?_
    obtain ⟨-, heq⟩ | ⟨x, -, -, -, heq⟩ | ⟨x, -, -, heq⟩ := endDueTransmission_cases (ctPasses s) <;> rw [heq]
    · exact hpasses
    · exact clockOk_completeTransmission x hpasses
    · exact clockOk_collideTransmission x hpasses

/-! ### A follower's acceptance of a cycle-start frame -/

/-- What the bank comparison finds: a follower in LISTEN, ALIGN or RUNNING, at a position that every cycle length exceeds. -/
structure Compares (s : State) : Prop where
  cyclic : s.link.state.cyclic
  position : s.timer.position < 64
  next : s.seq.nextIndex ≤ 32
  slot : s.seq.slot.isSome = true → s.link.state = .running
  active : cycleLengthOk (activeBank s).length = true
  armed : s.sched.shadow = .armed → cycleLengthOk (shadowBank s).length = true

theorem runActiveBank_eq (s : State) :
    (runActiveBank s).timer = { s.timer with length := some (activeBank s).length.toNat } ∧
      (runActiveBank s).link.state = .running := by
  have hactive : activeBank (setLinkState .running s) = activeBank s := activeBank_congr (by simp)
  simp [runActiveBank, setLinkState_link, hactive]

theorem clockOk_runActiveBank (hpos : s.timer.position < 64) (hnext : s.seq.nextIndex ≤ 32)
    (hactive : cycleLengthOk (activeBank s).length = true)
    (harmed : s.sched.shadow = .armed → cycleLengthOk (shadowBank s).length = true) : ClockOk (runActiveBank s) := by
  obtain ⟨htimer, hstate⟩ := runActiveBank_eq s
  have hbounds := cycleLengthOk_bounds hactive
  have hsched : (runActiveBank s).sched = s.sched := by simp
  refine ⟨⟨fun _ => by simp [htimer], fun hu => ?_, fun hnone => by simp [htimer] at hnone, fun l hl => ?_, fun _ => ?_⟩,
    ⟨fun _ => .inl hstate, by simpa using hnext⟩, fun _ => by rw [activeBank_congr hsched]; exact hactive, fun ha => ?_⟩
  · rw [hstate] at hu; cases hu
  · simp only [htimer, Option.mem_def, Option.some.injEq] at hl ⊢
    subst hl
    exact ⟨hpos.trans_le hbounds.1, hbounds⟩
  · rw [htimer, activeBank_congr hsched]
  · rw [hstate, shadowBank_congr hsched]
    exact ⟨nofun, harmed (by rw [← hsched]; exact ha)⟩

theorem followerSwap_sched (n : Nat) (s : State) : (followerSwap n s).sched = (exchangeBanks s).sched := by
  unfold followerSwap
  simp only
  split
  · rfl
  · split
    · rfl
    · simp

theorem followerSwap_nextIndex (n : Nat) (s : State) : (followerSwap n s).seq.nextIndex ≤ 32 := by
  unfold followerSwap
  simp only
  split
  · exact firstEntryFrom_le _ _
  · split
    · exact firstEntryFrom_le _ _
    · exact firstEntryFrom_le _ _

theorem clockOk_goToAlign (f : Frame) (h : Compares s) (hlength : cycleLengthOk f.csLength = true) :
    ClockOk (goToAlign f s) := by
  have hbounds := cycleLengthOk_bounds hlength
  have hsched : (goToAlign f s).sched = s.sched := by simp
  have hstate : (goToAlign f s).link.state = .align := by
    unfold goToAlign
    split
    next ha => exact ha
    · simp [setLinkState_link]
  have hslot : (goToAlign f s).seq.slot = none := by
    unfold goToAlign
    split
    next ha =>
      cases hs : s.seq.slot with
      | none => rfl
      | some sl => exact absurd ((h.slot (by simp [hs])).symm.trans ha) nofun
    · simp
  have hpos : (goToAlign f s).timer = { s.timer with length := some f.csLength.toNat } := by
    unfold goToAlign
    split <;> simp
  refine ⟨⟨fun _ => by simp [hpos], fun hu => ?_, fun hnone => by simp [hpos] at hnone, fun l hl => ?_, fun hr => ?_⟩,
    ⟨by simp [hslot], by simpa using h.next⟩, fun _ => by rw [activeBank_congr hsched]; exact h.active, fun ha => ?_⟩
  · simp [hstate, LinkState.timed] at hu
  · simp only [hpos, Option.mem_def, Option.some.injEq] at hl ⊢
    subst hl
    exact ⟨h.position.trans_le hbounds.1, hbounds⟩
  · simp [hstate] at hr
  · rw [hstate, shadowBank_congr hsched]
    exact ⟨nofun, h.armed (by rw [← hsched]; exact ha)⟩

theorem clockOk_compareBanks (f : Frame) (n : Nat) (h : Compares s) (hlength : cycleLengthOk f.csLength = true) :
    ClockOk (compareBanks f n s) := by
  unfold compareBanks
  split
  · exact clockOk_runActiveBank h.position h.next h.active h.armed
  · split
    next hswaps =>
      have harmed : s.sched.shadow = .armed := by simp [frameSwaps] at hswaps; exact hswaps.1.2
      have hsched := (followerSwap_sched n s).trans (exchangeBanks_sched s)
      refine clockOk_runActiveBank (by simpa using h.position) (followerSwap_nextIndex n s) ?_ fun ha => ?_
      · rw [activeBank_swapped hsched]; exact h.armed harmed
      · simp [hsched] at ha
    · exact clockOk_goToAlign f h hlength

/-! The way of the frame to the comparison: the early boundary, the jump and the records. -/

theorem slot_reachAll (swapping : Bool) (offsets : List Nat) (hnext : s.seq.nextIndex ≤ 32) :
    (reachAll swapping offsets s).seq.nextIndex ≤ 32 ∧ SlotWithin s (reachAll swapping offsets s) := by
  have hreach := holds_foldl (P := fun u => (u.seq.nextIndex ≤ 32 ∧ SlotWithin s u) ∧ u.link = s.link)
    (f := fun u q => reachOffset swapping q u)
    (fun q hu => ⟨⟨nextIndex_reachOffset swapping q hu.1.1,
      hu.1.2.trans (by rw [hu.2]) (slotWithin_reachOffset _ swapping q)⟩, by simpa using hu.2⟩)
    offsets (s := s) ⟨⟨hnext, slotWithin_of_same rfl⟩, rfl⟩
  exact hreach.1

theorem slot_earlyBoundary (p : Nat) (s : State) :
    (earlyBoundary p s).seq.nextIndex ≤ 32 ∧ SlotWithin s (earlyBoundary p s) := by
  have hpass : SlotWithin s (slotWindowEnd (passOverRest p s)) :=
    (slotWithin_of_same (t := passOverRest p s) (by simp)).trans (by simp) (slotWithin_slotWindowEnd _)
  exact ⟨nextIndex_reachOffset (s := boundaryBegun (slotWindowEnd (passOverRest p s))) false 0 (Nat.zero_le 32),
    hpass.trans (by simp) (slotWithin_reachOffset (boundaryBegun (slotWindowEnd (passOverRest p s))) false 0)⟩

theorem slot_resync (f : Frame) (n length : Nat) (hnext : s.seq.nextIndex ≤ 32) :
    (resync f n length s).seq.nextIndex ≤ 32 ∧ SlotWithin s (resync f n length s) ∧
      (resync f n length s).timer.position = n := by
  refine ⟨?_, ?_, by simp [resync, setPosition]⟩
  all_goals
    unfold resync
    dsimp only
  · refine (slot_reachAll _ _ ?_).1
    split
    · exact (slot_earlyBoundary _ s).1
    · exact hnext
  · split
    · exact (slot_earlyBoundary _ s).2.trans (by simp) (slot_reachAll (s := setPosition n (earlyBoundary s.timer.position s)) _ _
        (slot_earlyBoundary _ s).1).2
    · exact (slot_reachAll (s := setPosition n s) _ _ hnext).2

theorem slot_startFromListen (f : Frame) (n : Nat) (s : State) :
    (startFromListen f n s).seq.nextIndex ≤ 32 ∧ SlotWithin s (startFromListen f n s) ∧
      (startFromListen f n s).timer.position = n := by
  unfold startFromListen
  dsimp only
  refine ⟨?_, ?_, by simp [setPosition]⟩
  · exact (slot_reachAll _ _ (Nat.zero_le 32)).1
  · exact (slot_reachAll _ _ (Nat.zero_le 32)).2

theorem ClockOk.compares (h : ClockOk s) (hcyclic : s.link.state.cyclic) (hlink : t.link = s.link)
    (hsched : t.sched = s.sched) (hpos : t.timer.position < 64) (hnext : t.seq.nextIndex ≤ 32) (hslot : SlotWithin s t) :
    Compares t := by
  have hon : s.link.state ≠ .off := by obtain h | h | h := hcyclic <;> simp [h]
  refine ⟨by rw [hlink]; exact hcyclic, hpos, hnext, fun ht => ?_, by rw [activeBank_congr hsched]; exact h.active hon,
    fun ha => ?_⟩
  · rw [hlink]
    obtain hs | hr := hslot ht
    · obtain hr | hstop := h.slot.1 hs
      · exact hr
      · obtain hc | hc | hc := hcyclic <;> rw [hc] at hstop <;> cases hstop
    · exact hr
  · rw [hsched] at ha
    rw [shadowBank_congr hsched]; exact (h.armed ha).2

theorem clockOk_acceptCs (f : Frame) {n : Nat} (hn : n < 64) (h : ClockOk s) (hlength : cycleLengthOk f.csLength = true) :
    ClockOk (acceptCs f n s) := by
  have hresync : ∀ length d, s.link.state.cyclic →
      ClockOk (compareBanks f n (recordAccepted f (checkDeviation d (checkCycleNumber f (resync f n length s))))) := by
    intro length d hcyclic
    obtain ⟨hnext, hslot, hpos⟩ := slot_resync f n length h.slot.2
    refine clockOk_compareBanks f n (h.compares hcyclic (by simp) (by simp) ?_ (by simpa using hnext) (hslot.keep (by simp))) hlength
    simpa [hpos] using hn
  unfold acceptCs
  split
  next hlisten =>
    obtain ⟨hnext, hslot, hpos⟩ := slot_startFromListen f n s
    refine clockOk_compareBanks f n (h.compares (.inl hlisten) (by simp) (by simp) ?_ (by simpa using hnext) (hslot.keep (by simp))) hlength
    simpa [hpos] using hn
  next halign _ => exact hresync _ _ (.inr (.inl halign))
  next hrunning _ => exact hresync _ _ (.inr (.inr hrunning))
  · exact h

theorem clockOk_handCycleStart (f : Frame) {n : Nat} (hn : n < 64) (h : ClockOk s) (hlength : cycleLengthOk f.csLength = true) :
    ClockOk (handCycleStart f n s) := by
  have hended : ClockOk (slotFrameEnded s) :=
    clockOk_of_same h (by simp) (by simp) (by simp) (by simpa using h.slot.2) (slotWithin_slotFrameEnded s)
  unfold handCycleStart
  simp only
  split
  · exact clockOk_of_unscheduled hended (by simp) (by simp) (by simp) (by simp)
  · exact clockOk_acceptCs f hn hended hlength

end

end Sys2Proof.Machine
end

section
/-! # The banks, the time base and the open slot in every command (R43, R44, R50 to R55, R90 to R94)

The rest of `ClockOk`: the characters that bring a frame, startup, the commands and the writes of window space; then which bank
each of them leaves active and ARMED. -/

open Sys2Proof

namespace Sys2Proof.Machine

section
variable {s t : State}

/-! ### Characters -/

/-- A cycle-start frame that the checks pass has 13 inner bytes and a length of R19. -/
theorem checkFrame_cycleStart {bytes : List Byte} {f : Frame} (h : checkFrame bytes = .valid f) (hkind : f.kind = .cycleStart) :
    bytes.length = 13 ∧ cycleLengthOk f.csLength = true := by
  obtain ⟨rfl, -, hform⟩ := (checkFrame_eq_valid bytes f).mp h
  obtain ⟨hfive, -, -, hlength⟩ := (csFormatOk_iff f).mp (hform hkind)
  exact ⟨by simp [Frame.inner, Frame.body, hfive], (cycleLengthOk_iff _).mpr hlength⟩

theorem clockOk_slotFrameEnded (h : ClockOk s) : ClockOk (slotFrameEnded s) :=
  clockOk_of_same h (by simp) (by simp) (by simp) (by simpa using h.slot.2) (slotWithin_slotFrameEnded s)

theorem clockOk_abandonAssembly (c : Counter) (h : ClockOk s) : ClockOk (abandonAssembly c s) :=
  clockOk_of_same h (by simp) (by simp) (by simp) (by simpa using h.slot.2) (slotWithin_abandonAssembly s c)

theorem clockOk_openAssembly (h : ClockOk s) : ClockOk (openAssembly s) :=
  clockOk_of_same h (by simp) (by simp) (by simp) (by simpa using h.slot.2)
    (slotWithin_slotFrameOpened { s with rx := { assembly := .inFrame, buffer := [], count := 1, gap := some 0 } })

theorem clockOk_appendByte (b : Byte) (h : ClockOk s) : ClockOk (appendByte b s) := by
  unfold appendByte
  split
  · exact clockOk_abandonAssembly .lenErr h
  · exact clockOk_of_unscheduled h rfl rfl rfl rfl

/-- A closing mark on an assembly whose character count its bytes can have (R11, R19). -/
theorem clockOk_endAssembly (h : ClockOk s) (hcount : s.rx.count ≤ 2 + 2 * s.rx.buffer.length) : ClockOk (endAssembly s) := by
  have hhunt : ClockOk { s with rx := Receiver.hunting } := clockOk_of_unscheduled h rfl rfl rfl rfl
  unfold endAssembly
  simp only
  split
  · exact clockOk_slotFrameEnded (clockOk_of_unscheduled hhunt rfl rfl rfl rfl)
  next f hvalid =>
    split
    next hkind =>
      obtain ⟨hlength, hcycle⟩ := checkFrame_cycleStart hvalid hkind
      exact clockOk_handCycleStart f (by omega) hhunt hcycle
    · exact clockOk_of_same hhunt (by simp) (by simp) (by simp) (by simpa using h.slot.2) (slotWithin_routeFrame _ f)

theorem clockOk_takeCharacter (v : Byte) (ha : AssemblyOk s) (h : ClockOk s) : ClockOk (takeCharacter v s) := by
  obtain ⟨-, hinFrame, -, -, -, -⟩ := ha
  have hcounted : ClockOk (countCharacter s) := clockOk_of_unscheduled h rfl rfl rfl rfl
  unfold takeCharacter
  split
  · split
    · exact clockOk_openAssembly h
    · exact h
  next hasm =>
    unfold inFrameCharacter
    simp only
    split
    · exact clockOk_openAssembly (clockOk_abandonAssembly _ hcounted)
    · split
      · refine clockOk_endAssembly hcounted ?_
        have hcount := (hinFrame hasm).2
        change s.rx.count + 1 ≤ 2 + 2 * s.rx.buffer.length
        omega
      · split
        · exact clockOk_of_unscheduled hcounted rfl rfl rfl rfl
        · exact clockOk_appendByte v hcounted
  · unfold escapedCharacter
    simp only
    split
    · exact clockOk_appendByte _ hcounted
    · split
      · exact clockOk_openAssembly (clockOk_abandonAssembly _ hcounted)
      · exact clockOk_abandonAssembly _ hcounted

theorem clockOk_completeCharacter (v : Byte) (ha : AssemblyOk s) (h : ClockOk s) : ClockOk (completeCharacter v s) := by
  have hidle : ClockOk (lineBecomesIdle s) := clockOk_of_unscheduled h rfl rfl rfl rfl
  have ha' : AssemblyOk (lineBecomesIdle s) :=
    let ⟨h1, h2, h3, h4, h5, h6⟩ := ha
    ⟨h1, h2, h3, h4, h5, fun hoff => ⟨(h6 hoff).1, rfl⟩⟩
  unfold completeCharacter
  simp only
  split
  · exact clockOk_of_unscheduled hidle rfl rfl rfl rfl
  · exact clockOk_settleWait (clockOk_takeCharacter v ha' hidle)

theorem clockOk_characterFails (h : ClockOk s) : ClockOk (characterFails s) := by
  unfold characterFails
  simp only
  split
  · exact clockOk_of_unscheduled h rfl rfl rfl rfl
  · exact clockOk_abandonAssembly .charErr (clockOk_of_unscheduled h rfl rfl rfl rfl)

/-! ### Startup and the head -/

theorem clockOk_completeStartup (h : ClockOk s) (hstarting : s.link.state = .starting) : ClockOk (completeStartup s) := by
  have hactive := h.active (by rw [hstarting]; nofun)
  have hbounds := cycleLengthOk_bounds hactive
  have hbegun : ClockOk (startupBegun s) := by
    refine ⟨⟨fun _ => rfl, fun hu => by simp [startupBegun, LinkState.timed] at hu, fun hnone => by simp [startupBegun] at hnone,
      fun l hl => ?_, fun _ => ?_⟩, ⟨fun _ => .inl rfl, Nat.zero_le 32⟩, fun _ => ?_, fun ha => ?_⟩
    · simp only [startupBegun, Option.mem_def, Option.some.injEq] at hl ⊢
      subst hl
      exact ⟨by omega, hbounds⟩
    · rw [activeBank_congr (s := s) (by simp [startupBegun])]; rfl
    · rw [activeBank_congr (s := s) (by simp [startupBegun])]; exact hactive
    · rw [shadowBank_congr (s := s) (by simp [startupBegun])]
      exact ⟨nofun, (h.armed (by simpa [startupBegun] using ha)).2⟩
  rw [completeStartup_eq]
  exact clockOk_launchCycleStart (clockOk_reachOffset false 0 hbegun)

theorem slotWithin_sendHead (m : Fin 24) (b : TxMailbox) (s : State) : SlotWithin s (sendHead m b s) :=
  SlotWithin.trans (t := updateTx m (fun t => { t with state := .locked }) s) (slotWithin_of_same (by simp)) (by simp)
    (slotWithin_beginFrame _ _ _)

theorem clockOk_elapse (h : ClockOk s) : ClockOk (elapse s) := by
  refine clockOk_of_same h (by simp) (by simp) (by simp) (by simpa using h.slot.2) ?_
  unfold elapse
  split
  · exact slotWithin_of_same rfl
  · split
    next m b finish _ _ => exact (slotWithin_sendHead m b s).keep rfl
    · exact slotWithin_of_same rfl

/-! ### Commands -/

/-- Link state, timer, slot and active bank stay, and a shadow that is ARMED was so with the same contents. -/
theorem clockOk_of_banks (h : ClockOk s) (hstate : t.link.state = s.link.state) (htimer : t.timer = s.timer)
    (hseq : t.seq = s.seq) (hactive : activeBank t = activeBank s)
    (hshadow : t.sched.shadow = .armed → s.sched.shadow = .armed ∧ shadowBank t = shadowBank s) : ClockOk t := by
  obtain ⟨⟨h1, h2, h3, h4, h5⟩, hslot, hact, harmed⟩ := h
  refine ⟨⟨?_, ?_, ?_, ?_, ?_⟩, ?_, ?_, fun ha => ?_⟩
  · rw [hstate, htimer]; exact h1
  · rw [hstate, htimer]; exact h2
  · rw [htimer]; exact h3
  · rw [htimer]; exact h4
  · rw [hstate, htimer, hactive]; exact h5
  · rw [SlotOk, hstate, hseq]; exact hslot
  · rw [hstate, hactive]; exact hact
  · rw [hstate, (hshadow ha).2]; exact harmed (hshadow ha).1

theorem clockOk_complete (r : ResultCode) (h : ClockOk s) : ClockOk (complete r s) := clockOk_of_unscheduled h rfl rfl rfl rfl

theorem clockOk_stopAction (h : ClockOk s) : ClockOk (stopAction s) := by
  unfold stopAction
  split
  · exact clockOk_complete .badState h
  next hon =>
    split
    · exact clockOk_complete .ok (clockOk_enterOff h)
    · obtain ⟨⟨-, -, h3, h4, -⟩, ⟨-, hnext⟩, hact, harmed⟩ := h
      have hstate : (settleWait (stayInFlight .stop (setLinkState .stopping s))).link.state = .stopping := by
        simp [setLinkState_link]
      have hsched : (settleWait (stayInFlight .stop (setLinkState .stopping s))).sched = s.sched := by simp
      refine ⟨⟨fun hs => ?_, fun hs => ?_, by simpa using h3, by simpa using h4, fun hs => ?_⟩,
        ⟨fun _ => .inr hstate, by simpa using hnext⟩, fun _ => ?_, fun ha => ?_⟩
      · rw [hstate] at hs
        obtain hs | hs := hs <;> cases hs
      · rw [hstate] at hs; cases hs
      · rw [hstate] at hs; cases hs
      · rw [activeBank_congr hsched]; exact hact hon
      · rw [hstate, shadowBank_congr hsched]
        exact ⟨nofun, (harmed (by rw [← hsched]; exact ha)).2⟩

theorem abandonCommand_shadow (s : State) (ha : (abandonCommand s).sched.shadow = .armed) : (abandonCommand s).sched = s.sched := by
  unfold abandonCommand at ha ⊢
  split
  · rfl
  next harm => rw [harm] at ha; cases ha
  · rfl

theorem clockOk_abandonCommand (h : ClockOk s) : ClockOk (abandonCommand s) := by
  by_cases ha : (abandonCommand s).sched.shadow = .armed
  · exact clockOk_of_unscheduled h (by simp) (abandonCommand_shadow s ha) (by simp) (by simp)
  · exact clockOk_of_banks h (by simp) (by simp) (by simp) (by simp [activeBank, bankOf]) (fun ha' => absurd ha' ha)

theorem clockOk_haltSteps (h : ClockOk s) : ClockOk (haltSteps s) := by
  have hcut : ClockOk (cutTransmission (abandonCommand s)) :=
    clockOk_of_unscheduled (clockOk_abandonCommand h) (by simp) (by simp) (by simp) (by simp)
  unfold haltSteps
  simp only
  split
  · exact hcut
  · exact clockOk_enterOff hcut

theorem clockOk_linkResetAction (h : ClockOk s) : ClockOk (linkResetAction s) := by
  obtain ⟨htimer, hslot, hact, harmed⟩ := clockOk_haltSteps h
  refine clockOk_complete .ok ⟨timerOk_of_same htimer (by simp) (by simp) rfl rfl (fun _ => rfl), by simpa [SlotOk] using hslot, ?_, ?_⟩
  · rw [activeBank_congr (s := haltSteps s) (by simp)]; simpa using hact
  · rw [shadowBank_congr (s := haltSteps s) (by simp)]; simpa using harmed

theorem holds_onTx {P : State → Prop} {act : Fin 24 → TxMailbox → State → State} (hbad : P (complete .badArg s))
    (hact : ∀ m b, P (act m b s)) : P (onTx act s) := by
  obtain ⟨-, heq⟩ | ⟨_, _, -, -, heq⟩ | ⟨m, b, -, -, heq⟩ := onTx_cases act s <;> rw [heq]
  · exact hbad
  · exact hbad
  · exact hact m b

theorem holds_onRx {P : State → Prop} {act : Fin 24 → RxMailbox → State → State} (hbad : P (complete .badArg s))
    (hact : ∀ m r, P (act m r s)) : P (onRx act s) := by
  obtain ⟨-, heq⟩ | ⟨_, _, -, -, heq⟩ | ⟨m, r, -, -, heq⟩ := onRx_cases act s <;> rw [heq]
  · exact hbad
  · exact hbad
  · exact hact m r

/-- A command that moves neither line nor link state nor schedule. -/
structure MailboxCommand (s t : State) : Prop where
  rx : t.rx = s.rx
  tx : t.tx = s.tx
  line : t.line = s.line
  state : t.link.state = s.link.state
  sched : t.sched = s.sched
  timer : t.timer = s.timer
  seq : t.seq = s.seq

/-- The commands that move line, link state or schedule are STOP, HALT, LINK_RESET, ARM and DISARM. -/
theorem actionOf_cases (code : Byte) (s : State) :
    actionOf code s = stopAction s ∨ actionOf code s = haltAction s ∨ actionOf code s = linkResetAction s ∨
      actionOf code s = armAction s ∨ actionOf code s = disarmAction s ∨ MailboxCommand s (actionOf code s) := by
  have hbad : MailboxCommand s (complete .badArg s) := ⟨rfl, rfl, rfl, rfl, rfl, rfl, rfl⟩
  unfold actionOf
  split
  case h_2 => exact .inl rfl
  case h_3 => exact .inr (.inl rfl)
  case h_6 => exact .inr (.inr (.inl rfl))
  case h_7 => exact .inr (.inr (.inr (.inl rfl)))
  case h_8 => exact .inr (.inr (.inr (.inr (.inl rfl))))
  all_goals refine .inr (.inr (.inr (.inr (.inr ?_))))
  case h_9 | h_10 | h_11 | h_12 =>
    exact holds_onTx hbad fun m b => ⟨by simp, by simp, by simp, by simp, by simp, by simp, by simp⟩
  case h_13 | h_14 => exact holds_onRx hbad fun m r => ⟨by simp, by simp, by simp, by simp, by simp, by simp, by simp⟩
  all_goals exact ⟨by simp, by simp, by simp, by simp, by simp, by simp, by simp⟩

theorem clockOk_actionOf (code : Byte) (h : ClockOk s) : ClockOk (actionOf code s) := by
  obtain heq | heq | heq | heq | heq | hkeeps := actionOf_cases code s
  · rw [heq]; exact clockOk_stopAction h
  · rw [heq]; exact clockOk_complete .ok (clockOk_haltSteps h)
  · rw [heq]; exact clockOk_linkResetAction h
  · rw [heq]
    unfold armAction
    split
    · exact clockOk_of_banks h rfl rfl rfl rfl nofun
    · exact clockOk_complete .badState h
  · rw [heq]
    unfold disarmAction
    split
    · exact clockOk_of_banks h rfl rfl rfl rfl nofun
    · exact clockOk_complete .badState h
  · exact clockOk_of_unscheduled h hkeeps.state hkeeps.sched hkeeps.timer hkeeps.seq

/-- A write that a collection takes leaves the selectors, the active bank and an ARMED shadow (R44). -/
theorem clockOk_writeByte {w : WindowByte} {v : Byte} (hw : writeByte w v s = some t) (h : ClockOk s) : ClockOk t := by
  obtain ⟨hbanks, -⟩ := writeByte_banks hw
  obtain ⟨-, -, -, htimer, hseq, hlink, -, -, -, -, -, hactive, hshadow, -⟩ := writeByte_keeps hw
  refine clockOk_of_banks h (by rw [hlink]) htimer hseq ?_ fun ha => ?_
  · rw [activeBank, hactive]; exact hbanks _ (.inl rfl)
  · rw [hshadow] at ha
    rw [shadowBank, hactive]; exact ⟨ha, hbanks _ (.inr (by rw [ha]; nofun))⟩

theorem clockOk_writes {a : BusAddress} {v : Byte} (hw : Writes s a v t) (h : ClockOk s) : ClockOk t := by
  cases hw with
  | cmd =>
    obtain ⟨-, -, heq⟩ | ⟨-, heq⟩ := writeCmd_cases v s <;> rw [heq]
    · exact clockOk_of_unscheduled h rfl rfl rfl rfl
    · exact clockOk_actionOf (s := takenAs v s) v (clockOk_of_unscheduled h rfl rfl rfl rfl)
  | data =>
    obtain ⟨t, ht, heq⟩ | ⟨-, heq⟩ := writeWindow_cases s.win.pointer v s <;> rw [writeData, heq]
    · exact clockOk_of_unscheduled (clockOk_writeByte ht h) rfl rfl rfl rfl
    · exact clockOk_of_unscheduled h rfl rfl rfl rfl
  | nothing => exact h
  | _ => exact clockOk_of_unscheduled h rfl rfl rfl rfl

/-! ### The end of a validation -/

theorem cycleLengthOk_of_validate {boxes : Vector Mailbox 24} {b : Bank} (h : validate boxes b = none) :
    cycleLengthOk b.length = true := by
  unfold validate at h
  (repeat' split at h) <;> simp_all

/-- START's validation passes in OFF, where the timer is stopped, no slot is open and no shadow ARMED (R73). -/
theorem clockOk_startValidated (h : ClockOk s) (hoff : s.link.state = .off) : ClockOk (startValidated s) := by
  obtain ⟨-, hstopped, hzero, -, -⟩ := h.timer
  have hlength : s.timer.length = none := hstopped (by rw [hoff]; rfl)
  have hnoslot : s.seq.slot = none := by
    cases hs : s.seq.slot with
    | none => rfl
    | some sl => obtain h | h := h.slot.1 (by simp [hs]) <;> simp [hoff] at h
  unfold startValidated
  split
  · exact clockOk_of_unscheduled h rfl rfl rfl rfl
  next hpasses =>
    have hactive := cycleLengthOk_of_validate hpasses
    have hstate : ∀ l : LinkState, (setLinkState l s).link.state = l := fun l => by simp [setLinkState_link]
    refine ⟨⟨fun hr => ?_, fun _ => by simpa using hlength, fun _ => by simpa using hzero hlength, by simp [hlength], fun hr => ?_⟩,
      ⟨by simp [hnoslot], by simpa using h.slot.2⟩, fun _ => ?_, fun ha => ?_⟩
    · simp only [complete_link, hstate] at hr
      split at hr <;> simp at hr
    · simp only [complete_link, hstate] at hr
      split at hr <;> simp at hr
    · rw [activeBank_congr (s := s) (by simp)]; exact hactive
    · exact absurd hoff (h.armed (by simpa using ha)).1

/-- ARM's validation passes: ARMED outside OFF, a swap in OFF (R50). -/
theorem clockOk_armValidated (h : ClockOk s) : ClockOk (armValidated s) := by
  unfold armValidated
  split
  · exact clockOk_of_banks h rfl rfl rfl rfl nofun
  next hpasses =>
    split
    next hoff =>
      have hsched := exchangeBanks_sched s
      have htimer : (exchangeBanks s).timer = s.timer := by unfold exchangeBanks; simp [hoff]
      have hstate : (exchangeBanks s).link.state = .off := by simpa using hoff
      refine clockOk_complete .ok ⟨⟨fun hr => ?_, ?_, ?_, ?_, fun hr => ?_⟩, by simpa [SlotOk] using h.slot,
        fun hon => absurd hstate hon, fun ha => by simp [hsched] at ha⟩
      · rw [hstate] at hr; obtain hr | hr := hr <;> cases hr
      · rw [hstate, htimer]; rw [← hoff]; exact h.timer.2.1
      · rw [htimer]; exact h.timer.2.2.1
      · rw [htimer]; exact h.timer.2.2.2.1
      · rw [hstate] at hr; cases hr
    next hon =>
      exact clockOk_complete .ok ⟨h.timer, h.slot, h.active, fun _ => ⟨hon, cycleLengthOk_of_validate hpasses⟩⟩

/-! ### Every command -/

theorem clockOk_idleCt (h : ClockOk s) : ClockOk (idleCt s) :=
  clockOk_of_unscheduled h (by simp) (by simp) (by simp) (by simp)

theorem clockOk_acts {c : Instr} (hc : Acts s c t) (hcmd : CommandUnitOk s) (ha : AssemblyOk s) (h : ClockOk s) :
    ClockOk t := by
  cases hc with
  | write => exact clockOk_writes (busWrite_writes _ _ s) h
  | nothing => exact h
  | wdataRead | posLRead | lineHighAfterStopBitError | startBitConfirmed => exact clockOk_of_unscheduled h rfl rfl rfl rfl
  | startValidated hstart => exact clockOk_startValidated h (hcmd.2.2.1 hstart)
  | armValidated => exact clockOk_armValidated h
  | hardwareReset =>
    exact ⟨⟨nofun, fun _ => rfl, fun _ => ⟨rfl, rfl⟩, nofun, nofun⟩, ⟨nofun, Nat.zero_le 32⟩, fun hon => absurd rfl hon, nofun⟩
  | characterComplete v => exact clockOk_completeCharacter v ha h
  | stopBitError => exact clockOk_characterFails h
  | gapTimerExpires => exact clockOk_abandonAssembly .truncErr h
  | positionReached | cycleBoundary => exact clockOk_endOfCt h
  | startupSilenceCompletes hstarting => exact clockOk_settleWait (clockOk_completeStartup h hstarting)
  | backoffElapses => exact clockOk_elapse h
  | transmissionCompletes x => exact clockOk_completeTransmission x h
  | transmissionCollides x => exact clockOk_collideTransmission x h

end

end Sys2Proof.Machine
end

section
/-! # The banks and the frame assembly are kept (R16 to R18, R22, R43, R44, R52, R53) -/

open Sys2Proof

namespace Sys2Proof.Machine

/-! ### Validation reads the configuration of the mailboxes alone (R46, R47) -/

/-- A TRANSMIT entry wants a TX SCHEDULED mailbox and a RECEIVE entry an RX mailbox (R47, reason 8; R117). -/
theorem mailboxFits_eq (k : EntryKind) (b : Mailbox) :
    mailboxFits k b = match k with
      | .transmit => configCode b == 0x10 || configCode b == 0x11
      | .receive => configCode b == 0x00 || configCode b == 0x01
      | .openWindow => true := by
  cases k with
  | openWindow => rfl
  | transmit | receive =>
    rcases b with t | r
    · rcases hm : t.mode with (_ | _) | _ <;> simp [mailboxFits, configCode, hm]
    · rcases hp : r.policy <;> simp [mailboxFits, configCode, hp]

theorem mailboxFits_congr {k : EntryKind} {b b' : Mailbox} (h : configCode b' = configCode b) :
    mailboxFits k b' = mailboxFits k b := by
  rw [mailboxFits_eq, mailboxFits_eq, h]

section
variable {boxes boxes' : Vector Mailbox 24}

theorem mailboxCheck_congr (h : ∀ m : Fin 24, configCode boxes'[m] = configCode boxes[m]) (k : EntryKind) (e : Entry) :
    mailboxCheck boxes' k e = mailboxCheck boxes k e := by
  unfold mailboxCheck
  split
  · rfl
  · split
    · exact mailboxFits_congr (h _)
    · rfl

theorem entryFault_congr (h : ∀ m : Fin 24, configCode boxes'[m] = configCode boxes[m]) (p : Option Nat) (e : Entry) :
    entryFault boxes' p e = entryFault boxes p e := by
  unfold entryFault
  simp only [mailboxCheck_congr h]

theorem entriesFault_congr (h : ∀ m : Fin 24, configCode boxes'[m] = configCode boxes[m]) (length : Nat) (l : List Entry) :
    ∀ (p : Option Nat) (i : Nat), entriesFault boxes' length p i l = entriesFault boxes length p i l := by
  induction l with
  | nil => intro p i; cases p <;> rfl
  | cons e rest ih => intro p i; simp only [entriesFault, entryFault_congr h, ih]

theorem validate_congr (h : ∀ m : Fin 24, configCode boxes'[m] = configCode boxes[m]) (b : Bank) :
    validate boxes' b = validate boxes b := by
  unfold validate
  simp only [entriesFault_congr h]

end

/-! ### Which bank is active and which is ARMED (R43, R53) -/

/-- The active bank stays and no shadow has become ARMED, or a swap has taken the ARMED shadow. -/
def Selects (s t : State) : Prop :=
  (t.sched.active = s.sched.active ∧ (t.sched.shadow = .armed → s.sched.shadow = .armed)) ∨
    (s.sched.shadow = .armed ∧ t.sched.active = s.sched.active.other ∧ t.sched.shadow ≠ .armed)

section
variable {s t : State}

theorem selects_of_sched (h : t.sched = s.sched) : Selects s t := .inl (by rw [h]; exact ⟨rfl, id⟩)

theorem selects_of_unarmed (hactive : t.sched.active = s.sched.active) (h : t.sched.shadow ≠ .armed) : Selects s t :=
  .inl ⟨hactive, fun ha => absurd ha h⟩

theorem Selects.trans {u : State} (hst : Selects s t) (htu : Selects t u) : Selects s u := by
  obtain ⟨hactive, harmed⟩ | ⟨harmed, hactive, hunarmed⟩ := hst
  · obtain ⟨hactive', harmed'⟩ | ⟨harmed', hactive', hunarmed'⟩ := htu
    · exact .inl ⟨hactive'.trans hactive, fun ha => harmed (harmed' ha)⟩
    · exact .inr ⟨harmed harmed', by rw [hactive', hactive], hunarmed'⟩
  · obtain ⟨hactive', harmed'⟩ | ⟨harmed', -, -⟩ := htu
    · exact .inr ⟨harmed, hactive'.trans hactive, fun ha => hunarmed (harmed' ha)⟩
    · exact absurd harmed' hunarmed

theorem selects_swap (harmed : s.sched.shadow = .armed)
    (h : t.sched = { s.sched with active := s.sched.active.other, shadow := .idle }) : Selects s t :=
  .inr ⟨harmed, by rw [h], by rw [h]; nofun⟩

variable (s)

theorem selects_enterOff : Selects s (enterOff s) := by
  refine selects_of_unarmed (by unfold enterOff disarmOnOff; split <;> simp) ?_
  rw [enterOff_shadow]
  split
  · nofun
  next hne => exact hne

theorem selects_finishStopping : Selects s (finishStopping s) := by
  unfold finishStopping
  split
  · exact (selects_enterOff s).trans (selects_of_sched rfl)
  · exact selects_of_sched rfl

theorem selects_endTransmission {outcome : State → State} (h : ∀ u, (outcome u).sched = u.sched) :
    Selects s (endTransmission outcome s) :=
  (selects_of_sched (h (transmitterIdle s))).trans (selects_finishStopping _)

theorem selects_completeTransmission (x : Transmission) : Selects s (completeTransmission x s) :=
  selects_endTransmission s fun u => by simp

theorem selects_collideTransmission (x : Transmission) : Selects s (collideTransmission x s) :=
  selects_endTransmission s fun u => by simp

theorem selects_countedBoundary : Selects s (countedBoundary s) := by
  unfold countedBoundary
  simp only
  split
  · refine (selects_of_sched (t := boundaryEffects s) (by simp)).trans ?_
    refine Selects.trans (t := masterSwap (boundaryEffects s)) ?_ (selects_of_sched (by simp))
    unfold masterSwap
    split
    next harmed => exact selects_swap harmed (exchangeBanks_sched _)
    · exact selects_of_sched rfl
  · exact selects_of_sched (by simp)

theorem selects_advanceTimer : Selects s (advanceTimer s) := by
  obtain ⟨-, heq⟩ | ⟨_, -, -, heq⟩ | ⟨_, -, -, heq⟩ := advanceTimer_cases s <;> rw [heq]
  · exact selects_of_sched rfl
  · exact selects_of_sched (by simp)
  · exact (selects_countedBoundary s).trans (selects_of_sched rfl)

theorem selects_endOfCt : Selects s (endOfCt s) := by
  obtain ⟨-, heq⟩ | ⟨-, heq⟩ := endOfCt_cases s <;> rw [heq]
  · exact selects_of_sched rfl
  · refine Selects.trans (t := endDueTransmission (ctPasses s)) ?_ (selects_advanceTimer _)
    refine (selects_of_sched (t := ctPasses s) (by simp)).trans ?_
    obtain ⟨-, heq⟩ | ⟨x, -, -, -, heq⟩ | ⟨x, -, -, heq⟩ := endDueTransmission_cases (ctPasses s) <;> rw [heq]
    · exact selects_of_sched rfl
    · exact selects_completeTransmission _ x
    · exact selects_collideTransmission _ x

theorem selects_compareBanks (f : Frame) (n : Nat) : Selects s (compareBanks f n s) := by
  unfold compareBanks
  split
  · exact selects_of_sched (by simp)
  · split
    next hswaps =>
      have harmed : s.sched.shadow = .armed := by simp [frameSwaps] at hswaps; exact hswaps.1.2
      exact (selects_swap harmed ((followerSwap_sched n s).trans (exchangeBanks_sched s))).trans (selects_of_sched (by simp))
    · exact selects_of_sched (by simp)

theorem selects_handCycleStart (f : Frame) (n : Nat) : Selects s (handCycleStart f n s) := by
  unfold handCycleStart
  simp only
  split
  · exact selects_of_sched (by simp)
  · unfold acceptCs
    split
    · exact Selects.trans (selects_of_sched (by simp)) (selects_compareBanks _ f n)
    · exact Selects.trans (selects_of_sched (by simp)) (selects_compareBanks _ f n)
    · exact Selects.trans (selects_of_sched (by simp)) (selects_compareBanks _ f n)
    · exact selects_of_sched (by simp)

theorem selects_takeCharacter (v : Byte) : Selects s (takeCharacter v s) := by
  have hend : Selects s (endAssembly (countCharacter s)) := by
    unfold endAssembly
    simp only
    split
    · exact selects_of_sched (by simp)
    · split
      · exact Selects.trans (selects_of_sched rfl) (selects_handCycleStart _ _ _)
      · exact selects_of_sched (by simp)
  unfold takeCharacter
  split
  · split <;> exact selects_of_sched (by simp)
  · unfold inFrameCharacter
    simp only
    split
    · exact selects_of_sched (by simp)
    · split
      · exact hend
      · split <;> exact selects_of_sched (by simp)
  · exact selects_of_sched (by simp)

theorem selects_completeCharacter (v : Byte) : Selects s (completeCharacter v s) := by
  unfold completeCharacter
  simp only
  split
  · exact selects_of_sched rfl
  · exact (selects_takeCharacter (lineBecomesIdle s) v).trans (selects_of_sched rfl)

theorem selects_abandonCommand : Selects s (abandonCommand s) := by
  by_cases ha : (abandonCommand s).sched.shadow = .armed
  · exact selects_of_sched (abandonCommand_shadow s ha)
  · exact selects_of_unarmed (by simp) ha

theorem selects_haltSteps : Selects s (haltSteps s) := by
  have hcut : Selects s (cutTransmission (abandonCommand s)) := (selects_abandonCommand s).trans (selects_of_sched (by simp))
  unfold haltSteps
  simp only
  split
  · exact hcut
  · exact hcut.trans (selects_enterOff _)

theorem selects_actionOf (code : Byte) : Selects s (actionOf code s) := by
  obtain heq | heq | heq | heq | heq | hkeeps := actionOf_cases code s
  · rw [heq]
    unfold stopAction
    split
    · exact selects_of_sched rfl
    · split
      · exact (selects_enterOff s).trans (selects_of_sched rfl)
      · exact selects_of_sched (by simp)
  · rw [heq]; exact (selects_haltSteps s).trans (selects_of_sched rfl)
  · rw [heq]; exact (selects_haltSteps s).trans (selects_of_sched (by simp [linkResetAction]))
  · rw [heq]
    unfold armAction
    split
    · exact selects_of_unarmed rfl nofun
    · exact selects_of_sched rfl
  · rw [heq]
    unfold disarmAction
    split
    · exact selects_of_unarmed rfl nofun
    · exact selects_of_sched rfl
  · exact selects_of_sched hkeeps.sched

variable {s}

theorem selects_writes {a : BusAddress} {v : Byte} (hw : Writes s a v t) : Selects s t := by
  cases hw with
  | cmd =>
    obtain ⟨-, -, heq⟩ | ⟨-, heq⟩ := writeCmd_cases v s <;> rw [heq]
    · exact selects_of_sched rfl
    · exact Selects.trans (selects_of_sched rfl) (selects_actionOf (takenAs v s) v)
  | data =>
    obtain ⟨t, ht, heq⟩ | ⟨-, heq⟩ := writeWindow_cases s.win.pointer v s <;> rw [writeData, heq]
    · obtain ⟨-, -, -, -, -, -, -, -, -, -, -, hactive, hshadow, -⟩ := writeByte_keeps ht
      exact .inl ⟨hactive, fun ha => hshadow ▸ ha⟩
    · exact selects_of_sched rfl
  | _ => exact selects_of_sched rfl

/-- Every command but a reset and the end of an ARM's validation. -/
theorem selects_acts {c : Instr} (hc : Acts s c t) (hrow : c ≠ .hardwareReset) (hvalidation : c ≠ .validationDone) :
    Selects s t := by
  cases hc with
  | write => exact selects_writes (busWrite_writes _ _ s)
  | startValidated | armValidated => exact absurd rfl hvalidation
  | hardwareReset => exact absurd rfl hrow
  | characterComplete v => exact selects_completeCharacter s v
  | positionReached | cycleBoundary => exact selects_endOfCt s
  | transmissionCompletes x => exact selects_completeTransmission s x
  | transmissionCollides x => exact selects_collideTransmission s x
  | _ => exact selects_of_sched (by simp)

/-! ### The banks pass validation -/

theorem banksOk_of_selects (h : BanksOk s) (ht : ClockOk t) (hon : t.link.state ≠ .off → s.link.state ≠ .off)
    (hsel : Selects s t) (hconfig : s.link.state ≠ .off → ConfigKept s t)
    (hbanks : ∀ n : BankName, n = s.sched.active ∨ s.sched.shadow ≠ .idle → bankOf n t = bankOf n s) : BanksOk t := by
  obtain ⟨hactive, harmed⟩ := h
  refine ⟨fun ht' => ?_, fun ha => ?_⟩
  · rw [validate_congr (hconfig (hon ht'))]
    obtain ⟨hsame, -⟩ | ⟨ha, hswapped, -⟩ := hsel
    · rw [activeBank, hsame, hbanks _ (.inl rfl)]; exact hactive (hon ht')
    · rw [activeBank, hswapped, hbanks _ (.inr (by rw [ha]; nofun))]; exact (harmed ha).2
  · have ht' := (ht.armed ha).1
    rw [validate_congr (hconfig (hon ht'))]
    obtain ⟨hsame, hkeeps⟩ | ⟨-, -, hunarmed⟩ := hsel
    · rw [shadowBank, hsame, hbanks _ (.inr (by rw [hkeeps ha]; nofun))]
      exact ⟨ht', (harmed (hkeeps ha)).2⟩
    · exact absurd ha hunarmed

theorem on_writes {a : BusAddress} {v : Byte} (hw : Writes s a v t) (htx : TransmitterOk s) (ht : t.link.state ≠ .off) :
    s.link.state ≠ .off := by
  cases hw with
  | cmd =>
    obtain ⟨-, -, heq⟩ | ⟨-, heq⟩ := writeCmd_cases v s <;> rw [heq] at ht
    · exact ht
    · obtain ⟨hstate, -⟩ | ⟨hstate, -⟩ | ⟨-, -, hbusy⟩ := actionOf_state_tx v (takenAs v s)
      · rw [hstate] at ht; exact ht
      · exact absurd hstate ht
      · exact fun hoff => hbusy (not_sending_of_off htx hoff)
  | data => simpa using ht
  | _ => exact ht

/-- Only the end of START's validation takes the link out of OFF. -/
theorem on_acts {c : Instr} (hc : Acts s c t) (hvalidation : c ≠ .validationDone) (htx : TransmitterOk s) (h : ClockOk s)
    (ht : t.link.state ≠ .off) : s.link.state ≠ .off := by
  cases hc with
  | write => exact on_writes (busWrite_writes _ _ s) htx ht
  | startValidated | armValidated => exact absurd rfl hvalidation
  | hardwareReset => exact absurd rfl ht
  | startBitConfirmed hrec | characterComplete _ hrec | stopBitError hrec | lineHighAfterStopBitError hrec =>
    simpa [receiving] using hrec
  | positionReached | cycleBoundary =>
    obtain ⟨-, heq⟩ | ⟨hruns, -⟩ := endOfCt_cases s
    · rw [heq] at ht; exact ht
    · exact clockOk_on h hruns
  | startupSilenceCompletes hstarting => rw [hstarting]; nofun
  | transmissionCompletes x hx | transmissionCollides x hx =>
    exact fun hoff => absurd (hx.symm.trans (not_sending_of_off htx hoff)) nofun
  | _ => simpa using ht

theorem banksOk_validated (h : BanksOk s) (hcmd : CommandUnitOk s) (ht : Acts s .validationDone t) : BanksOk t := by
  obtain ⟨hactive, harmed⟩ := h
  cases ht with
  | write hw => cases hw
  | nothing => exact ⟨hactive, harmed⟩
  | startValidated hstart =>
    have hdisarmed : s.sched.shadow ≠ .armed := fun ha => (harmed ha).1 (hcmd.2.2.1 hstart)
    unfold startValidated
    split
    · exact ⟨hactive, harmed⟩
    next hpasses =>
      refine ⟨fun _ => ?_, fun ha => absurd (by simpa using ha) hdisarmed⟩
      rw [activeBank_congr (s := s) (by simp)]
      simpa using hpasses
  | armValidated harm =>
    unfold armValidated
    split
    · exact ⟨hactive, nofun⟩
    next hpasses =>
      split
      next hoff =>
        exact ⟨fun hon => absurd (by simpa using hoff) hon, fun ha => by simp [exchangeBanks_sched] at ha⟩
      next hon => exact ⟨hactive, fun _ => ⟨hon, hpasses⟩⟩

theorem banksOk_acts {c : Instr} (hc : Acts s c t) (hcmd : CommandUnitOk s) (htx : TransmitterOk s) (ha : AssemblyOk s)
    (hclock : ClockOk s) (h : BanksOk s) : BanksOk t := by
  by_cases hvalidation : c = .validationDone
  · subst hvalidation
    exact banksOk_validated h hcmd hc
  by_cases hreset : c = .hardwareReset
  · subst hreset
    cases hc with
    | write hw => cases hw
    | nothing => exact h
    | hardwareReset => exact ⟨fun hon => absurd rfl hon, nofun⟩
  exact banksOk_of_selects h (clockOk_acts hc hcmd ha hclock) (on_acts hc hvalidation htx hclock)
    (selects_acts hc hreset hvalidation) (configKept_acts hc hreset) fun n hn => banks_acts hc hreset hn

theorem clockOk_of_units (hbanks : BanksOk s) (htimer : TimerOk s) (hslot : SlotOk s) : ClockOk s where
  timer := htimer
  slot := hslot
  active hon := cycleLengthOk_of_validate (hbanks.1 hon)
  armed ha := ⟨(hbanks.2 ha).1, cycleLengthOk_of_validate (hbanks.2 ha).2⟩

end

end Sys2Proof.Machine
end

section
/-! # The frame assembly is kept (R16 to R18, R22) -/

open Sys2Proof

namespace Sys2Proof.Machine

/-- The assembly holds at most 40 bytes, with a character count that they can have, and a gap timer only in an assembly (R16 to
R18). -/
def Receiver.assemblyOk (rx : Receiver) : Prop :=
  rx.buffer.length ≤ 40 ∧
    (rx.assembly = .inFrame → 1 ≤ rx.count ∧ rx.count ≤ 1 + 2 * rx.buffer.length) ∧
    (rx.assembly = .escaped → 2 ≤ rx.count ∧ rx.count ≤ 2 + 2 * rx.buffer.length) ∧
    (rx.assembly = .hunt → rx.gap = none)

/-- The assembly is one of R16 to R18, and there is none while SENDING (R12). -/
structure Assembles (s : State) : Prop where
  rx : s.rx.assemblyOk
  hunts : s.tx.isSome = true → s.rx.assembly = .hunt

section
variable {s t : State}

theorem AssemblyOk.assembles (h : AssemblyOk s) : Assembles s :=
  let ⟨h1, h2, h3, h4, h5, _⟩ := h
  ⟨⟨h1, h2, h3, h4⟩, h5⟩

theorem Assembles.assemblyOk (h : Assembles s)
    (hoff : s.link.state = .off → s.rx = Receiver.hunting ∧ s.line.level = .idle) : AssemblyOk s :=
  let ⟨⟨h1, h2, h3, h4⟩, h5⟩ := h
  ⟨h1, h2, h3, h4, h5, hoff⟩

theorem Assembles.on (h : Assembles s) (hon : s.link.state ≠ .off) : AssemblyOk s := h.assemblyOk fun hoff => absurd hoff hon

theorem assembles_of_same (h : Assembles s) (hrx : t.rx = s.rx) (htx : t.tx = s.tx) : Assembles t :=
  ⟨by rw [hrx]; exact h.rx, by rw [hrx, htx]; exact h.hunts⟩

theorem assemblyOk_of_same (h : AssemblyOk s) (hrx : t.rx = s.rx) (htx : t.tx = s.tx) (hline : t.line.level = s.line.level)
    (hstate : t.link.state = s.link.state) : AssemblyOk t :=
  let ⟨_, _, _, _, _, hoff⟩ := h
  (assembles_of_same h.assembles hrx htx).assemblyOk (by rw [hstate, hrx, hline]; exact hoff)

theorem assemblyOk_hunting : Receiver.hunting.assemblyOk := ⟨Nat.zero_le 40, nofun, nofun, fun _ => rfl⟩

theorem assembles_of_hunting (hrx : t.rx = Receiver.hunting) : Assembles t :=
  ⟨by rw [hrx]; exact assemblyOk_hunting, fun _ => by rw [hrx]; rfl⟩

theorem assembles_of_begins (h : Assembles s) (hb : BeginsFrom s t) : Assembles t := by
  obtain ⟨htx, hrx⟩ | ⟨-, hhunt, hrx⟩ := hb
  · exact assembles_of_same h hrx htx
  · refine ⟨?_, fun _ => hhunt⟩
    obtain hrx | hrx := hrx <;> rw [hrx]
    · exact h.rx
    · exact assemblyOk_hunting

/-! ### Characters -/

theorem assembles_abandonAssembly (c : Counter) (h : Assembles s) : Assembles (abandonAssembly c s) := by
  obtain ⟨-, heq⟩ | ⟨-, heq⟩ := abandonAssembly_cases c s <;> rw [heq]
  · exact h
  · exact assembles_of_hunting (by simp)

theorem assembles_openAssembly (hidle : s.tx = none) : Assembles (openAssembly s) := by
  have hrx : (openAssembly s).rx = { assembly := .inFrame, buffer := [], count := 1, gap := some 0 } := by simp [openAssembly]
  refine ⟨?_, by simp [hidle]⟩
  rw [hrx]
  exact ⟨Nat.zero_le 40, fun _ => ⟨le_refl 1, le_refl 1⟩, nofun, nofun⟩

/-- A byte is appended where the characters counted leave room for it (R16, R17). -/
theorem assembles_appendByte (b : Byte) (hidle : s.tx = none)
    (hcount : 1 ≤ s.rx.count ∧ s.rx.count ≤ 3 + 2 * s.rx.buffer.length) (hasm : s.rx.assembly ≠ .hunt) : Assembles (appendByte b s) := by
  unfold appendByte
  split
  · obtain ⟨hhunt, -⟩ | ⟨-, heq⟩ := abandonAssembly_cases .lenErr s
    · exact absurd hhunt hasm
    · rw [heq]; exact assembles_of_hunting (by simp)
  next hroom =>
    simp only [Config.bufferBytes, not_le] at hroom
    refine ⟨⟨?_, fun _ => ?_, nofun, nofun⟩, by simp [hidle]⟩
    · simp; omega
    · simp only [List.length_append, List.length_cons, List.length_nil]
      omega

theorem assembles_endAssembly (s : State) : Assembles (endAssembly s) := by
  have hhunt : Assembles { s with rx := Receiver.hunting } := assembles_of_hunting rfl
  unfold endAssembly
  simp only
  split
  · exact assembles_of_hunting (by simp)
  · split
    · exact assembles_of_begins hhunt (beginsFrom_handCycleStart _ _ _)
    · exact assembles_of_hunting (by simp)

theorem assembles_takeCharacter (v : Byte) (hidle : s.tx = none) (h : Assembles s) : Assembles (takeCharacter v s) := by
  obtain ⟨hlength, hin, hesc, -⟩ := h.rx
  unfold takeCharacter
  split
  · split
    · exact assembles_openAssembly hidle
    · exact h
  next hasm =>
    obtain ⟨hlow, hhigh⟩ := hin hasm
    unfold inFrameCharacter
    simp only
    split
    · exact assembles_openAssembly (by simpa using hidle)
    · split
      · exact assembles_endAssembly _
      · split
        · refine ⟨⟨hlength, nofun, fun _ => ?_, nofun⟩, by simp [countCharacter, hidle]⟩
          simp only [countCharacter]
          omega
        · refine assembles_appendByte v hidle ?_ ?_
          · simp only [countCharacter]; omega
          · simp [countCharacter, hasm]
  next hasm =>
    obtain ⟨hlow, hhigh⟩ := hesc hasm
    unfold escapedCharacter
    simp only
    split
    · refine assembles_appendByte _ hidle ?_ ?_
      · simp only [countCharacter]; omega
      · simp [countCharacter, hasm]
    · have habandon : (abandonAssembly .escErr (countCharacter s)).rx = Receiver.hunting := by
        simp [abandonAssembly, countCharacter, hasm]
      split
      · exact assembles_openAssembly (by simpa using hidle)
      · exact assembles_of_hunting habandon

theorem takeCharacter_on (v : Byte) (hon : s.link.state ≠ .off) : (takeCharacter v s).link.state ≠ .off := by
  obtain h | h | h := staysOrAccepts_takeCharacter v s <;> rw [h]
  · exact hon
  · nofun
  · nofun

theorem assemblyOk_completeCharacter (v : Byte) (hon : s.link.state ≠ .off) (h : AssemblyOk s) :
    AssemblyOk (completeCharacter v s) := by
  have hidle : Assembles (lineBecomesIdle s) := assembles_of_same h.assembles rfl rfl
  unfold completeCharacter
  simp only
  split
  next x hx =>
    exact Assembles.on (s := { lineBecomesIdle s with tx := some (judgeReadback v x) })
      ⟨hidle.rx, fun _ => hidle.hunts (by rw [hx]; rfl)⟩ hon
  next hx =>
    exact (assembles_of_same (assembles_takeCharacter v hx hidle) rfl rfl).on (takeCharacter_on (s := lineBecomesIdle s) v hon)

theorem assemblyOk_characterFails (hon : s.link.state ≠ .off) (h : AssemblyOk s) : AssemblyOk (characterFails s) := by
  have hheld : Assembles { s with line := { s.line with level := .heldLow } } := assembles_of_same h.assembles rfl rfl
  unfold characterFails
  simp only
  split
  next x hx => exact Assembles.on ⟨hheld.rx, fun _ => hheld.hunts (by rw [hx]; rfl)⟩ hon
  · exact (assembles_abandonAssembly .charErr hheld).on (by simpa using hon)

/-! ### The end of a CT and of a transmission -/

theorem assemblyOk_ctPasses (h : AssemblyOk s) : AssemblyOk (ctPasses s) := by
  obtain ⟨hlength, hin, hesc, hgap, hhunts, hoff⟩ := h
  refine ⟨by simpa [ctPasses] using hlength, hin, hesc, fun hasm => ?_, hhunts, fun hs => ?_⟩
  · have hgap' := hgap hasm
    simp [ctPasses, hgap']
  · obtain ⟨hrx, hline⟩ := hoff hs
    refine ⟨?_, hline⟩
    simp [ctPasses, hrx, Receiver.hunting]

theorem enterOff_receive (s : State) : (enterOff s).rx = Receiver.hunting ∧ (enterOff s).line.level = .idle := ⟨rfl, rfl⟩

theorem assemblyOk_enterOff (s : State) : AssemblyOk (enterOff s) :=
  (assembles_of_hunting rfl).assemblyOk fun _ => enterOff_receive s

theorem assemblyOk_endTransmission {outcome : State → State} (h : AssemblyOk s)
    (hkeeps : ∀ u, (outcome u).rx = u.rx ∧ (outcome u).line = u.line ∧ (outcome u).link = u.link) :
    AssemblyOk (endTransmission outcome s) := by
  obtain ⟨hrx, hline, hlink⟩ := hkeeps (transmitterIdle s)
  obtain ⟨-, -, -, -, -, hoff⟩ := h
  unfold endTransmission
  refine assemblyOk_of_same (s := finishStopping (outcome (transmitterIdle s))) ?_ rfl rfl rfl rfl
  unfold finishStopping
  split
  · exact assemblyOk_of_same (assemblyOk_enterOff _) rfl rfl rfl rfl
  · refine (assembles_of_hunting hrx).assemblyOk fun hs => ⟨hrx, ?_⟩
    rw [hline]
    rw [hlink] at hs
    exact (hoff hs).2

theorem assemblyOk_completeTransmission (x : Transmission) (h : AssemblyOk s) : AssemblyOk (completeTransmission x s) :=
  assemblyOk_endTransmission h fun u => by simp

theorem assemblyOk_collideTransmission (x : Transmission) (h : AssemblyOk s) : AssemblyOk (collideTransmission x s) :=
  assemblyOk_endTransmission h fun u => by simp

theorem assemblyOk_advanceTimer (hclock : ClockOk s) (h : AssemblyOk s) : AssemblyOk (advanceTimer s) := by
  by_cases hruns : s.timer.length = none
  · have heq : advanceTimer s = s := by simp [advanceTimer, hruns]
    rw [heq]; exact h
  · refine (assembles_of_begins h.assembles (beginsFrom_advanceTimer s)).on ?_
    obtain heq | heq := advanceTimer_state s <;> rw [heq]
    · exact clockOk_on hclock hruns
    · nofun

theorem assemblyOk_endOfCt (hclock : ClockOk s) (h : AssemblyOk s) : AssemblyOk (endOfCt s) := by
  have hpasses := assemblyOk_ctPasses h
  have hclock' : ClockOk (ctPasses s) := clockOk_of_unscheduled hclock (by simp) (by simp) (by simp) (by simp)
  obtain ⟨-, heq⟩ | ⟨-, heq⟩ := endOfCt_cases s <;> rw [heq]
  · exact h
  · obtain ⟨-, heq⟩ | ⟨x, -, -, -, heq⟩ | ⟨x, -, -, heq⟩ := endDueTransmission_cases (ctPasses s) <;> rw [heq]
    · exact assemblyOk_advanceTimer hclock' hpasses
    · exact assemblyOk_advanceTimer (clockOk_completeTransmission x hclock') (assemblyOk_completeTransmission x hpasses)
    · exact assemblyOk_advanceTimer (clockOk_collideTransmission x hclock') (assemblyOk_collideTransmission x hpasses)

/-! ### Startup, the head, and the start bit -/

theorem assemblyOk_completeStartup (h : AssemblyOk s) : AssemblyOk (completeStartup s) := by
  have hbegun : Assembles (startupBegun s) := assembles_of_same h.assembles (by simp [startupBegun]) (by simp [startupBegun])
  have hstate := (completeStartup_begins s).1
  rw [completeStartup_eq] at hstate ⊢
  exact (assembles_of_begins hbegun (completeStartup_beginsFrom s)).on (by rw [hstate]; nofun)

/-- The head is served in the open window, which there is in no link state but RUNNING and STOPPING (R68, R113). -/
theorem assemblyOk_elapse (hclock : ClockOk s) (h : AssemblyOk s) : AssemblyOk (elapse s) := by
  unfold elapse
  split
  · exact h
  next m b finish hhead =>
    have hon : s.link.state ≠ .off := by
      obtain ⟨sl, hsl⟩ : ∃ sl, s.seq.slot = some sl := by
        unfold headAndWindow at hhead
        split at hhead
        next _ sl _ hsl => exact ⟨sl, hsl⟩
        · cases hhead
      obtain hs | hs := hclock.slot.1 (by rw [hsl]; rfl) <;> rw [hs] <;> nofun
    split
    · have hlocked : Assembles (updateTx m (fun t => { t with state := .locked }) s) :=
        assembles_of_same h.assembles (by simp) (by simp)
      have hsent : Assembles (sendHead m b s) := by
        obtain ⟨hhunt, hrx⟩ := hunts_beginFrame (.event m) (mailboxFrame .eventData b s) (updateTx m (fun t => { t with state := .locked }) s)
        refine ⟨?_, fun _ => hhunt⟩
        obtain hrx | hrx := hrx
        · rw [show (sendHead m b s).rx = _ from hrx]; exact hlocked.rx
        · rw [show (sendHead m b s).rx = _ from hrx]; exact assemblyOk_hunting
      exact (assembles_of_same (s := sendHead m b s) hsent rfl rfl).on (by simpa using hon)
    · exact assemblyOk_of_same h rfl rfl rfl rfl

theorem assemblyOk_confirmStartBit (hon : s.link.state ≠ .off) (h : AssemblyOk s) : AssemblyOk (confirmStartBit s) :=
  let ⟨h1, h2, h3, _, h5, _⟩ := h
  ⟨h1, h2, h3, fun _ => rfl, h5, fun hoff => absurd hoff hon⟩

theorem assemblyOk_idleCt (h : AssemblyOk s) : AssemblyOk (idleCt s) := by
  obtain ⟨h1, h2, h3, hgap, h5, hoff⟩ := h
  have hcount : ∀ u : State, u.rx = { s.rx with gap := s.rx.gap.map (fun g => min (g + 1) (Config.gapLimit - 1)) } →
      u.tx = s.tx → u.link.state ≠ .off → AssemblyOk u := by
    intro u hrx htx hon
    refine Assembles.on ⟨?_, ?_⟩ hon
    · rw [hrx]
      exact ⟨h1, h2, h3, fun hasm => by simp [hgap hasm]⟩
    · rw [hrx, htx]; exact h5
  unfold idleCt
  split
  next hs =>
    split
    · exact hcount _ rfl rfl (by simp [hs])
    · exact ⟨h1, h2, h3, hgap, h5, hoff⟩
  next hs =>
    split
    · exact hcount _ rfl rfl (by simp [hs])
    · exact ⟨h1, h2, h3, hgap, h5, hoff⟩
  · exact ⟨h1, h2, h3, hgap, h5, hoff⟩

/-! ### Commands -/

theorem assemblyOk_haltSteps (h : AssemblyOk s) : AssemblyOk (haltSteps s) := by
  unfold haltSteps
  simp only
  split
  next hoff =>
    have hoff' : s.link.state = .off := by simpa using hoff
    obtain ⟨-, -, -, -, -, hquiet⟩ := h
    obtain ⟨hrx, hline⟩ := hquiet hoff'
    have hcut : (cutTransmission (abandonCommand s)).rx = Receiver.hunting := by
      unfold cutTransmission
      split
      · simpa using hrx
      · rfl
    exact (assembles_of_hunting hcut).assemblyOk fun _ => ⟨hcut, by simpa using hline⟩
  · exact assemblyOk_enterOff _

theorem assemblyOk_actionOf (code : Byte) (h : AssemblyOk s) : AssemblyOk (actionOf code s) := by
  obtain heq | heq | heq | heq | heq | hkeeps := actionOf_cases code s
  · rw [heq]
    unfold stopAction
    split
    · exact assemblyOk_of_same h rfl rfl rfl rfl
    · split
      · exact assemblyOk_of_same (assemblyOk_enterOff s) rfl rfl rfl rfl
      · refine (assembles_of_same h.assembles (by simp) (by simp)).on ?_
        simp [setLinkState_link]
  · rw [heq]; exact assemblyOk_of_same (assemblyOk_haltSteps h) rfl rfl rfl rfl
  · rw [heq]
    exact assemblyOk_of_same (assemblyOk_haltSteps h) (by simp [linkResetAction]) (by simp [linkResetAction])
      (by simp [linkResetAction]) (by simp [linkResetAction])
  · rw [heq]; exact assemblyOk_of_same h (by simp) (by simp) (by simp) (by simp)
  · rw [heq]; exact assemblyOk_of_same h (by simp) (by simp) (by simp) (by simp)
  · exact assemblyOk_of_same h hkeeps.rx hkeeps.tx (by rw [hkeeps.line]) hkeeps.state

theorem assemblyOk_writes {a : BusAddress} {v : Byte} (hw : Writes s a v t) (h : AssemblyOk s) : AssemblyOk t := by
  cases hw with
  | cmd =>
    obtain ⟨-, -, heq⟩ | ⟨-, heq⟩ := writeCmd_cases v s <;> rw [heq]
    · exact h
    · exact assemblyOk_actionOf (s := takenAs v s) v h
  | data => exact assemblyOk_of_same h (by simp) (by simp) (by simp) (by simp)
  | _ => exact h

theorem assemblyOk_startValidated (h : AssemblyOk s) : AssemblyOk (startValidated s) := by
  unfold startValidated
  split
  · exact assemblyOk_of_same h rfl rfl rfl rfl
  · exact (assembles_of_hunting rfl).assemblyOk fun _ => ⟨rfl, rfl⟩

theorem assemblyOk_acts {c : Instr} (hc : Acts s c t) (hclock : ClockOk s) (h : AssemblyOk s) : AssemblyOk t := by
  have hreceives : receiving s = true → s.link.state ≠ .off := fun hrec => by simpa [receiving] using hrec
  cases hc with
  | write => exact assemblyOk_writes (busWrite_writes _ _ s) h
  | nothing | wdataRead | posLRead => exact h
  | startValidated => exact assemblyOk_startValidated h
  | armValidated => exact assemblyOk_of_same h (by simp) (by simp) (by simp) (by simp)
  | hardwareReset => exact (assembles_of_hunting rfl).assemblyOk fun _ => ⟨rfl, rfl⟩
  | startBitConfirmed hrec => exact assemblyOk_confirmStartBit (hreceives hrec) h
  | characterComplete v hrec => exact assemblyOk_completeCharacter v (hreceives hrec) h
  | stopBitError hrec => exact assemblyOk_characterFails (hreceives hrec) h
  | lineHighAfterStopBitError hrec =>
    exact (assembles_of_same (t := lineBecomesIdle s) h.assembles rfl rfl).on (hreceives hrec)
  | gapTimerExpires hgap =>
    refine (assembles_abandonAssembly .truncErr h.assembles).assemblyOk fun hoff => ?_
    obtain ⟨-, -, -, -, -, hquiet⟩ := h
    obtain ⟨hrx, -⟩ := hquiet (by simpa using hoff)
    simp [gapReached, hrx, Receiver.hunting] at hgap
  | positionReached | cycleBoundary => exact assemblyOk_endOfCt hclock h
  | startupSilenceCompletes => exact assemblyOk_of_same (assemblyOk_completeStartup h) rfl rfl rfl rfl
  | backoffElapses => exact assemblyOk_elapse hclock h
  | transmissionCompletes x => exact assemblyOk_completeTransmission x h
  | transmissionCollides x => exact assemblyOk_collideTransmission x h

end

/-- Settles O57: timer, slot and bank lengths are kept together; a bank that is active or ARMED after a step was so before, or
has just passed validation; and the assembly changes with characters and the beginnings of frames alone. -/
theorem banksTimerAndAssemblyKept : Obligations.BanksTimerAndAssemblyKept := by
  intro s t hcmd htx hassembly hbanks htimer hslot hstep
  have hclock := clockOk_of_units hbanks htimer hslot
  obtain rfl | ⟨c, rest, -, hc⟩ := step_cases hstep
  · have ht := clockOk_idleCt hclock
    refine ⟨assemblyOk_idleCt hassembly, ?_, ht.timer, ht.slot⟩
    exact banksOk_of_selects hbanks ht (fun h => by simpa using h) (selects_of_sched (by simp))
      (fun _ m => by simp [configuration]) (fun n _ => bankOf_congr (by simp) (by simp))
  · have hclock' : ClockOk { s with pending := rest } := clockOk_of_unscheduled hclock rfl rfl rfl rfl
    have ht := clockOk_acts hc hcmd hassembly hclock'
    exact ⟨assemblyOk_acts hc hclock' hassembly, banksOk_acts hc hcmd htx hassembly hclock' hbanks, ht.timer, ht.slot⟩

end Sys2Proof.Machine
end

section
/-! # The machine, the reset, and the link commands (R5, R71 to R73, R87 to R94, R177 to R181) -/

open Sys2Proof

namespace Sys2Proof.Machine

/-! ### A step, and a happening that cannot occur -/

/-- Settles O1, by the definition of a step. -/
theorem stepRunsFrontCommand : Obligations.StepRunsFrontCommand := fun _ _ _ => rfl

theorem exec_guarded {s u : State} {p : Prop} [Decidable p] (h : ¬p) :
    (if p then .next u else .next s : Outcome) = .next s := if_neg h

theorem receiving_eq_false {s : State} {l : LineLevel} (h : s.link.state = .off ∨ s.line.level ≠ l) :
    ¬(receiving s = true ∧ s.line.level = l) := by
  rintro ⟨hrec, hlevel⟩
  obtain hoff | hne := h
  · simp [receiving, hoff] at hrec
  · exact hne hlevel

/-- The CT of an empty queue touches line, link and receive side alone, in STARTING and LISTEN on an idle line (R3, R74). -/
theorem idleCt_cases (s : State) :
    (s.link.state = .starting ∧ s.line.level = .idle ∧ s.link.silence + 1 < startupLimit s ∧
        idleCt s = { s with
          line := { s.line with idleTime := s.line.idleTime + 1 }
          link := { s.link with silence := s.link.silence + 1 }
          rx := { s.rx with gap := s.rx.gap.map (fun g => min (g + 1) 1) } }) ∨
      (s.link.state = .listen ∧ s.line.level = .idle ∧
        idleCt s = { s with
          line := { s.line with idleTime := s.line.idleTime + 1 }
          rx := { s.rx with gap := s.rx.gap.map (fun g => min (g + 1) 1) } }) ∨
      ((s.line.level ≠ .idle ∨ (s.link.state ≠ .starting ∧ s.link.state ≠ .listen) ∨
          (s.link.state = .starting ∧ startupLimit s ≤ s.link.silence + 1)) ∧ idleCt s = s) := by
  unfold idleCt
  split
  next hs =>
    by_cases hcounts : s.line.level = .idle ∧ s.link.silence + 1 < startupLimit s
    · exact .inl ⟨hs, hcounts.1, hcounts.2, if_pos hcounts⟩
    · refine .inr (.inr ⟨?_, if_neg hcounts⟩)
      by_cases hline : s.line.level = .idle
      · exact .inr (.inr ⟨hs, not_lt.mp fun h => hcounts ⟨hline, h⟩⟩)
      · exact .inl hline
  next hs =>
    by_cases hline : s.line.level = .idle
    · exact .inr (.inl ⟨hs, hline, if_pos hline⟩)
    · exact .inr (.inr ⟨.inl hline, if_neg hline⟩)
  next h1 h2 => exact .inr (.inr ⟨.inr (.inl ⟨h1, h2⟩), rfl⟩)

theorem startupLimit_eq (s : State) : startupLimit s = (bankOf s.sched.active s).length.toNat + 28 := rfl

/-- Settles O2: the CT of an empty queue by link state, and the guard of each happening. -/
theorem timeWithoutHappenings : Obligations.TimeWithoutHappenings := by
  refine ⟨fun s hpending => ⟨idleCt s, by simp [step, hpending], ?_⟩, fun s => ⟨fun h => exec_guarded (receiving_eq_false h),
    fun v h => exec_guarded (receiving_eq_false h), fun h => exec_guarded (receiving_eq_false h),
    fun h => exec_guarded (receiving_eq_false h), fun h => exec_guarded ?_, fun h => ?_, fun h => exec_guarded h,
    fun h => exec_guarded ?_, fun h => exec_guarded ?_, fun h => ?_, fun h => ?_, fun h => ?_⟩⟩
  · rw [← startupLimit_eq]
    obtain ⟨hstate, hline, hbelow, heq⟩ | ⟨hstate, hline, heq⟩ | ⟨hwhy, heq⟩ := idleCt_cases s <;> rw [heq]
    · refine ⟨rfl, fun _ _ _ => ⟨rfl, rfl, rfl⟩, fun _ hl => by simp [hstate] at hl, fun h => ?_⟩
      obtain h | ⟨h, -⟩ | ⟨-, h⟩ := h
      · exact absurd hline h
      · exact absurd hstate h
      · omega
    · refine ⟨rfl, fun _ hs => by simp [hstate] at hs, fun _ _ => ⟨rfl, rfl, rfl⟩, fun h => ?_⟩
      obtain h | ⟨-, h⟩ | ⟨h, -⟩ := h
      · exact absurd hline h
      · exact absurd hstate h
      · simp [hstate] at h
    · refine ⟨rfl, fun hline hs hbelow => ?_, fun hline hs => ?_, fun _ => rfl⟩
      · obtain h | ⟨h, -⟩ | ⟨-, h⟩ := hwhy
        · exact absurd hline h
        · exact absurd hs h
        · omega
      · obtain h | ⟨-, h⟩ | ⟨h, -⟩ := hwhy
        · exact absurd hline h
        · exact absurd hs h
        · simp [hs] at h
  · unfold gapReached
    cases hg : s.rx.gap with
    | none => simp
    | some g => simp [h g hg]
  · obtain ⟨-, heq⟩ | ⟨hne, -⟩ := endOfCt_cases s
    · exact congrArg Host.Outcome.next heq
    · exact absurd h hne
  · rintro ⟨hstate, hline, hreached⟩
    obtain h | h | h := h
    · exact h hstate
    · exact h hline
    · simp [silenceReached, startupLimit_eq] at hreached
      omega
  · unfold backoffReached
    cases hw : s.queue.wait with
    | none => simp
    | some k => simpa using h k hw
  · cases hx : s.tx with
    | none => simp [exec_transmissionCompletes_eq, execTransmissionCompletes, hx]
    | some x => simp [exec_transmissionCompletes_eq, execTransmissionCompletes, hx, h x hx]
  · cases hx : s.tx with
    | none => simp [exec_transmissionCollides_eq, execTransmissionCollides, hx]
    | some x => simp [exec_transmissionCollides_eq, execTransmissionCollides, hx, h x hx]
  · obtain h | h := h <;> simp [exec_validationDone_eq, execValidationDone, h]

/-! ### The reset (R122, R170, R190) -/

/-- Settles O4: every block by its reset value; of a state with no transmission and no entries the invariants are checked. -/
theorem hardwareResetValues : Obligations.HardwareResetValues := by
  refine ⟨fun s => ⟨_, rfl, rfl, rfl, rfl, rfl, rfl, fun n => ?_, rfl, rfl, rfl, rfl, rfl, rfl, fun i => ?_, rfl, rfl, rfl,
    fun m => ⟨RxMailbox.fresh .keep, ?_, rfl, rfl, rfl, rfl, rfl, rfl, rfl, rfl, rfl, rfl, rfl, rfl, rfl, fun i => ?_⟩,
    rfl, rfl, fun n => ?_, fun n => ?_, rfl, rfl, rfl, rfl, rfl, rfl, rfl, fun c => ?_, by simp [irqAsserted, State.reset], rfl, rfl,
    rfl, rfl⟩, ?_, fun bus hread => ?_⟩
  · simp [State.reset]
  · simp [State.reset, Bank.zero, Entry.zero]
  · simp [State.reset]
  · simp [RxMailbox.fresh, RxBuffer.zero]
  · simp [State.reset]
  · simp [State.reset, NodeEntry.fresh]
  · simp [counterValue, State.reset]
  · refine ⟨by decide, by decide, by decide, by decide, by decide, by decide, by decide, by decide, by decide, by decide,
      by decide, by decide, by decide, by decide, by decide, by decide, by decide⟩
  · simp [outputs, transmitData, driverEnable, irqAsserted, dataLines, BusPort.reads, hread, State.reset]

/-! ### START (R5, R72, R73, R178) -/

/-- The checks of START in the order of R72, each with the window offset of its parameter. -/
def paramChecks (p : Params) : List (Byte × Bool) :=
  let marks : List Byte := [p.om, p.cm, p.es]
  let passes (mark : Byte) (earlier : List Byte) : Bool := !earlier.contains mark && !marks.contains (~~~mark)
  [(0x00, p.role == 0 || p.role == 1), (0x01, p.address.toNat ≤ 239), (0x02, 16 ≤ p.div.toNat),
    (0x04, passes p.om []), (0x05, passes p.cm [p.om]), (0x06, passes p.es [p.om, p.cm]),
    (0x07, p.syncTolerance.toNat ≤ 15), (0x08, 1 ≤ p.syncLossLimit.toNat && p.syncLossLimit.toNat ≤ 7),
    (0x09, p.retryLimit.toNat ≤ 15)]

theorem find?_failed_cons (o : Byte) (ok : Bool) (rest : List (Byte × Bool)) :
    (((o, ok) :: rest).find? (fun c => !c.2)).map Prod.fst =
      if ok = false then some o else (rest.find? (fun c => !c.2)).map Prod.fst := by
  cases ok <;> rfl

theorem isMark_eq_contains (p : Params) (b : Byte) : isMark p b = ([p.om, p.cm, p.es] : List Byte).contains b := by
  simp [isMark, Bool.or_assoc, Bool.beq_eq_decide_eq]

theorem markFails_eq_true (p : Params) (earlier : List Byte) (mark : Byte) :
    markFails p earlier mark = true ↔
      (!earlier.contains mark && !([p.om, p.cm, p.es] : List Byte).contains (~~~mark)) = false := by
  rw [markFails, isMark_eq_contains, ← Bool.not_or, Bool.not_eq_false']

/-- The parameter that START refuses is that of the first check that fails (R72). -/
theorem paramFault_eq (p : Params) : paramFault p = ((paramChecks p).find? (fun c => !c.2)).map Prod.fst := by
  unfold paramFault paramChecks
  simp only [find?_failed_cons, List.find?_nil, Option.map_none]
  refine if_congr ?_ rfl (if_congr ?_ rfl (if_congr ?_ rfl (if_congr ?_ rfl (if_congr ?_ rfl (if_congr ?_ rfl
    (if_congr ?_ rfl (if_congr ?_ rfl (if_congr ?_ rfl rfl))))))))
  · simp
  · simp
  · simp
  · exact markFails_eq_true p _ _
  · exact markFails_eq_true p _ _
  · exact markFails_eq_true p _ _
  · simp
  · simp; omega
  · simp

theorem startAction_on {s : State} (hon : s.link.state ≠ .off) : startAction s = complete .badState s := if_pos hon

theorem startAction_off {s : State} (hoff : s.link.state = .off) :
    startAction s = match paramFault s.params with
      | some offset => completeWith .badParam offset 0 s
      | none => stayInFlight .start s := if_neg (not_not.mpr hoff)

/-- Settles O5: the refused parameter is the first failed check. -/
theorem startAnswers : Obligations.StartAnswers := by
  intro s hidle p marks passes checks
  have hexec : exec .start s = .next (startAction (takenAs 0x01 s)) := by
    rw [← command_of_not_inFlight hidle 0x01 startAction]; rfl
  have hfault : paramFault s.params = (checks.find? (fun c => !c.2)).map Prod.fst := paramFault_eq s.params
  rw [hexec]
  refine ⟨fun hon => ?_, fun hoff c hc => ?_, fun hoff hall => ?_⟩
  · rw [startAction_on (s := takenAs 0x01 s) hon]; rfl
  · have hparams : paramFault (takenAs 0x01 s).params = some c.1 := by rw [hc] at hfault; exact hfault
    rw [startAction_off (s := takenAs 0x01 s) hoff, hparams]; rfl
  · have hnone : checks.find? (fun c => !c.2) = none := by
      rw [List.find?_eq_none]
      intro c hc
      simp [hall c hc]
    have hparams : paramFault (takenAs 0x01 s).params = none := by rw [hnone] at hfault; exact hfault
    rw [startAction_off (s := takenAs 0x01 s) hoff, hparams]; rfl

/-! ### STOP, GO_SILENT and RESUME (R87 to R91) -/

/-- Where R111 lets no head wait, settling ends the wait. -/
theorem settleWait_none {s : State} (h : headMayWait s = false) :
    settleWait s = { s with queue := { s.queue with wait := none } } := by
  unfold settleWait
  rw [h]; rfl

/-- Where no head waits, a wait that R111 lets begin begins from 0. -/
theorem settleWait_begins {s : State} (h : s.queue.wait = none) :
    settleWait s = { s with queue := { s.queue with wait := if headMayWait s = true then some 0 else none } } := by
  unfold settleWait
  rw [h]; rfl

theorem stopAction_off {s : State} (hoff : s.link.state = .off) : stopAction s = complete .badState s := if_pos hoff

theorem stopAction_idle {s : State} (hon : s.link.state ≠ .off) (hidle : s.tx = none) :
    stopAction s = complete .ok (offState s) := by
  rw [← enterOff_eq hon]
  exact (if_neg hon).trans (if_pos (by rw [hidle]; rfl))

theorem stopAction_sending {s : State} (hon : s.link.state ≠ .off) (hstop : s.link.state ≠ .stopping) (hbusy : s.tx ≠ none) :
    stopAction s = { stayInFlight .stop s with
      link := { s.link with state := .stopping }
      irq := { s.irq with flags := s.irq.flags ||| 0x0020 }
      queue := { s.queue with wait := none } } := by
  have hsome : ¬s.tx.isNone = true := by simpa using hbusy
  have hnot : headMayWait (stayInFlight .stop (setLinkState .stopping s)) = false :=
    headMayWait_of_not_running (by simp [setLinkState_link])
  refine ((if_neg hon).trans (if_neg hsome)).trans ?_
  rw [settleWait_none hnot, setLinkState_other hstop]
  rfl

/-- With SILENT no head may wait (R87, R88, R111). -/
theorem goSilentAction_on {s : State} (hon : s.link.state ≠ .off) :
    goSilentAction s = complete .ok { s with
      link := { s.link with silent := true }, queue := { s.queue with wait := none } } := by
  have hnot : headMayWait { s with link := { s.link with silent := true } } = false := by simp [headMayWait]
  exact (if_neg hon).trans (congrArg (complete .ok) (settleWait_none hnot))

theorem resumeAction_clear {s : State} (h : s.link.silent = false) : resumeAction s = complete .badState s :=
  if_neg (by rw [h]; nofun)

theorem resumeAction_set {s : State} (h : s.link.silent = true) (hwait : s.queue.wait = none) :
    resumeAction s = complete .ok { s with
      link := { s.link with silent := false }
      queue := { s.queue with
        wait := if headMayWait { s with link := { s.link with silent := false } } = true then some 0 else none } } :=
  (if_pos h).trans (congrArg (complete .ok) (settleWait_begins (s := { s with link := { s.link with silent := false } }) hwait))

/-- Settles O6: each command by the state of the link and of the transmitter; with SILENT no head may wait. -/
theorem stopAndSilentCommands : Obligations.StopAndSilentCommands := by
  refine ⟨fun s hidle => ?_, fun s hidle => ?_⟩
  · have hexec : exec .stop s = .next (stopAction (takenAs 0x02 s)) := by
      rw [← command_of_not_inFlight hidle 0x02 stopAction]; rfl
    rw [hexec]
    refine ⟨fun hoff => ?_, fun hon htx => ?_, fun hon hstop htx => ?_⟩
    · rw [stopAction_off (s := takenAs 0x02 s) hoff]; rfl
    · rw [stopAction_idle (s := takenAs 0x02 s) hon htx]; rfl
    · rw [stopAction_sending (s := takenAs 0x02 s) hon hstop htx]; rfl
  · have hsilent : exec .goSilent s = .next (goSilentAction (takenAs 0x04 s)) := by
      rw [← command_of_not_inFlight hidle 0x04 goSilentAction]; rfl
    have hresume : exec .resume s = .next (resumeAction (takenAs 0x05 s)) := by
      rw [← command_of_not_inFlight hidle 0x05 resumeAction]; rfl
    rw [hsilent, hresume]
    refine ⟨fun hoff => ?_, fun hon => ?_, fun hclear => ?_, fun hset hwait => ?_⟩
    · exact congrArg Host.Outcome.next (if_pos hoff)
    · rw [goSilentAction_on (s := takenAs 0x04 s) hon]; rfl
    · rw [resumeAction_clear (s := takenAs 0x05 s) hclear]; rfl
    · rw [resumeAction_set (s := takenAs 0x05 s) hset hwait]; rfl

/-! ### HALT (R92, R107, R116, R180) -/

/-- What HALT abandons of the command in flight: an ARM's validation (R52, R92). -/
def abandonedBy (s : State) : State :=
  { s with sched := { s.sched with shadow := if s.cmd.inFlight = some .arm then .idle else s.sched.shadow } }

theorem abandonedBy_eq (s : State) :
    abandonedBy s = if s.cmd.inFlight = some .arm then { s with sched := { s.sched with shadow := .idle } } else s := by
  unfold abandonedBy
  split <;> rfl

theorem haltAction_off {s : State} (hoff : (cutTransmission (abandonCommand s)).link.state = .off) :
    haltAction s = finishedAs .ok 0 0 (cutTransmission (abandonCommand s)) := by
  unfold haltAction haltSteps
  simp only [hoff, if_true]
  rfl

theorem haltAction_on {s : State} (hon : (cutTransmission (abandonCommand s)).link.state ≠ .off) :
    haltAction s = finishedAs .ok 0 0 (offState (cutTransmission (abandonCommand s))) := by
  unfold haltAction haltSteps
  simp only [if_neg hon, enterOff_eq hon]
  rfl

theorem cutTransmission_idle {s : State} (h : s.tx = none) : cutTransmission s = s := by
  unfold cutTransmission
  rw [h]

theorem cutTransmission_sending {s : State} {x : Transmission} (h : s.tx = some x) :
    cutTransmission s = transmitterIdle (outcomeCut x.requester s) := by
  unfold cutTransmission
  rw [h]

theorem outcomeCut_slot {s : State} {m : Fin 24} {b : TxMailbox} (hb : s.boxes[m] = .tx b) :
    outcomeCut (.slot m) s = { s with boxes := put s.boxes m (.tx (deferred { b with state := .loaded })) } := by
  rw [outcomeCut, updateTx_tx hb, applyPending_eq]; rfl

theorem outcomeCut_event {s : State} {m : Fin 24} {b : TxMailbox} (hb : s.boxes[m] = .tx b) :
    outcomeCut (.event m) s = { s with boxes := put s.boxes m (.tx (deferred { b with state := .queued })) } := by
  rw [outcomeCut, updateTx_tx hb, applyPending_eq]; rfl

/-- Settles O7: the command in flight is abandoned, the frame is cut by its requester, and the link goes to OFF. -/
theorem haltAnswers : Obligations.HaltAnswers := by
  intro s abandoned
  have habandoned : abandoned = abandonedBy s := (abandonedBy_eq s).symm
  have hexec : exec .halt s = .next (haltAction (takenAs 0x03 s)) := rfl
  rw [hexec, habandoned]
  have hv := abandonCommand_eq (takenAs 0x03 s)
  have hlink : (cutTransmission (abandonCommand (takenAs 0x03 s))).link = s.link := by simp; rfl
  have hidle : s.tx = none → cutTransmission (abandonCommand (takenAs 0x03 s)) = abandonCommand (takenAs 0x03 s) :=
    fun htx => cutTransmission_idle (by rw [hv]; exact htx)
  refine ⟨fun htx hoff => ?_, fun htx hon => ?_, fun x hx hon => ?_⟩
  · rw [haltAction_off (by rw [hlink]; exact hoff), hidle htx, hv]; rfl
  · rw [haltAction_on (by rw [hlink]; exact hon), hidle htx, hv]; rfl
  · have hcut := cutTransmission_sending (s := abandonCommand (takenAs 0x03 s)) (x := x) (by rw [hv]; exact hx)
    have hboxes : (abandonCommand (takenAs 0x03 s)).boxes = s.boxes := by rw [hv]; rfl
    rw [haltAction_on (by rw [hlink]; exact hon), hcut]
    refine ⟨fun hr => ?_, fun m b hr hb => ?_, fun m b hr hb => ?_⟩
    · rw [hr, hv]; rfl
    · rw [hr, outcomeCut_slot (by rw [hboxes]; exact hb), hv]; rfl
    · rw [hr, outcomeCut_event (by rw [hboxes]; exact hb), hv]; rfl

end Sys2Proof.Machine
end

section
/-! # LINK_RESET (R93, R121, R124, R156, R180) -/

open Sys2Proof

namespace Sys2Proof.Machine

/-! ### What the HALT step leaves -/

/-- The mailboxes after a frame that is SENDING has been cut (R107, R116). -/
def cutBoxes (s : State) : Vector Mailbox 24 :=
  match s.tx with
  | none => s.boxes
  | some x => (outcomeCut x.requester s).boxes

section
variable {s : State}

theorem updateTx_eq_boxes (m : Fin 24) (f : TxMailbox → TxMailbox) (s : State) :
    updateTx m f s = { s with boxes := (updateTx m f s).boxes } := by
  unfold updateTx
  split <;> rfl

theorem outcomeCut_eq_boxes (r : Requester) (s : State) : outcomeCut r s = { s with boxes := (outcomeCut r s).boxes } := by
  cases r with
  | cycleStart => rfl
  | slot m => exact updateTx_eq_boxes m _ s
  | event m => exact updateTx_eq_boxes m _ s

/-- A cut ends the transmission and returns the receive side to HUNT (R14). -/
theorem cutTransmission_eq (s : State) :
    cutTransmission s = { s with
      tx := none
      boxes := cutBoxes s
      rx := if s.tx = none then s.rx else Receiver.hunting } := by
  unfold cutTransmission cutBoxes
  cases hx : s.tx with
  | none => simp [← hx]
  | some x =>
    simp only
    rw [outcomeCut_eq_boxes]; rfl

theorem haltSteps_off (hoff : s.link.state = .off) (htx : s.tx = none) : haltSteps s = abandonCommand s := by
  have hcut : cutTransmission (abandonCommand s) = abandonCommand s := cutTransmission_idle (by simpa using htx)
  unfold haltSteps
  simp only
  rw [hcut, if_pos (by simpa using hoff)]

theorem haltSteps_on (hon : s.link.state ≠ .off) :
    haltSteps s = offState { abandonCommand s with tx := none, boxes := cutBoxes (abandonCommand s) } := by
  have hlink : (cutTransmission (abandonCommand s)).link.state ≠ .off := by simpa using hon
  unfold haltSteps
  simp only
  rw [if_neg hlink, enterOff_eq hlink, cutTransmission_eq]
  rfl

/-! ### The mailbox whose frame is cut -/

theorem updateTx_get_same {m : Fin 24} {b : TxMailbox} (hb : s.boxes[m] = .tx b) (f : TxMailbox → TxMailbox) :
    (updateTx m f s).boxes[m] = .tx (f b) := by
  rw [updateTx_tx hb]
  exact put_get_same _ _ _

theorem updateTx_get_other {k m : Fin 24} (hne : m ≠ k) (f : TxMailbox → TxMailbox) (s : State) :
    (updateTx k f s).boxes[m] = s.boxes[m] := by
  unfold updateTx
  split
  · exact put_get_other _ _ _ _ hne
  · rfl

theorem updateTx_boxes_congr {t : State} (h : t.boxes = s.boxes) (m : Fin 24) (f : TxMailbox → TxMailbox) :
    (updateTx m f t).boxes = (updateTx m f s).boxes := by
  cases hb : s.boxes[m] with
  | tx b => rw [updateTx_tx hb, updateTx_tx (s := t) (by rw [h]; exact hb), h]
  | rx r => rw [updateTx_rx hb, updateTx_rx (s := t) (by rw [h]; exact hb), h]

theorem outcomeCut_boxes_congr {t : State} (h : t.boxes = s.boxes) (r : Requester) :
    (outcomeCut r t).boxes = (outcomeCut r s).boxes := by
  cases r with
  | cycleStart => exact h
  | slot m => exact updateTx_boxes_congr h m _
  | event m => exact updateTx_boxes_congr h m _

theorem cutBoxes_idle (h : s.tx = none) : cutBoxes s = s.boxes := by
  unfold cutBoxes
  rw [h]

theorem cutBoxes_sending {x : Transmission} (h : s.tx = some x) : cutBoxes s = (outcomeCut x.requester s).boxes := by
  unfold cutBoxes
  rw [h]

theorem cutBoxes_congr {t : State} (htx : t.tx = s.tx) (hboxes : t.boxes = s.boxes) : cutBoxes t = cutBoxes s := by
  cases hx : s.tx with
  | none => rw [cutBoxes_idle hx, cutBoxes_idle (htx.trans hx), hboxes]
  | some x => rw [cutBoxes_sending hx, cutBoxes_sending (htx.trans hx), outcomeCut_boxes_congr hboxes]

theorem cutBoxes_tx {m : Fin 24} {b : TxMailbox} (hb : s.boxes[m] = .tx b) :
    (cutBoxes s)[m] = .tx (
      if sendingEvent s = some m then deferred { b with state := .queued }
      else if sendingMailbox s = some m then deferred { b with state := .loaded }
      else b) := by
  cases hx : s.tx with
  | none =>
    rw [cutBoxes_idle hx]
    simpa only [sendingEvent, sendingMailbox, hx, reduceCtorEq, if_false] using hb
  | some x =>
    rw [cutBoxes_sending hx]
    cases hr : x.requester with
    | cycleStart => simpa only [sendingEvent, sendingMailbox, hx, hr, reduceCtorEq, if_false, outcomeCut] using hb
    | slot k =>
      simp only [sendingEvent, sendingMailbox, hx, hr, Option.some.injEq, reduceCtorEq, if_false, outcomeCut, applyPending_eq]
      by_cases hk : k = m
      · rw [if_pos hk, hk]; exact updateTx_get_same hb _
      · rw [if_neg hk]; exact (updateTx_get_other (Ne.symm hk) _ s).trans hb
    | event k =>
      simp only [sendingEvent, sendingMailbox, hx, hr, Option.some.injEq, outcomeCut, applyPending_eq]
      by_cases hk : k = m
      · rw [if_pos hk, hk]; exact updateTx_get_same hb _
      · rw [if_neg hk, if_neg hk]; exact (updateTx_get_other (Ne.symm hk) _ s).trans hb

theorem cutBoxes_rx {m : Fin 24} {r : RxMailbox} (hr : s.boxes[m] = .rx r) : (cutBoxes s)[m] = .rx r := by
  have hkept : ∀ (k : Fin 24) (f : TxMailbox → TxMailbox), (updateTx k f s).boxes[m] = .rx r := by
    intro k f
    by_cases hk : k = m
    · rw [updateTx_rx (hk ▸ hr)]; exact hr
    · exact (updateTx_get_other (Ne.symm hk) f s).trans hr
  cases hx : s.tx with
  | none => rw [cutBoxes_idle hx]; exact hr
  | some x =>
    rw [cutBoxes_sending hx]
    cases x.requester with
    | cycleStart => exact hr
    | slot k => exact hkept k _
    | event k => exact hkept k _

/-! ### LINK_RESET -/

/-- The state of the HALT step of a LINK_RESET taken (R92, R93). -/
theorem haltSteps_taken (htx : s.link.state = .off → s.tx = none) :
    haltSteps (takenAs 0x06 s) =
      if s.link.state = .off then { abandonedBy s with cmd := { (takenAs 0x06 s).cmd with inFlight := none } }
      else offState { abandonedBy s with tx := none, boxes := cutBoxes s, cmd := { (takenAs 0x06 s).cmd with inFlight := none } } := by
  have hv := abandonCommand_eq (takenAs 0x06 s)
  split
  next hoff => rw [haltSteps_off (s := takenAs 0x06 s) hoff (htx hoff), hv]; rfl
  next hon =>
    have hboxes : cutBoxes (abandonCommand (takenAs 0x06 s)) = cutBoxes s := cutBoxes_congr (by rw [hv]; rfl) (by rw [hv]; rfl)
    rw [haltSteps_on (s := takenAs 0x06 s) hon, hboxes, hv]; rfl

/-- What LINK_RESET makes of a mailbox after the cut: an event's mailbox that was QUEUED, or cut, is LOADED with retry count 0
(R107, R116, R121). -/
theorem linkReset_cut (b : TxMailbox) (event sending : Prop) [Decidable event] [Decidable sending] :
    (if event then deferred { b with state := .queued } else if sending then deferred { b with state := .loaded }
        else b).linkReset =
      if event then { deferred { b with state := .loaded } with retry := 0 }
      else if sending then deferred { b with state := .loaded }
      else if b.state = .queued then { b with state := .loaded, retry := 0 }
      else b := by
  split
  · cases hp : b.pendingCommit <;> simp [TxMailbox.linkReset, deferred, installed]
  · split
    · cases hp : b.pendingCommit <;> simp [TxMailbox.linkReset, deferred]
    · rfl

end

/-- The run-time state that LINK_RESET returns, whatever the state of its HALT step (R93, R121, R124, R156). -/
theorem resetRunTime_fields (w : State) :
    (∀ n : Fin 4, (resetRunTime w).points[n] = { w.points[n] with fired := false }) ∧
      (∀ c : Counter, counterValue c (resetRunTime w) = 0) ∧
      (∀ m : Fin 24, (resetRunTime w).boxes[m] = w.boxes[m].linkReset) ∧
      (∀ n : Fin 16, (resetRunTime w).nodes[n] = { w.nodes[n] with state := .unseen, misses := 0, lastHeard := 0 }) :=
  ⟨fun n => mapTable_get _ _ n, fun c => counterValue_zeroCounters c (clearFired w), fun m => mapTable_get _ _ m,
    fun n => mapTable_get _ _ n⟩

/-- An ARM in flight is abandoned, and an ARMED shadow is IDLE with entry to OFF (R52, R92). -/
theorem reset_sched (s : State) :
    (if s.link.state = .off then { abandonedBy s with cmd := { (takenAs 0x06 s).cmd with inFlight := none } }
      else offState { abandonedBy s with
        tx := none, boxes := cutBoxes s, cmd := { (takenAs 0x06 s).cmd with inFlight := none } } : State).sched =
      { s.sched with shadow :=
        if s.cmd.inFlight = some .arm ∨ (s.link.state ≠ .off ∧ s.sched.shadow = .armed) then .idle else s.sched.shadow } := by
  by_cases hoff : s.link.state = .off
  · simp [hoff, abandonedBy]
  · by_cases harm : s.cmd.inFlight = some .arm <;> simp [hoff, abandonedBy, offState, harm]

/-- Settles O8: the HALT step by the state of the link, then the run-time state field by field. -/
theorem linkResetRestoresRunTime : Obligations.LinkResetRestoresRunTime := by
  intro s htx
  have hw := haltSteps_taken htx
  have hboxes : (haltSteps (takenAs 0x06 s)).boxes = cutBoxes s := by
    rw [hw]
    split
    next hoff => exact (cutBoxes_idle (htx hoff)).symm
    · rfl
  refine ⟨complete .ok (resetRunTime (haltSteps (takenAs 0x06 s))), rfl, ?_⟩
  generalize haltSteps (takenAs 0x06 s) = w at hw hboxes
  obtain ⟨hpoints, hcounters, hboxes', hnodes⟩ := resetRunTime_fields w
  have htxBoxes : ∀ (m : Fin 24) (b : TxMailbox), s.boxes[m] = .tx b → (resetRunTime w).boxes[m] = .tx (
      if sendingEvent s = some m then { deferred { b with state := .loaded } with retry := 0 }
      else if sendingMailbox s = some m then deferred { b with state := .loaded }
      else if b.state = .queued then { b with state := .loaded, retry := 0 }
      else b) := by
    intro m b hb
    rw [hboxes' m, hboxes, cutBoxes_tx hb, Mailbox.linkReset, linkReset_cut]
  have hrxBoxes : ∀ (m : Fin 24) (r : RxMailbox), s.boxes[m] = .rx r → (resetRunTime w).boxes[m] = .rx
      { r with state := .empty, nextPresent := false, overrun := false, lost := 0, lastHeard := 0 } := by
    intro m r hr
    rw [hboxes' m, hboxes, cutBoxes_rx hr]; rfl
  have hkept : w.points = s.points ∧ w.nodes = s.nodes ∧ w.tx = none := by
    rw [hw]
    split
    next hoff => exact ⟨rfl, rfl, htx hoff⟩
    · exact ⟨rfl, rfl, rfl⟩
  rw [hkept.1] at hpoints
  rw [hkept.2.1] at hnodes
  have hsched := (congrArg State.sched hw).trans (reset_sched s)
  have hflags : w.irq.flags ||| 0x0080 = s.irq.flags ||| (if s.link.state = .off then 0x0080 else 0x00A0) := by
    rw [hw]
    by_cases hoff : s.link.state = .off
    · rw [if_pos hoff, if_pos hoff]; rfl
    · rw [if_neg hoff, if_neg hoff]
      exact BitVec.or_assoc s.irq.flags 0x0020 0x0080
  refine ⟨?_, ?_, ?_, hsched, ?_, ?_, rfl, hpoints, hcounters, rfl, htxBoxes, hrxBoxes, rfl, rfl, rfl, hnodes, hflags, ?_, ?_, ?_,
    ?_, ?_, ?_, hkept.2.2, ?_⟩
  · change w.link = _
    rw [hw]; split_ifs <;> rfl
  · change { w.timer with cycle := 0 } = _
    rw [hw]; split_ifs <;> rfl
  · change w.seq = _
    rw [hw]; split_ifs <;> rfl
  · change w.rx = _
    rw [hw]; split_ifs <;> rfl
  · change w.line = _
    rw [hw]; split_ifs <;> rfl
  · change w.params = _
    rw [hw]; split_ifs <;> rfl
  · change w.accept = _
    rw [hw]; split_ifs <;> rfl
  · change w.irq.enables = _
    rw [hw]; split_ifs <;> rfl
  · change w.irq.causes = _
    rw [hw]; split_ifs <;> rfl
  · change w.irq.fault = _
    rw [hw]; split_ifs <;> rfl
  · change w.win = _
    rw [hw]; split_ifs <;> rfl
  · change { w.cmd with result := .ok, detail := 0, detailIdx := 0, inFlight := none } = _
    rw [hw]; split_ifs <;> rfl

end Sys2Proof.Machine
end

section
/-! # The commands on banks and mailboxes, and lost commands (R45 to R53, R98 to R103, R109, R110, R117 to R119, R179) -/

open Sys2Proof

namespace Sys2Proof.Machine

section
variable {s : State}

/-! ### ARM, DISARM and the end of a validation (R49 to R51, R73) -/

theorem armAction_idle (h : s.sched.shadow = .idle) :
    armAction s = stayInFlight .arm { s with sched := { s.sched with shadow := .validating } } := if_pos h

theorem armAction_busy (h : s.sched.shadow ≠ .idle) : armAction s = complete .badState s := if_neg h

theorem disarmAction_armed (h : s.sched.shadow = .armed) :
    disarmAction s = complete .ok { s with sched := { s.sched with shadow := .idle } } := if_pos h

theorem disarmAction_unarmed (h : s.sched.shadow ≠ .armed) : disarmAction s = complete .badState s := if_neg h

theorem startValidated_fails {f : BankFault} (h : validate s.boxes (activeBank s) = some f) :
    startValidated s = finishedAs .badBank (BitVec.ofNat 8 f.reason) f.index s := by
  unfold startValidated
  rw [h]; rfl

theorem startValidated_passes (h : validate s.boxes (activeBank s) = none) (hoff : s.link.state = .off) :
    startValidated s = finishedAs .ok 0 0 { s with
      link := { s.link with state := if s.params.role = 1 then .starting else .listen, silence := 0 }
      rx := Receiver.hunting
      line := { level := .idle, idleTime := 0, ctIdle := false }
      irq := { s.irq with flags := s.irq.flags ||| 0x0020 } } := by
  have hrole : (if isMaster s then LinkState.starting else .listen) = if s.params.role = 1 then .starting else .listen := by
    simp [isMaster]
  have hother : s.link.state ≠ if s.params.role = 1 then .starting else .listen := by
    rw [hoff]; split <;> nofun
  unfold startValidated
  rw [h]
  simp only
  rw [hrole, setLinkState_other hother]
  rfl

theorem armValidated_fails {f : BankFault} (h : validate s.boxes (shadowBank s) = some f) :
    armValidated s = finishedAs .badBank (BitVec.ofNat 8 f.reason) f.index
      { s with sched := { s.sched with shadow := .idle } } := by
  unfold armValidated
  rw [h]; rfl

theorem armValidated_on (h : validate s.boxes (shadowBank s) = none) (hon : s.link.state ≠ .off) :
    armValidated s = finishedAs .ok 0 0 { s with sched := { s.sched with shadow := .armed } } := by
  unfold armValidated
  rw [h]
  exact if_neg hon

/-- A swap in any link state but RUNNING leaves the Cycle Timer (R53). -/
theorem exchangeBanks_of_not_running (h : s.link.state ≠ .running) :
    exchangeBanks s = { s with
      sched := { s.sched with active := s.sched.active.other, shadow := .idle }
      irq := { s.irq with flags := s.irq.flags ||| 0x0040, causes := { s.irq.causes with swap := true } } } := by
  unfold exchangeBanks
  simp only [h, if_false]
  rfl

theorem armValidated_off (h : validate s.boxes (shadowBank s) = none) (hoff : s.link.state = .off) :
    armValidated s = finishedAs .ok 0 0 { s with
      sched := { s.sched with active := s.sched.active.other, shadow := .idle }
      irq := { s.irq with flags := s.irq.flags ||| 0x0040, causes := { s.irq.causes with swap := true } } } := by
  unfold armValidated
  rw [h, ← exchangeBanks_of_not_running (by rw [hoff]; nofun)]
  exact if_pos hoff

end

/-- Settles O9: each command by the shadow's state, each end of a validation by what it finds. -/
theorem armingAndValidation : Obligations.ArmingAndValidation := by
  refine ⟨fun s hidle => ?_, fun s => ⟨fun hstart => ?_, fun harm => ?_⟩⟩
  · have harm : exec .arm s = .next (armAction (takenAs 0x10 s)) := by
      rw [← command_of_not_inFlight hidle 0x10 armAction]; rfl
    have hdisarm : exec .disarm s = .next (disarmAction (takenAs 0x11 s)) := by
      rw [← command_of_not_inFlight hidle 0x11 disarmAction]; rfl
    rw [harm, hdisarm]
    refine ⟨fun h => ?_, fun h => ?_, fun h => ?_, fun h => ?_⟩
    · rw [armAction_idle (s := takenAs 0x10 s) h]; rfl
    · rw [armAction_busy (s := takenAs 0x10 s) h]; rfl
    · rw [disarmAction_armed (s := takenAs 0x11 s) h]; rfl
    · rw [disarmAction_unarmed (s := takenAs 0x11 s) h]; rfl
  · have hexec : exec .validationDone s = .next (startValidated s) := by simp [exec_validationDone_eq, execValidationDone, hstart]
    rw [hexec]
    refine ⟨fun f h => ?_, fun h hoff => ?_⟩
    · rw [startValidated_fails h]
    · rw [startValidated_passes h hoff]; rfl
  · have hexec : exec .validationDone s = .next (armValidated s) := by simp [exec_validationDone_eq, execValidationDone, harm]
    rw [hexec]
    refine ⟨fun f h => ?_, fun h hon => ?_, fun h hoff => ?_⟩
    · rw [armValidated_fails h]
    · rw [armValidated_on h hon]
    · rw [armValidated_off h hoff]

/-! ### Commands on TX mailboxes (R99, R103, R109, R110) -/

/-- ARG0 names no mailbox or an RX mailbox (R177). -/
def NamesNoTx (s : State) : Prop :=
  23 < s.cmd.arg0.toNat ∨ ∃ (m : Fin 24) (r : RxMailbox), s.cmd.arg0.toNat = m.val ∧ s.boxes[m] = .rx r

section
variable {s : State} {m : Fin 24} {b : TxMailbox}

theorem onTx_of_named_none (h : namedMailbox s = none) (act : Fin 24 → TxMailbox → State → State) :
    onTx act s = complete .badArg s := by
  unfold onTx; rw [h]

theorem onTx_of_named_rx {r : RxMailbox} (hm : namedMailbox s = some m) (hr : s.boxes[m] = .rx r)
    (act : Fin 24 → TxMailbox → State → State) : onTx act s = complete .badArg s := by
  unfold onTx; rw [hm]; simp only [hr]

theorem onTx_of_named_tx (hm : namedMailbox s = some m) (hb : s.boxes[m] = .tx b)
    (act : Fin 24 → TxMailbox → State → State) : onTx act s = act m b s := by
  unfold onTx; rw [hm]; simp only [hb]

theorem command_onTx_badArg (h : s.cmd.inFlight = none) (hn : NamesNoTx s) (code : Byte)
    (act : Fin 24 → TxMailbox → State → State) : command code (onTx act) s = completedAs code .badArg 0 0 s := by
  rw [command_of_not_inFlight h]
  obtain habove | ⟨m, r, hm, hr⟩ := hn
  · exact onTx_of_named_none ((namedMailbox_takenAs code s).trans ((mailboxIndex_eq_none _).mpr habove)) act
  · exact onTx_of_named_rx (namedMailbox_takenAs_eq_some hm code) hr act

theorem command_onTx_tx (h : s.cmd.inFlight = none) (hm : s.cmd.arg0.toNat = m.val) (hb : s.boxes[m] = .tx b) (code : Byte)
    (act : Fin 24 → TxMailbox → State → State) : command code (onTx act) s = act m b (takenAs code s) := by
  rw [command_of_not_inFlight h]
  exact onTx_of_named_tx (namedMailbox_takenAs_eq_some hm code) hb act

/-! COMMIT by its checks (R99, R100). -/

theorem commitOn_pending (h : b.pendingCommit = true) : commitOn m b s = complete .inFlight s := if_pos h

theorem commitOn_long (h : b.pendingCommit = false) (hlong : 32 < b.staging.length.toNat) :
    commitOn m b s = complete .badArg s := (if_neg (by rw [h]; nofun)).trans (if_pos hlong)

theorem commitOn_locked (h : b.pendingCommit = false) (hle : b.staging.length.toNat ≤ 32) (hlocked : b.state = .locked) :
    commitOn m b s = complete .ok (setBox m (.tx { b with pendingCommit := true }) s) :=
  (if_neg (by rw [h]; nofun)).trans ((if_neg (not_lt.mpr hle)).trans (if_pos hlocked))

theorem commitOn_stored (h : b.pendingCommit = false) (hle : b.staging.length.toNat ≤ 32) (hfree : b.state ≠ .locked) :
    commitOn m b s = complete .ok (setBox m (.tx b.commit) s) :=
  (if_neg (by rw [h]; nofun)).trans ((if_neg (not_lt.mpr hle)).trans (if_neg hfree))

end

/-- Settles O10: the checks of COMMIT in their order, WITHDRAW by the mailbox's state. -/
theorem commitAndWithdraw : Obligations.CommitAndWithdraw := by
  refine ⟨⟨fun s hidle hn => congrArg Host.Outcome.next (command_onTx_badArg hidle hn 0x20 commitOn), fun s m b hidle hm hb => ?_⟩,
    fun s hidle hn => congrArg Host.Outcome.next (command_onTx_badArg hidle hn 0x21 withdrawOn), fun s m b hidle hm hb => ?_⟩
  · have hexec : exec .commit s = .next (commitOn m b (takenAs 0x20 s)) :=
      congrArg Host.Outcome.next (command_onTx_tx hidle hm hb 0x20 commitOn)
    rw [hexec]
    refine ⟨fun h => ?_, fun h hlong => ?_, fun h hle hs => ?_, fun h hle hs => ?_⟩
    · rw [commitOn_pending h]; rfl
    · rw [commitOn_long h hlong]; rfl
    · rw [commitOn_locked h hle hs]; rfl
    · rw [commitOn_stored h hle hs]; rfl
  · have hexec : exec .withdraw s = .next (withdrawOn m b (takenAs 0x21 s)) :=
      congrArg Host.Outcome.next (command_onTx_tx hidle hm hb 0x21 withdrawOn)
    rw [hexec]
    refine ⟨fun h => ?_, fun h => ?_, fun h => ?_, fun h => ?_⟩ <;> unfold withdrawOn <;> rw [h] <;> rfl

/-! ### The event queue (R108 to R110) -/

/-- A mailbox that leaves the queue takes the wait and the turned-away mark with it when it was the head (R110, R113). -/
theorem leaveQueue_eq (m : Fin 24) (s : State) :
    leaveQueue m s = { s with queue := {
      entries := s.queue.entries.filter (· ≠ m)
      wait := if s.queue.entries.head? = some m then none else s.queue.wait
      turnedAway := if s.queue.entries.head? = some m then false else s.queue.turnedAway } } := by
  have hfilter : s.queue.entries.filter (· != m) = s.queue.entries.filter (· ≠ m) :=
    List.filter_congr fun x _ => by by_cases hx : x = m <;> simp [hx]
  simp only [leaveQueue, hfilter, beq_iff_eq]

section
variable {s : State} {m : Fin 24} {b : TxMailbox}

theorem sendEventOn_state (hmode : b.mode = .event) (hstate : b.state ≠ .loaded) :
    sendEventOn m b s = complete (match b.state with
      | .free => .notReady
      | .queued => .duplicate
      | .locked | .loaded => .inFlight) s := by
  unfold sendEventOn
  rw [if_neg (not_not.mpr hmode)]
  cases h : b.state with
  | loaded => exact absurd h hstate
  | _ => rfl

theorem sendEventOn_full (hmode : b.mode = .event) (hstate : b.state = .loaded) (hfull : 8 ≤ s.queue.entries.length) :
    sendEventOn m b s = complete .queueFull s := by
  unfold sendEventOn
  rw [if_neg (not_not.mpr hmode), hstate]
  exact if_pos hfull

theorem sendEventOn_joins (hmode : b.mode = .event) (hstate : b.state = .loaded) (hroom : s.queue.entries.length < 8) :
    sendEventOn m b s = complete .ok (settleWait { s with
      boxes := put s.boxes m (.tx { b with state := .queued, retry := 0 })
      queue := { s.queue with entries := s.queue.entries ++ [m] } }) := by
  unfold sendEventOn
  rw [if_neg (not_not.mpr hmode), hstate]
  exact if_neg (not_le.mpr hroom)

theorem cancelEventOn_queued (hmode : b.mode = .event) (hstate : b.state = .queued) :
    cancelEventOn m b s = complete .ok (settleWait { s with
      boxes := put s.boxes m (.tx { b with state := .loaded })
      queue := {
        entries := s.queue.entries.filter (· ≠ m)
        wait := if s.queue.entries.head? = some m then none else s.queue.wait
        turnedAway := if s.queue.entries.head? = some m then false else s.queue.turnedAway } }) := by
  unfold cancelEventOn
  rw [if_neg (not_not.mpr hmode), hstate]
  exact congrArg (fun u => complete .ok (settleWait u)) (leaveQueue_eq m (setBox m (.tx { b with state := .loaded }) s))

theorem cancelEventOn_state (hmode : b.mode = .event) (hstate : b.state ≠ .queued) :
    cancelEventOn m b s = complete (if b.state = .locked then .inFlight else .badState) s := by
  unfold cancelEventOn
  rw [if_neg (not_not.mpr hmode)]
  cases h : b.state with
  | queued => exact absurd h hstate
  | _ => rfl

end

/-- Settles O11: the mailbox that ARG0 names decides the error, its state and the queue the effect. -/
theorem eventQueueCommands : Obligations.EventQueueCommands := by
  refine ⟨fun s hidle p hp => ?_, fun s m b hidle hm hb hmode => ?_, fun s m b hidle hm hb hmode => ?_⟩
  · have herror : ∀ (c : Instr) (code : Byte) (act : Fin 24 → TxMailbox → State → State),
        exec c s = .next (command code (onTx act) s) →
        (∀ m b u, b.mode ≠ .event → act m b u = complete .badArg u) →
        (23 < s.cmd.arg0.toNat → exec c s = .next (completedAs code .badArg 0 0 s)) ∧
        (∀ (m : Fin 24) (r : RxMailbox), s.cmd.arg0.toNat = m.val → s.boxes[m] = .rx r →
          exec c s = .next (completedAs code .badArg 0 0 s)) ∧
        (∀ (m : Fin 24) (b : TxMailbox), s.cmd.arg0.toNat = m.val → s.boxes[m] = .tx b → b.mode ≠ .event →
          exec c s = .next (completedAs code .badArg 0 0 s)) := by
      intro c code act hexec hact
      rw [hexec]
      refine ⟨fun habove => ?_, fun m r hm hr => ?_, fun m b hm hb hmode => ?_⟩
      · rw [command_onTx_badArg hidle (.inl habove)]
      · rw [command_onTx_badArg hidle (.inr ⟨m, r, hm, hr⟩)]
      · rw [command_onTx_tx hidle hm hb, hact m b _ hmode]; rfl
    simp only [List.mem_cons, List.not_mem_nil, or_false] at hp
    obtain rfl | rfl := hp
    · exact herror .sendEvent 0x22 sendEventOn rfl fun m b u hmode => if_pos hmode
    · exact herror .cancelEvent 0x23 cancelEventOn rfl fun m b u hmode => if_pos hmode
  · have hexec : exec .sendEvent s = .next (sendEventOn m b (takenAs 0x22 s)) :=
      congrArg Host.Outcome.next (command_onTx_tx hidle hm hb 0x22 sendEventOn)
    rw [hexec]
    refine ⟨fun h => ?_, fun h => ?_, fun h => ?_, fun h hfull => ?_, fun h hroom => ?_⟩
    · rw [sendEventOn_state hmode (by rw [h]; nofun), h]; rfl
    · rw [sendEventOn_state hmode (by rw [h]; nofun), h]; rfl
    · rw [sendEventOn_state hmode (by rw [h]; nofun), h]; rfl
    · rw [sendEventOn_full (s := takenAs 0x22 s) hmode h hfull]; rfl
    · rw [sendEventOn_joins (s := takenAs 0x22 s) hmode h hroom]; rfl
  · have hexec : exec .cancelEvent s = .next (cancelEventOn m b (takenAs 0x23 s)) :=
      congrArg Host.Outcome.next (command_onTx_tx hidle hm hb 0x23 cancelEventOn)
    rw [hexec]
    refine ⟨fun h => ?_, fun h => ?_, fun h => ?_⟩
    · rw [cancelEventOn_queued hmode h]; rfl
    · rw [cancelEventOn_state hmode (by rw [h]; nofun), if_pos h]; rfl
    · have hother : b.state ≠ .queued ∧ b.state ≠ .locked := by obtain h | h := h <;> rw [h] <;> exact ⟨nofun, nofun⟩
      rw [cancelEventOn_state hmode hother.1, if_neg hother.2]; rfl

/-! ### CONFIG_MAILBOX (R117 to R119) -/

/-- The codes of R117. -/
theorem mailboxOfCode_eq_none {code : Byte} : mailboxOfCode code = none ↔ code ∉ [0x00#8, 0x01, 0x10, 0x11, 0x12] := by
  unfold mailboxOfCode
  constructor
  · intro h
    (repeat' split at h) <;> cases h
    simp_all
  · intro h
    simp only [List.mem_cons, List.not_mem_nil, or_false, not_or] at h
    obtain ⟨h0, h1, h2, h3, h4⟩ := h
    exact (if_neg h0).trans ((if_neg h1).trans ((if_neg h2).trans ((if_neg h3).trans (if_neg h4))))

section
variable {s : State}

theorem configMailboxAction_badArg (h : namedMailbox s = none ∨ mailboxOfCode s.cmd.takenArg1 = none) :
    configMailboxAction s = complete .badArg s := by
  unfold configMailboxAction
  split
  · rfl
  · rfl
  next hm hbox => obtain h | h := h <;> simp_all

theorem configMailboxAction_named {m : Fin 24} {box : Mailbox} (hm : namedMailbox s = some m)
    (hbox : mailboxOfCode s.cmd.takenArg1 = some box) :
    configMailboxAction s =
      if s.link.state = .off then complete .ok (leaveQueue m (setBox m box s)) else complete .badState s := by
  unfold configMailboxAction
  rw [hm, hbox]

end

/-- Settles O13: the checks in their order, then the mailbox of the code at its starting values. -/
theorem configMailboxAnswers : Obligations.ConfigMailboxAnswers := by
  have hexec : ∀ s : State, s.cmd.inFlight = none → exec .configMailbox s = .next (configMailboxAction (takenAs 0x26 s)) :=
    fun s hidle => congrArg Host.Outcome.next (command_of_not_inFlight hidle 0x26 configMailboxAction)
  refine ⟨fun s hidle habove => ?_, fun s m hidle hm => ?_⟩
  · rw [hexec s hidle, configMailboxAction_badArg (.inl ((mailboxIndex_eq_none _).mpr habove))]; rfl
  · intro noBytes noFrame freshRx freshTx
    have hnamed := namedMailbox_takenAs_eq_some hm 0x26
    rw [hexec s hidle]
    refine ⟨fun hcode => ?_, fun hcode hon => ?_, fun p hp hcode hoff => ?_⟩
    · rw [configMailboxAction_badArg (.inr (mailboxOfCode_eq_none.mpr hcode))]; rfl
    · obtain ⟨box, hbox⟩ : ∃ box, mailboxOfCode s.cmd.arg1 = some box :=
        Option.ne_none_iff_exists'.mp fun h => mailboxOfCode_eq_none.mp h hcode
      rw [configMailboxAction_named hnamed (box := box) hbox]
      exact congrArg Host.Outcome.next (if_neg hon)
    · have hbox : mailboxOfCode s.cmd.arg1 = some p.2 := by
        rw [hcode]
        simp only [List.mem_cons, List.not_mem_nil, or_false] at hp
        obtain rfl | rfl | rfl | rfl | rfl := hp <;> rfl
      rw [configMailboxAction_named hnamed (box := p.2) hbox]
      refine congrArg Host.Outcome.next ((if_pos hoff).trans ?_)
      rw [leaveQueue_eq]; rfl

/-! ### The CMD_LOST mark (R179, R180) -/

section
variable {s t : State}

theorem writeCmd_of_inFlight {code : Byte} (h : s.cmd.inFlight ≠ none) (hcalm : ¬Urgent code) :
    writeCmd code s = { s with cmd := { s.cmd with lost := true } } := by
  obtain ⟨-, -, heq⟩ | ⟨hidle | hurgent, -⟩ := writeCmd_cases code s
  · exact heq
  · exact absurd hidle h
  · exact absurd hurgent hcalm

/-- A command that is lost sets the mark; a command taken keeps it. -/
theorem writeCmd_lost (code : Byte) (s : State) :
    (s.cmd.lost = true → (writeCmd code s).cmd.lost = true) ∧
      (s.cmd.inFlight = none ∨ Urgent code → (writeCmd code s).cmd.lost = s.cmd.lost) := by
  obtain ⟨hbusy, hcalm, heq⟩ | ⟨-, heq⟩ := writeCmd_cases code s <;> rw [heq]
  · exact ⟨fun _ => rfl, fun h => absurd h (not_or.mpr ⟨hbusy, hcalm⟩)⟩
  · have hkept : (actionOf code (takenAs code s)).cmd.lost = s.cmd.lost := by simp; rfl
    exact ⟨fun h => hkept.trans h, fun _ => hkept⟩

theorem writes_lost {a : BusAddress} {v : Byte} (hw : Writes s a v t) (hcmd : a ≠ 0x00) (hstat : a ≠ 0x11) :
    t.cmd.lost = s.cmd.lost := by
  cases hw with
  | cmd => exact absurd rfl hcmd
  | cmdstat => exact absurd rfl hstat
  | data => simp
  | _ => rfl

theorem acts_lost {c : Instr} (hc : Acts s c t) (hreset : c ≠ .hardwareReset) (hwrite : asWrite c = none) :
    t.cmd.lost = s.cmd.lost := by
  cases hc with
  | write hw => exact absurd (hw.symm.trans hwrite) nofun
  | hardwareReset => exact absurd rfl hreset
  | nothing => rfl
  | _ => simp

/-- A row that writes CMDSTAT is the row of CMDSTAT (R172). -/
theorem row_of_asWrite_cmdstat {c : Instr} {v : Byte} (hwf : c.wellFormed = true) (h : asWrite c = some (0x11, v)) :
    c = .cmdstatWrite v := by
  cases c
  case cmdstatWrite => cases h; rfl
  case registerWrite a v =>
    cases h
    have hown : (0x11 : BusAddress) ∉ ownRowRegisters := by simpa [Instr.wellFormed] using hwf
    exact absurd (by decide) hown
  case iflgWrite r _ => cases r <;> cases h
  case ienWrite r _ => cases r <;> cases h
  all_goals cases h

end

/-- The codes of the rows that a command in flight keeps from being taken are those of no HALT and no LINK_RESET (R179, R180). -/
theorem exec_lost {s : State} (h : s.cmd.inFlight ≠ none) {c : Instr} {code : Byte} (hrow : asWrite c = some (0x00, code))
    (hcalm : ¬Urgent code) : exec c s = .next { s with cmd := { s.cmd with lost := true } } := by
  rw [exec_of_asWrite hrow]
  exact congrArg Host.Outcome.next (writeCmd_of_inFlight h hcalm)

/-- Settles O15: a write of CMD is lost or taken, CMDSTAT alone clears the mark, and nothing else writes it. -/
theorem commandsWhileBusy : Obligations.CommandsWhileBusy := by
  refine ⟨fun s hbusy => ⟨fun c hc => ?_, fun code h3 h6 => ?_⟩, fun s v => rfl, fun c s t hwf hexec hreset hstat => ?_, rfl⟩
  · simp only [List.mem_cons, List.not_mem_nil, or_false] at hc
    obtain rfl | rfl | rfl | rfl | rfl | rfl | rfl | rfl | rfl | rfl | rfl | rfl | rfl | rfl := hc <;>
      exact exec_lost hbusy rfl (by unfold Urgent; decide)
  · have hcalm : ¬Urgent code := not_or.mpr ⟨h3, h6⟩
    exact ⟨exec_lost hbusy rfl hcalm, exec_lost hbusy rfl hcalm⟩
  · rcases hw : asWrite c with _ | ⟨a, v⟩
    · have hkept := acts_lost (acts_of_exec hexec) hreset hw
      exact ⟨fun h => hkept.trans h, fun _ => hkept⟩
    · have ht : t = busWrite a v s := by
        rw [exec_of_asWrite hw] at hexec
        exact (Host.Outcome.next.inj hexec).symm
      subst ht
      by_cases hcmd : a = 0x00
      · subst hcmd
        obtain ⟨hkeeps, hsame⟩ := writeCmd_lost v s
        refine ⟨hkeeps, fun hwhy => hsame ?_⟩
        obtain h | rfl | rfl | rfl | rfl | rfl | rfl | rfl := hwhy
        · exact .inl h
        · cases hw; exact .inr (.inl rfl)
        · cases hw; exact .inr (.inr rfl)
        all_goals cases hw
      · have hne : a ≠ 0x11 := fun h => hstat v (row_of_asWrite_cmdstat hwf (h ▸ hw))
        have hkept := writes_lost (busWrite_writes a v s) hcmd hne
        exact ⟨fun h => hkept.trans h, fun _ => hkept⟩

end Sys2Proof.Machine
end

section
/-! # Window space: the data port, the map and the layouts (R108, R165, R173 to R175, R181 to R189) -/

open Sys2Proof

namespace Sys2Proof.Machine

/-! ### The data port (R174, R175) -/

/-- Settles O17: the access is taken or refused, and the pointer advances over either. -/
theorem dataPort : Obligations.DataPort := by
  refine fun s => ⟨rfl, fun a ha => by simp [readWindow, ha, readByte], fun v => ⟨fun t ht => ?_, fun hnone => ?_⟩⟩
  · obtain ⟨-, -, -, -, -, -, -, -, -, hwin, -⟩ := writeByte_keeps ht
    have hwrite : writeWindow s.win.pointer v s = t := by unfold writeWindow; rw [ht]
    change Host.Outcome.next (advancePointer (writeWindow s.win.pointer v s)) = _
    rw [hwrite, advancePointer, hwin]
  · have hwrite : writeWindow s.win.pointer v s = recordRefusal s.win.pointer s := by unfold writeWindow; rw [hnone]
    change Host.Outcome.next (advancePointer (writeWindow s.win.pointer v s)) = _
    rw [hwrite]; rfl

/-! ### The window map (R184) -/

theorem toNat_address {n : Nat} (h : n < 0x2000) : (BitVec.ofNat 13 n).toNat = n := by
  rw [BitVec.toNat_ofNat]; omega

/-- The address of a place of the window map; an unmapped place has none of its own. -/
def WindowByte.address : WindowByte → Nat
  | .param i => i
  | .point n b => 0x0020 + 4 * n + b
  | .counter i => 0x0030 + i
  | .status i => 0x0040 + i
  | .queueView i => 0x0060 + i
  | .acceptance n b => 0x0080 + 4 * n + b
  | .header .a b => 0x0100 + b
  | .header .b b => 0x0108 + b
  | .node n b => 0x0180 + 8 * n + b
  | .entry .a i b => 0x0200 + 16 * i + b
  | .entry .b i b => 0x0400 + 16 * i + b
  | .mailbox m b => 0x0800 + 128 * m + b
  | .outside => 0x1FFF

theorem WindowByte.address_lt (w : WindowByte) : w.address < 0x2000 := by
  cases w with
  | header bank b => cases bank <;> simp only [WindowByte.address] <;> omega
  | entry bank i b => cases bank <;> simp only [WindowByte.address] <;> omega
  | _ => simp only [WindowByte.address]; omega

/-- Every place stands at its address. -/
theorem locate_address (w : WindowByte) : locate (BitVec.ofNat 13 w.address) = w := by
  have ha := toNat_address w.address_lt
  rcases w with i | ⟨n, b⟩ | i | i | i | ⟨n, b⟩ | ⟨_ | _, b⟩ | ⟨n, b⟩ | ⟨_ | _, i, b⟩ | ⟨m, b⟩ | _ <;>
    simp only [WindowByte.address] at ha ⊢ <;>
    unfold locate <;>
    simp (disch := omega) only [ha, dif_pos, dif_neg] <;>
    simp only [WindowByte.point.injEq, WindowByte.counter.injEq, WindowByte.status.injEq, WindowByte.queueView.injEq,
      WindowByte.acceptance.injEq, WindowByte.header.injEq, WindowByte.node.injEq, WindowByte.entry.injEq,
      WindowByte.mailbox.injEq, Fin.ext_iff, true_and] <;>
    omega

theorem locate_outside {a : WindowAddress} : locate a = .outside ↔
    ∀ r ∈ [(0x0000, 0x0009), (0x0020, 0x002F), (0x0030, 0x003A), (0x0040, 0x004F), (0x0060, 0x0068), (0x0080, 0x00BF),
      (0x0100, 0x0103), (0x0108, 0x010B), (0x0180, 0x01FF), (0x0200, 0x03FF), (0x0400, 0x05FF), (0x0800, 0x13FF)],
      ¬(r.1 ≤ a.toNat ∧ a.toNat ≤ r.2) := by
  constructor
  · intro h
    simp only [List.mem_cons, List.not_mem_nil, or_false, forall_eq_or_imp, forall_eq]
    unfold locate at h
    refine ⟨?_, ?_, ?_, ?_, ?_, ?_, ?_, ?_, ?_, ?_, ?_, ?_⟩ <;>
      (rintro ⟨hlow, hhigh⟩; simp (disch := omega) only [dif_pos, dif_neg, reduceCtorEq] at h)
  · simp only [List.mem_cons, List.not_mem_nil, or_false, forall_eq_or_imp, forall_eq]
    intro h
    unfold locate
    simp (disch := omega) only [dif_neg]

/-! ### What the records show (R108, R183, R186, R189) -/

theorem hiByte_eq_extract (w : Word) : hiByte w = w.extractLsb' 8 8 := by
  ext i hi; simp [hiByte]

theorem loByte_eq_extract (w : Word) : loByte w = w.extractLsb' 0 8 := by
  ext i hi; simp [loByte]

theorem bitByte_zero (b : Bool) : bitByte b 0 = if b then 1 else 0 := by cases b <;> rfl

/-- A mailbox's attention bit stands in the byte of its eight, from the last byte down. -/
theorem readStatus_attention (s : State) (m : Fin 24) :
    (readByte s (.status ⟨2 - m.val / 8, by omega⟩)).getLsbD (m % 8) = s.irq.attention.getLsbD m := by
  have hbit : m.val % 8 < 8 := Nat.mod_lt _ (by omega)
  obtain h | h | h : m.val / 8 = 0 ∨ m.val / 8 = 1 ∨ m.val / 8 = 2 := by omega
  all_goals simp only [readByte, h, readStatus, BitVec.getLsbD_setWidth, BitVec.getLsbD_ushiftRight, hbit, decide_true, Bool.true_and]
  all_goals congr 1; omega

theorem readStatus_nodeChange (s : State) (n : Fin 16) :
    (readByte s (.status ⟨4 - n.val / 8, by omega⟩)).getLsbD (n % 8) = s.irq.nodeChange.getLsbD n := by
  have hbit : n.val % 8 < 8 := Nat.mod_lt _ (by omega)
  obtain h | h : n.val / 8 = 0 ∨ n.val / 8 = 1 := by omega
  all_goals simp only [readByte, h, readStatus, BitVec.getLsbD_setWidth, BitVec.getLsbD_ushiftRight, hbit, decide_true, Bool.true_and]
  all_goals congr 1; omega

theorem readQueueView_place (s : State) (i : Fin 8) : readByte s (.queueView ⟨i + 1, by omega⟩) =
    if h : i < s.queue.entries.length then BitVec.ofNat 8 s.queue.entries[i] else 0xFF := by
  change readQueueView s.queue (i.val + 1) = _
  simp only [readQueueView, Nat.add_one_ne_zero, if_false, Nat.add_sub_cancel]
  by_cases h : i.val < s.queue.entries.length
  · rw [dif_pos h, List.getElem?_eq_getElem h]; rfl
  · rw [dif_neg h, List.getElem?_eq_none (by omega)]

theorem payloadByte_eq (p : Vector Byte Config.payloadBytes) (i : Fin 32) : payloadByte p i.val = p[i] := by
  have hi : i.val < Config.payloadBytes := i.isLt
  simp [payloadByte, hi]

theorem readTx_payload (t : TxMailbox) (i : Fin 32) :
    readTx t (0x20 + i) = t.content.payload[i] ∧ readTx t (0x60 + i) = t.staging.payload[i] := by
  constructor
  · unfold readTx; rw [if_pos (by omega), Nat.add_sub_cancel_left]; exact payloadByte_eq _ i
  · unfold readTx; rw [if_neg (by omega), if_pos (by omega), Nat.add_sub_cancel_left]; exact payloadByte_eq _ i

theorem readRx_payload (r : RxMailbox) (i : Fin 32) :
    readRx r (0x20 + i) = r.content.payload[i] ∧ readRx r (0x60 + i) = r.next.payload[i] := by
  constructor
  · unfold readRx; rw [if_pos (by omega), Nat.add_sub_cancel_left]; exact payloadByte_eq _ i
  · unfold readRx; rw [if_neg (by omega), if_pos (by omega), Nat.add_sub_cancel_left]; exact payloadByte_eq _ i

/-- The fields of a TX mailbox block beside its payloads. -/
theorem readTx_field (t : TxMailbox) {b : Nat} (hpayload : b < 0x20 ∨ 0x40 ≤ b) (hstaged : b < 0x60) :
    readTx t b = ([(0x00, configCode (.tx t)), (0x01, t.state.code), (0x02, if t.pendingCommit then 1 else 0),
      (0x03, BitVec.ofNat 8 t.retry), (0x04, t.lastOutcome.code), (0x10, t.content.destination), (0x11, t.content.tag),
      (0x12, t.content.sequence), (0x13, t.content.length), (0x40, t.staging.destination), (0x41, t.staging.tag),
      (0x43, t.staging.length)].lookup b).getD 0 := by
  unfold readTx; rw [if_neg (by omega), if_neg (by omega), bitByte_zero]
  split
  case h_13 => rw [List.lookup_eq_none_iff.mpr (by simp_all)]; rfl
  all_goals rfl

/-- The fields of an RX mailbox block beside its payloads. -/
theorem readRx_field (r : RxMailbox) {b : Nat} (hpayload : b < 0x20 ∨ 0x40 ≤ b) (hstaged : b < 0x60) :
    readRx r b = ([(0x00, configCode (.rx r)), (0x01, r.state.code),
      (0x02, (if r.contentValid then 1 else 0) + (if r.nextPresent then 2 else 0) + (if r.overrun then 4 else 0)),
      (0x03, r.lost), (0x04, r.lastHeard.extractLsb' 8 8), (0x05, r.lastHeard.extractLsb' 0 8),
      (0x10, r.content.source), (0x11, r.content.tag), (0x12, r.content.sequence), (0x13, r.content.length),
      (0x14, r.content.cycle.extractLsb' 8 8), (0x15, r.content.cycle.extractLsb' 0 8), (0x40, r.next.source),
      (0x41, r.next.tag), (0x42, r.next.sequence), (0x43, r.next.length), (0x44, r.next.cycle.extractLsb' 8 8),
      (0x45, r.next.cycle.extractLsb' 0 8)].lookup b).getD 0 := by
  have hmarks (x y z : Bool) : bitByte x 0 ||| bitByte y 1 ||| bitByte z 2 =
      (if x then 1 else 0) + (if y then 2 else 0) + (if z then 4 else 0) := by revert x y z; decide
  unfold readRx; rw [if_neg (by omega), if_neg (by omega), hmarks]
  simp only [hiByte_eq_extract, loByte_eq_extract]
  split
  case h_19 => rw [List.lookup_eq_none_iff.mpr (by simp_all)]; rfl
  all_goals rfl

/-- Settles O18: every place stands at its address, and every record's bytes are its fields. -/
theorem windowLayout : Obligations.WindowLayout := by
  refine ⟨⟨fun i => locate_address (.param i), fun n b => locate_address (.point n b), fun i => locate_address (.counter i),
    fun i => locate_address (.status i), fun i => locate_address (.queueView i), fun n b => locate_address (.acceptance n b),
    fun b => ⟨locate_address (.header .a b), locate_address (.header .b b)⟩, fun n b => locate_address (.node n b),
    fun i b => ⟨locate_address (.entry .a i b), locate_address (.entry .b i b)⟩, fun m b => locate_address (.mailbox m b),
    fun a => locate_outside⟩, fun s => ⟨readStatus_attention s, readStatus_nodeChange s, ?_, readQueueView_place s, ?_, ?_⟩⟩
  · exact BitVec.toNat_ofNat _ _
  · intro m t ht
    have hblock (b : Fin 128) : readByte s (.mailbox m b) = readTx t b := by simp only [readByte, ht, readMailbox]
    simp only [hblock]
    exact ⟨readTx_payload t, fun b => readTx_field t⟩
  · intro m r hr
    have hblock (b : Fin 128) : readByte s (.mailbox m b) = readRx r b := by simp only [readByte, hr, readMailbox]
    simp only [hblock]
    exact ⟨readRx_payload r, fun b => readRx_field r⟩

end Sys2Proof.Machine
end

section
/-! # Record layouts and code tables (R7, R117, R175, R181, R183, R185 to R189) -/

open Sys2Proof

namespace Sys2Proof.Machine

/-! ### The records, byte by byte -/

theorem readParam_places (p : Params) (i : Fin 10) : readParam p i =
    [p.role, p.address, p.div.extractLsb' 8 8, p.div.extractLsb' 0 8, p.om, p.cm, p.es, p.syncTolerance, p.syncLossLimit,
      p.retryLimit][i] := by
  fin_cases i <;> simp [readParam, hiByte_eq_extract, loByte_eq_extract]

theorem counter_places (s : State) (i : Fin 11) : s.irq.counters[i] = counterValue
    ([Counter.crcErr, .charErr, .escErr, .truncErr, .lenErr, .formatErr, .csMissed, .slotSkipped, .collisions, .stray,
      .unrouted][i]) s := by
  fin_cases i <;> rfl

theorem readAcceptance_places (e : AcceptanceEntry) (b : Fin 4) :
    readAcceptance e b = [e.valid, e.tag, e.source, e.mailbox][b] := by
  fin_cases b <;> rfl

theorem readNode_places (e : NodeEntry) (b : Fin 8) : readNode e b =
    [e.valid, e.address, BitVec.ofNat 8 e.threshold, e.state.code, BitVec.ofNat 8 e.misses, e.lastHeard.extractLsb' 8 8,
      e.lastHeard.extractLsb' 0 8, 0][b] := by
  fin_cases b <;> simp [readNode, hiByte_eq_extract, loByte_eq_extract]

theorem readHeader_places (k : Bank) (b : Fin 4) :
    readHeader k b = [k.id, k.length.extractLsb' 8 8, k.length.extractLsb' 0 8, k.count][b] := by
  fin_cases b <;> simp [readHeader, hiByte_eq_extract, loByte_eq_extract]

theorem readEntry_places (e : Entry) (b : Fin 16) : readEntry e b =
    ([e.start.extractLsb' 8 8, e.start.extractLsb' 0 8, e.window.extractLsb' 8 8, e.window.extractLsb' 0 8, e.kind, e.exponent,
      e.phase, e.mailbox, e.source][b.val]?).getD 0 := by
  fin_cases b <;> simp [readEntry, hiByte_eq_extract, loByte_eq_extract]

/-! ### Bits and numbers -/

theorem toNat_highByte {w : Nat} (x : BitVec w) (h : w ≤ 16) : ((x >>> 8).setWidth 8).toNat = x.toNat / 256 := by
  have hx : x.toNat < 2 ^ 16 := lt_of_lt_of_le x.isLt (Nat.pow_le_pow_right (by omega) h)
  rw [BitVec.toNat_setWidth, BitVec.toNat_ushiftRight, Nat.shiftRight_eq_div_pow, Nat.mod_eq_of_lt (by omega)]

theorem toNat_bitByte (b : Bool) : (bitByte b 0).toNat = if b then 1 else 0 := by cases b <;> rfl

theorem toNat_syncCauseByte (c : Causes) : (syncCauseByte c).toNat =
    (if c.missed then 1 else 0) + (if c.tolerance then 2 else 0) + (if c.lost then 4 else 0) +
      (if c.numberJump then 8 else 0) := by
  unfold syncCauseByte
  generalize c.missed = w, c.tolerance = x, c.lost = y, c.numberJump = z
  revert w x y z; decide

theorem toNat_bankLinkCauseByte (c : Causes) : (bankLinkCauseByte c).toNat =
    (if c.swap then 1 else 0) + (if c.mismatch then 2 else 0) + (if c.conflict then 16 else 0) +
      (if c.csBlocked then 32 else 0) := by
  unfold bankLinkCauseByte
  generalize c.swap = w, c.mismatch = x, c.conflict = y, c.csBlocked = z
  revert w x y z; decide

theorem toNat_faultByte (x y : Bool) :
    (bitByte x 0 ||| bitByte y 1).toNat = (if x then 1 else 0) + (if y then 2 else 0) := by
  revert x y; decide

/-! ### The code tables -/

theorem frameKind?_eq_getD (b : Byte) :
    frameKind? b = [none, some .cycleStart, some .slotData, some .eventData].getD b.toNat none := by
  revert b; decide

theorem entryKind?_eq_getD (b : Byte) :
    entryKind? b = [none, some .transmit, some .receive, some .openWindow].getD b.toNat none := by
  revert b; decide

/-- Settles O19: record by record, and table by table. -/
theorem layoutsAndCodes : Obligations.LayoutsAndCodes := by
  refine ⟨fun s => ⟨readParam_places s.params, fun n => ⟨toNat_bitByte _, toNat_bitByte _, toNat_highByte _ (by omega), ?_⟩,
    counter_places s, ?_, toNat_syncCauseByte _, toNat_bankLinkCauseByte _, toNat_faultByte _ _, toNat_highByte _ (by omega), ?_,
    fun h => ?_, fun h => ?_, rfl, hiByte_eq_extract _, loByte_eq_extract _, fun n => readAcceptance_places s.accept[n],
    fun n => readNode_places s.nodes[n], fun bank => readHeader_places (bankOf bank s),
    fun bank i => readEntry_places (bankOf bank s).entries[i]⟩,
    by decide, by decide, by decide, by decide, by decide, by decide, by decide, fun r => ?_, fun t => ?_, by decide,
    frameKind?_eq_getD, entryKind?_eq_getD, by decide⟩
  · exact BitVec.toNat_setWidth _ _
  · change (s.irq.pointStatus.setWidth 8).toNat = _
    rw [BitVec.toNat_setWidth]; omega
  · exact BitVec.toNat_setWidth _ _
  · change (BitVec.ofNat 8 s.sync.missed).toNat = _
    rw [BitVec.toNat_ofNat]; omega
  · change (BitVec.ofInt 8 s.sync.deviation).toInt = _
    obtain ⟨hlow, hhigh⟩ := h
    rw [BitVec.toInt_ofInt, Int.bmod_def]; omega
  · unfold configCode; rfl
  · unfold configCode; rfl

end Sys2Proof.Machine
end

section
/-! # Writes of window space (R35, R44, R71, R96, R125, R137, R144, R146, R162, R165, R175) -/

open Sys2Proof

namespace Sys2Proof.Machine

/-! ### What each collection takes -/

/-- The writes of window space that are taken, place by place. -/
inductive Takes (v : Byte) (s : State) : WindowByte → State → Prop
  | param (i : Fin 10) : paramsWritable s = true → Takes v s (.param i) { s with params := writeParam i v s.params }
  | point (n b : Fin 4) : Takes v s (.point n b) { s with points := put s.points n (writePoint b v s.points[n]) }
  | status (b : Fin 16) : Takes v s (.status b) { s with irq := writeStatus b v s.irq }
  | acceptance (n : Fin 16) (b : Fin 4) :
      Takes v s (.acceptance n b) { s with accept := put s.accept n (writeAcceptance b v s.accept[n]) }
  | header (bank : BankName) (b : Fin 4) : bankWritable bank s = true →
      Takes v s (.header bank b) (setBank bank (writeHeader b v (bankOf bank s)) s)
  | node (n : Fin 16) (b : Fin 8) (e : NodeEntry) : writeNode b v s.nodes[n] = some e →
      Takes v s (.node n b) { s with nodes := put s.nodes n e }
  | entry (bank : BankName) (i : Fin 32) (b : Fin 16) (e : Entry) : bankWritable bank s = true →
      writeEntry b v (bankOf bank s).entries[i] = some e →
      Takes v s (.entry bank i b) (setBank bank { bankOf bank s with entries := put (bankOf bank s).entries i e } s)
  | mailbox (m : Fin 24) (b : Fin 128) (x : Mailbox) : writeMailbox b v s.boxes[m] = some x →
      Takes v s (.mailbox m b) { s with boxes := put s.boxes m x }

theorem writeByte_takes {w : WindowByte} {v : Byte} {s t : State} (h : writeByte w v s = some t) : Takes v s w t := by
  cases w with
  | param i =>
    simp only [writeByte] at h
    split at h <;> cases h
    exact .param i ‹_›
  | point n b => cases h; exact .point n b
  | status b => cases h; exact .status b
  | acceptance n b => cases h; exact .acceptance n b
  | header bank b =>
    simp only [writeByte] at h
    split at h <;> cases h
    exact .header bank b ‹_›
  | node n b =>
    obtain ⟨e, he, rfl⟩ := Option.map_eq_some_iff.mp h
    exact .node n b e he
  | entry bank i b =>
    simp only [writeByte] at h
    split at h
    · obtain ⟨e, he, rfl⟩ := Option.map_eq_some_iff.mp h
      exact .entry bank i b e ‹_› he
    · cases h
  | mailbox m b =>
    obtain ⟨x, hx, rfl⟩ := Option.map_eq_some_iff.mp h
    exact .mailbox m b x hx
  | counter | queueView | outside => cases h

theorem paramsWritable_iff (s : State) : paramsWritable s = true ↔ s.link.state = .off ∧ s.cmd.inFlight ≠ some .start := by
  simp [paramsWritable]

theorem bankWritable_iff (bank : BankName) (s : State) :
    bankWritable bank s = true ↔ bank ≠ s.sched.active ∧ s.sched.shadow = .idle := by
  simp [bankWritable]

theorem writeNode_isSome (b : Fin 8) (v : Byte) (e : NodeEntry) : (writeNode b v e).isSome = true ↔ b ≠ 7 := by
  fin_cases b <;> simp [writeNode]

theorem writeEntry_isSome (b : Fin 16) (v : Byte) (e : Entry) : (writeEntry b v e).isSome = true ↔ b.val ≤ 8 := by
  fin_cases b <;> simp [writeEntry]

theorem writeStaging_isSome (b : Fin 128) (v : Byte) (g : Staging) :
    (writeStaging b v g).isSome = true ↔ b = 0x40 ∨ b = 0x41 ∨ b = 0x43 ∨ 0x60 ≤ b.val := by
  unfold writeStaging
  split_ifs with hpayload
  · simp [hpayload.1]
  · have hbelow : ¬0x60 ≤ b.val := fun h => hpayload ⟨h, b.isLt⟩
    simp only [Fin.ext_iff, hbelow, or_false]
    split <;> simp_all

theorem writeMailbox_isSome (b : Fin 128) (v : Byte) (x : Mailbox) : (writeMailbox b v x).isSome = true ↔
    ∃ t, x = .tx t ∧ t.pendingCommit = false ∧ (b = 0x40 ∨ b = 0x41 ∨ b = 0x43 ∨ 0x60 ≤ b.val) := by
  cases x with
  | rx r => simp [writeMailbox]
  | tx t => cases hp : t.pendingCommit <;> simp [writeMailbox, hp, ← writeStaging_isSome b v t.staging]

/-! ### A record reads back what was stored in it -/

theorem readParam_writeParam (i j : Fin 10) (v : Byte) (p : Params) :
    readParam (writeParam i v p) j = if j = i then v else readParam p j := by
  fin_cases i <;> fin_cases j <;> simp [readParam, writeParam, hiByte_mkWord, loByte_mkWord]

/-- The bits of a point's byte that its field keeps (R185). -/
def pointMask (b : Fin 4) : Byte := if b.val ≤ 1 then 0x01 else if b.val = 2 then 0x3F else 0xFF

theorem bitByte_getLsbD (v : Byte) : bitByte (v.getLsbD 0) 0 = v &&& 0x01 := by revert v; decide

theorem readPoint_writePoint (i j : Fin 4) (v : Byte) (p : HostPoint) :
    readPoint (writePoint i v p) j = if j = i then v &&& pointMask i else readPoint p j := by
  have hhigh : (((p.offset &&& 0x00FF) ||| (v.setWidth 14 <<< 8)) >>> 8).setWidth 8 = v &&& 0x3F := by
    ext k hk; interval_cases k <;> simp
  have hhighLow : ((p.offset &&& 0x00FF) ||| (v.setWidth 14 <<< 8)).setWidth 8 = p.offset.setWidth 8 := by
    ext k hk; interval_cases k <;> simp
  have hlow : ((p.offset &&& 0x3F00) ||| v.setWidth 14).setWidth 8 = v &&& 0xFF := by
    ext k hk; interval_cases k <;> simp
  have hlowHigh : (((p.offset &&& 0x3F00) ||| v.setWidth 14) >>> 8).setWidth 8 = (p.offset >>> 8).setWidth 8 := by
    ext k hk; interval_cases k <;> simp
  fin_cases i <;> fin_cases j <;>
    simp only [readPoint, writePoint, pointMask, bitByte_getLsbD, hhigh, hhighLow, hlow, hlowHigh] <;> rfl

theorem readAcceptance_writeAcceptance (i j : Fin 4) (v : Byte) (e : AcceptanceEntry) :
    readAcceptance (writeAcceptance i v e) j = if j = i then v else readAcceptance e j := by
  fin_cases i <;> fin_cases j <;> rfl

theorem readHeader_writeHeader (i j : Fin 4) (v : Byte) (k : Bank) :
    readHeader (writeHeader i v k) j = if j = i then v else readHeader k j := by
  fin_cases i <;> fin_cases j <;> simp [readHeader, writeHeader, hiByte_mkWord, loByte_mkWord]

theorem entries_writeHeader (i : Fin 4) (v : Byte) (k : Bank) : (writeHeader i v k).entries = k.entries := by
  fin_cases i <;> rfl

theorem readEntry_writeEntry {i j : Fin 16} {v : Byte} {e e' : Entry} (h : writeEntry i v e = some e') :
    readEntry e' j = if j = i then v else readEntry e j := by
  fin_cases i <;> simp only [writeEntry, Option.some.injEq, reduceCtorEq] at h <;> subst h <;> fin_cases j <;>
    simp [readEntry, hiByte_mkWord, loByte_mkWord]

theorem payloadByte_setPayloadByte (i j : Nat) (hi : i < 32) (v : Byte) (p : Vector Byte Config.payloadBytes) :
    payloadByte (setPayloadByte i v p) j = if j = i then v else payloadByte p j := by
  unfold payloadByte setPayloadByte
  have hsize : i < Config.payloadBytes := hi
  by_cases h : j = i
  · subst h; simp [hsize]
  · rw [if_neg h, Vector.getElem?_setIfInBounds_ne (Ne.symm h)]

theorem readTx_writeStaging {i j : Fin 128} {v : Byte} {t : TxMailbox} {g : Staging}
    (h : writeStaging i v t.staging = some g) :
    readTx { t with staging := g } j = if j = i then v else readTx t j := by
  unfold writeStaging at h
  split_ifs at h with hpayload
  · obtain rfl := Option.some.inj h
    unfold readTx
    by_cases hcontent : 0x20 ≤ j.val ∧ j.val < 0x40
    · rw [if_pos hcontent, if_neg (by omega), if_pos hcontent]
    · rw [if_neg hcontent, if_neg hcontent]
      by_cases hstaged : 0x60 ≤ j.val
      · have hsame : j.val - 0x60 = i.val - 0x60 ↔ j = i := by omega
        rw [if_pos hstaged, if_pos hstaged, payloadByte_setPayloadByte _ _ (by omega)]
        simp only [hsame]
      · rw [if_neg hstaged, if_neg hstaged, if_neg (by omega)]
        rfl
  · unfold readTx
    split at h <;> cases h
    all_goals
      simp only [Fin.ext_iff, *]
      split_ifs with hcontent hsame hstaged hsame hsame
      · omega
      · rfl
      · omega
      · rfl
      · simp only [hsame]
      · split <;> simp_all [configCode]

theorem readMailbox_writeMailbox {i j : Fin 128} {v : Byte} {x y : Mailbox} (h : writeMailbox i v x = some y) :
    readMailbox y j = if j = i then v else readMailbox x j := by
  unfold writeMailbox at h
  split at h
  · cases h
  · split_ifs at h
    obtain ⟨g, hg, rfl⟩ := Option.map_eq_some_iff.mp h
    exact readTx_writeStaging hg

theorem staging_of_writeMailbox {i : Fin 128} {v : Byte} {x y : Mailbox} (h : writeMailbox i v x = some y) :
    ∃ t g, x = .tx t ∧ y = .tx { t with staging := g } := by
  unfold writeMailbox at h
  split at h
  · cases h
  · split_ifs at h
    obtain ⟨g, -, rfl⟩ := Option.map_eq_some_iff.mp h
    exact ⟨_, g, rfl, rfl⟩

/-! ### Window space after a stored write -/

theorem bankOf_setBank_same (bank : BankName) (k : Bank) (s : State) : bankOf bank (setBank bank k s) = k := by
  cases bank <;> rfl

theorem bankOf_setBank_other {bank other : BankName} (h : other ≠ bank) (k : Bank) (s : State) :
    bankOf other (setBank bank k s) = bankOf other s := by
  cases bank with
  | a => cases other with
    | a => exact absurd rfl h
    | b => rfl
  | b => cases other with
    | a => rfl
    | b => exact absurd rfl h

/-- The bits of a byte that its place keeps (R185). -/
def keptBits : WindowByte → Byte
  | .point _ b => pointMask b
  | _ => 0xFF

theorem and_allBits (v : Byte) : v &&& 255#8 = v := BitVec.and_allOnes

/-- A taken write into a record of a table. -/
theorem put_reads {α : Type} {n : Nat} {v : Vector α n} {i j : Fin n} {x : α} {read : α → Byte} {value : Byte} {c : Prop}
    [Decidable c] (hsame : j = i → read x = if c then value else read v[i]) :
    read (put v i x)[j] = if j = i ∧ c then value else read v[j] := by
  by_cases h : j = i
  · subst h
    rw [put_get_same, hsame rfl]
    simp only [true_and]
  · rw [put_get_other _ _ _ _ h, if_neg (fun hc => h hc.1)]

/-- What every place holds after a write that stores. -/
theorem readByte_taken {w other : WindowByte} {v : Byte} {s t : State} (h : Takes v s w t) (hstatus : ∀ b, w ≠ .status b)
    (hnode : ∀ n b, w ≠ .node n b) :
    readByte t other = if other = w then v &&& keptBits w else readByte s other := by
  cases h with
  | status b => exact absurd rfl (hstatus b)
  | node n b => exact absurd rfl (hnode n b)
  | param i =>
    cases other with
    | param j => simp [readByte, keptBits, and_allBits, readParam_writeParam]
    | _ => rfl
  | point n b =>
    cases other with
    | point m c =>
      refine (put_reads (read := (readPoint · c)) fun _ => readPoint_writePoint b c v s.points[n]).trans ?_
      simp [readByte, keptBits]
    | _ => rfl
  | acceptance n b =>
    cases other with
    | acceptance m c =>
      refine (put_reads (read := (readAcceptance · c)) fun _ => readAcceptance_writeAcceptance b c v s.accept[n]).trans ?_
      simp [readByte, keptBits, and_allBits]
    | _ => rfl
  | mailbox m b x hx =>
    cases other with
    | mailbox k c =>
      refine (put_reads (read := (readMailbox · c)) fun _ => readMailbox_writeMailbox hx).trans ?_
      simp [readByte, keptBits, and_allBits]
    | _ => rfl
  | header bank b =>
    cases other with
    | header bank' c =>
      by_cases hbank : bank' = bank
      · subst hbank
        simp [readByte, bankOf_setBank_same, readHeader_writeHeader, keptBits, and_allBits]
      · simp [readByte, bankOf_setBank_other hbank, hbank]
    | entry bank' i c =>
      by_cases hbank : bank' = bank
      · subst hbank
        simp [readByte, bankOf_setBank_same, entries_writeHeader]
      · simp [readByte, bankOf_setBank_other hbank]
    | _ => cases bank <;> rfl
  | entry bank i b e _ he =>
    cases other with
    | header bank' c =>
      by_cases hbank : bank' = bank
      · subst hbank
        simp [readByte, bankOf_setBank_same, readHeader]
      · simp [readByte, bankOf_setBank_other hbank]
    | entry bank' j c =>
      by_cases hbank : bank' = bank
      · subst hbank
        simp only [readByte, bankOf_setBank_same]
        refine (put_reads (read := (readEntry · c)) fun _ => readEntry_writeEntry he).trans ?_
        simp [keptBits, and_allBits]
      · simp [readByte, bankOf_setBank_other hbank, hbank]
    | _ => cases bank <;> rfl

/-- The state outside window space after a write that stores (R175). -/
theorem state_taken {w : WindowByte} {v : Byte} {s t : State} (h : Takes v s w t) (hstatus : ∀ b, w ≠ .status b) :
    t = { s with
      params := t.params, points := t.points, sched := { s.sched with bankA := t.sched.bankA, bankB := t.sched.bankB }
      boxes := t.boxes, accept := t.accept, nodes := t.nodes } := by
  cases h with
  | status b => exact absurd rfl (hstatus b)
  | header bank | entry bank => cases bank <;> rfl
  | _ => rfl

theorem fired_writePoint (b : Fin 4) (v : Byte) (p : HostPoint) : (writePoint b v p).fired = p.fired := by
  fin_cases b <;> rfl

theorem fired_taken {w : WindowByte} {v : Byte} {s t : State} (h : Takes v s w t) (n : Fin 4) :
    t.points[n].fired = s.points[n].fired := by
  cases h with
  | point m b =>
    by_cases hn : n = m
    · subst hn
      simp only [put_get_same]
      exact fired_writePoint b v _
    · simp only [put_get_other _ _ _ _ hn]
  | header bank | entry bank => cases bank <;> rfl
  | _ => rfl

/-- A write that is taken leaves a mailbox as it was, or changes the staging of a TX mailbox (R96). -/
theorem box_taken {w : WindowByte} {v : Byte} {s t : State} (h : Takes v s w t) (m : Fin 24) :
    t.boxes[m] = s.boxes[m] ∨ ∃ b g, s.boxes[m] = .tx b ∧ t.boxes[m] = .tx { b with staging := g } := by
  cases h with
  | mailbox k b x hx =>
    by_cases hm : m = k
    · subst hm
      simp only [put_get_same]
      exact .inr (staging_of_writeMailbox hx)
    · exact .inl (put_get_other _ _ _ _ hm)
  | header bank | entry bank => cases bank <;> exact .inl rfl
  | _ => exact .inl rfl

theorem isSome_ite {α : Type} {c : Prop} [Decidable c] (x : α) : (if c then some x else none).isSome = true ↔ c := by
  split <;> simp_all

/-- Settles O20: what each collection takes, what it then holds, and what stays. -/
theorem windowWrites : Obligations.WindowWrites := by
  refine ⟨fun v s => ⟨fun i => (isSome_ite _).trans (paramsWritable_iff s), fun _ _ => rfl, fun _ => rfl, fun _ => rfl,
    fun _ => rfl, fun _ _ => rfl, fun bank b => (isSome_ite _).trans (bankWritable_iff bank s), fun n b => ?_,
    fun bank i b => ?_, fun m b => ?_, rfl⟩, fun w v s t h hstatus hnode => ?_, fun w v s t h hstatus => ?_⟩
  · rw [writeByte, Option.isSome_map]
    exact writeNode_isSome b v _
  · rw [writeByte, ← and_assoc, ← bankWritable_iff]
    split_ifs with hbank
    · rw [Option.isSome_map, writeEntry_isSome]; simp [hbank]
    · simp [hbank]
  · rw [writeByte, Option.isSome_map]
    exact writeMailbox_isSome b v _
  · have hread (other : WindowByte) := readByte_taken (other := other) (writeByte_takes h) hstatus hnode
    refine ⟨?_, fun other hother => (hread other).trans (if_neg hother)⟩
    rw [hread, if_pos rfl]
    cases w <;> rfl
  · have htaken := writeByte_takes h
    refine ⟨state_taken htaken hstatus, fired_taken htaken, fun m b hb => ?_, fun m x hx => ?_⟩
    · obtain hsame | ⟨b', g, hb', ht⟩ := box_taken htaken m
      · exact ⟨b.staging, hsame.trans hb⟩
      · obtain rfl := Mailbox.tx.inj (hb.symm.trans hb')
        exact ⟨g, ht⟩
    · obtain hsame | ⟨b, g, hb, -⟩ := box_taken htaken m
      · exact hsame.trans hx
      · rw [hx] at hb; cases hb

end Sys2Proof.Machine
end

section
/-! # Writes that are taken without storing: status bytes and node entries (R144, R146, R162, R165, R186) -/

open Sys2Proof

namespace Sys2Proof.Machine

/-! ### Status bytes -/

/-- Clearing bits of one byte of a register shows in that byte. -/
theorem byte_cleared_same {w : Nat} (x : BitVec w) (v : Byte) (place : Nat) :
    ((x &&& ~~~(v.setWidth w <<< place)) >>> place).setWidth 8 = (x >>> place).setWidth 8 &&& ~~~v := by
  ext i hi
  by_cases h : place + i < w
  · simp [h, hi]
  · simp [BitVec.getLsbD_of_ge, Nat.le_of_not_lt h]

/-- Clearing bits of one byte of a register leaves its other bytes. -/
theorem byte_cleared_other {w : Nat} (x : BitVec w) (v : Byte) {place other : Nat}
    (h : place + 8 ≤ other ∨ other + 8 ≤ place) :
    ((x &&& ~~~(v.setWidth w <<< place)) >>> other).setWidth 8 = (x >>> other).setWidth 8 := by
  ext i hi
  by_cases hw : other + i < w
  · obtain h | h := h
    · have hge : 8 ≤ other + i - place := by omega
      simp [hw, BitVec.getLsbD_of_ge, hge]
    · have hlt : other + i < place := by omega
      simp [hw, hlt]
  · simp [BitVec.getLsbD_of_ge, Nat.le_of_not_lt hw]

theorem lowByte_cleared_same {w : Nat} (x : BitVec w) (v : Byte) :
    (x &&& ~~~v.setWidth w).setWidth 8 = x.setWidth 8 &&& ~~~v := by
  simpa using byte_cleared_same x v 0

theorem byte_cleared_low {w : Nat} (x : BitVec w) (v : Byte) {place : Nat} (h : 8 ≤ place) :
    ((x &&& ~~~v.setWidth w) >>> place).setWidth 8 = (x >>> place).setWidth 8 := by
  simpa using byte_cleared_other x v (place := 0) (other := place) (.inl (by omega))

theorem getElem_bitByte (b : Bool) (i j : Nat) (hj : j < 8) : (bitByte b i)[j] = (b && decide (i = j)) := by
  cases b
  · simp [bitByte]
  · simp only [bitByte, if_true, BitVec.getElem_twoPow, Bool.true_and]
    exact decide_eq_decide.mpr eq_comm

theorem syncCauseByte_cleared (v : Byte) (c : Causes) :
    syncCauseByte (clearSyncCauses v c) = syncCauseByte c &&& ~~~v := by
  apply BitVec.eq_of_getLsbD_eq
  intro i hi
  interval_cases i <;> simp [syncCauseByte, clearSyncCauses, getElem_bitByte]

theorem bankLinkCauseByte_cleared (v : Byte) (c : Causes) :
    bankLinkCauseByte (clearBankLinkCauses v c) = bankLinkCauseByte c &&& ~~~v := by
  apply BitVec.eq_of_getLsbD_eq
  intro i hi
  interval_cases i <;> simp [bankLinkCauseByte, clearBankLinkCauses, getElem_bitByte]

theorem bankLinkCauseByte_kept (v : Byte) (c : Causes) : bankLinkCauseByte (clearSyncCauses v c) = bankLinkCauseByte c := rfl

theorem syncCauseByte_kept (v : Byte) (c : Causes) : syncCauseByte (clearBankLinkCauses v c) = syncCauseByte c := rfl

theorem clearFault_of_bit_clear {v : Byte} (f : FaultRecord) (h : v[0] = false) :
    clearFault v f = { f with multiple := f.multiple && !v.getLsbD 1 } :=
  if_neg (by rw [BitVec.getLsbD_eq_getElem (by omega), h]; decide)

theorem faultByte_cleared {v : Byte} (f : FaultRecord) (h : v[0] = false) :
    bitByte (clearFault v f).present 0 ||| bitByte (clearFault v f).multiple 1 =
      (bitByte f.present 0 ||| bitByte f.multiple 1) &&& ~~~v := by
  rw [clearFault_of_bit_clear f h]
  apply BitVec.eq_of_getLsbD_eq
  intro i hi
  interval_cases i <;> simp [h, getElem_bitByte]

theorem readStatus_cleared {b : Fin 16} {v : Byte} (s : State) (h : b.val < 8 ∨ (b = 8 ∧ v.getLsbD 0 = false)) :
    readStatus { s with irq := writeStatus b v s.irq } b = readStatus s b &&& ~~~v := by
  obtain h | ⟨rfl, h⟩ := h
  · obtain ⟨b, hb⟩ := b
    simp only at h
    interval_cases b
    · exact byte_cleared_same _ _ _
    · exact byte_cleared_same _ _ _
    · exact lowByte_cleared_same _ _
    · exact byte_cleared_same _ _ _
    · exact lowByte_cleared_same _ _
    · exact lowByte_cleared_same _ _
    · exact syncCauseByte_cleared v _
    · exact bankLinkCauseByte_cleared v _
  · exact faultByte_cleared _ h

theorem readStatus_other {b c : Fin 16} {v : Byte} (s : State) (h : b.val < 8 ∨ (b = 8 ∧ v.getLsbD 0 = false)) (hc : c ≠ b) :
    readStatus { s with irq := writeStatus b v s.irq } c = readStatus s c := by
  have hb : b.val ≤ 8 := by
    obtain h | ⟨rfl, -⟩ := h
    · exact Nat.le_of_lt h
    · exact le_rfl
  obtain ⟨b, hb'⟩ := b
  simp only at hb
  interval_cases b <;> fin_cases c <;>
    simp_all [readStatus, writeStatus, byte_cleared_other, byte_cleared_low, and_allBits,
      bankLinkCauseByte_kept, syncCauseByte_kept, clearFault_of_bit_clear]

theorem writeStatus_value {b : Fin 16} (v : Byte) (u : InterruptUnit) (h : 9 ≤ b.val) : writeStatus b v u = u := by
  obtain ⟨b, hb⟩ := b
  simp only at h
  interval_cases b <;> rfl

theorem writeStatus_flags (b : Fin 16) (v : Byte) (u : InterruptUnit) :
    (writeStatus b v u).flags = u.flags ∧ (writeStatus b v u).enables = u.enables ∧
      (writeStatus b v u).counters = u.counters := by
  fin_cases b <;> exact ⟨rfl, rfl, rfl⟩

/-! ### Node entries -/

theorem clampThreshold_eq (v : Byte) : clampThreshold v = if v = 0 then 1 else if 15 < v.toNat then 15 else v.toNat := by
  unfold clampThreshold
  by_cases hzero : v = 0
  · subst hzero; rfl
  · have hpos : v.toNat ≠ 0 := fun h => hzero (BitVec.eq_of_toNat_eq h)
    rw [if_neg hzero]
    split <;> omega

theorem writeNode_eq {b : Fin 8} (v : Byte) (e : NodeEntry) (h : b ≠ 7) : writeNode b v e = some { e with
    valid := if b = 0 then v else e.valid
    address := if b = 1 then v else e.address
    threshold := if b = 2 then (if v = 0 then 1 else if 15 < v.toNat then 15 else v.toNat) else e.threshold
    state := .unseen
    misses := 0 } := by
  rw [← clampThreshold_eq]
  fin_cases b
  exacts [rfl, rfl, rfl, rfl, rfl, rfl, rfl, absurd rfl h]

/-- Settles O21: byte by byte of the status area, and every field byte of a node entry. -/
theorem statusAndNodeTableWrites : Obligations.StatusAndNodeTableWrites := by
  refine ⟨fun b v s => ?_, fun n b v s hb => by rw [writeByte, writeNode_eq v _ hb]; rfl⟩
  obtain ⟨hflags, henables, hcounters⟩ := writeStatus_flags b v s.irq
  refine ⟨_, rfl, rfl, hflags, henables, fun h => ?_, fun hb hv => ?_, fun hb => ?_⟩
  · refine ⟨readStatus_cleared s h, fun other hother => ?_⟩
    cases other with
    | status c => exact readStatus_other s h (fun hc => hother (congrArg _ hc))
    | counter c => simp only [readByte, hcounters]
    | _ => rfl
  · subst hb
    change { s.irq with fault := clearFault v s.irq.fault } = _
    rw [clearFault, if_pos hv]
  · rw [writeStatus_value v s.irq hb]

end Sys2Proof.Machine
end

section
/-! # Direct registers, interrupt registers, the line and the outputs (R3, R4, R13, R157 to R161, R171, R172, R176, R183) -/

open Sys2Proof

namespace Sys2Proof.Machine

/-! ### What no happening changes -/

/-- Nothing but a write of IEN0 or IEN1 and a hardware reset changes the enables (R160). -/
theorem enables_acts {c : Instr} {s t : State} (h : Acts s c t) (hreset : c ≠ .hardwareReset)
    (h0 : ∀ v, asWrite c ≠ some (0x0B, v)) (h1 : ∀ v, asWrite c ≠ some (0x0C, v)) : t.irq.enables = s.irq.enables := by
  cases h with
  | @write _ a v hw =>
    generalize hu : busWrite a v s = u
    have hwrites : Writes s a v u := hu ▸ busWrite_writes a v s
    cases hwrites with
    | enables0 => exact absurd hw (h0 v)
    | enables1 => exact absurd hw (h1 v)
    | _ => simp
  | hardwareReset => exact absurd rfl hreset
  | _ => simp

/-- Nothing but a read of POS_L and a hardware reset changes the snapshot (R176). -/
theorem snapshot_acts {c : Instr} {s t : State} (h : Acts s c t) (hreset : c ≠ .hardwareReset) (hread : c ≠ .posLRead) :
    t.win.snapshotHigh = s.win.snapshotHigh ∧ t.win.snapshotCycle = s.win.snapshotCycle := by
  cases h with
  | @write _ a v hw =>
    generalize hu : busWrite a v s = u
    have hwrites : Writes s a v u := hu ▸ busWrite_writes a v s
    cases hwrites <;> simp
  | hardwareReset => exact absurd rfl hreset
  | posLRead => exact absurd rfl hread
  | _ => simp

/-! ### Flags, enables and the request line (R158, R160, R161) -/

theorem registerBits_bit (r : FlagRegister) (v : Byte) (f : Flag) :
    (registerBits r v).getLsbD f.bit = ((f.bit < 8 ↔ r = .reg0) && v.getLsbD (f.bit % 8)) := by
  cases r <;> cases f <;> simp [registerBits, Flag.bit]

theorem registerMask_bit (r : FlagRegister) (f : Flag) : (registerMask r).getLsbD f.bit = decide (f.bit < 8 ↔ r = .reg0) := by
  cases r <;> cases f <;> decide

theorem Flag.bit_lt (f : Flag) : f.bit < 14 := by cases f <;> decide

theorem exists_flag_of_bit {i : Nat} (h : i < 14) : ∃ f : Flag, f.bit = i := by
  interval_cases i
  exacts [⟨.cycle, rfl⟩, ⟨.point, rfl⟩, ⟨.mbx, rfl⟩, ⟨.event, rfl⟩, ⟨.sync, rfl⟩, ⟨.link, rfl⟩, ⟨.bank, rfl⟩, ⟨.cmd, rfl⟩,
    ⟨.node, rfl⟩, ⟨.lineErr, rfl⟩, ⟨.collision, rfl⟩, ⟨.slot, rfl⟩, ⟨.overrun, rfl⟩, ⟨.winFault, rfl⟩]

theorem flagSet_clearFlags (r : FlagRegister) (v : Byte) (f : Flag) (s : State) :
    flagSet f (clearFlags r v s) = (flagSet f s && !((f.bit < 8 ↔ r = .reg0) && v.getLsbD (f.bit % 8))) := by
  rw [← registerBits_bit]
  simp [flagSet, clearFlags, f.bit_lt]

theorem enables_writeEnables (r : FlagRegister) (v : Byte) (f : Flag) (s : State) :
    (writeEnables r v s).irq.enables.getLsbD f.bit =
      if f.bit < 8 ↔ r = .reg0 then v.getLsbD (f.bit % 8) else s.irq.enables.getLsbD f.bit := by
  simp only [writeEnables, BitVec.getLsbD_or, BitVec.getLsbD_and, BitVec.getLsbD_not, registerBits_bit, registerMask_bit,
    f.bit_lt]
  split <;> simp_all

theorem irqAsserted_iff (s : State) :
    irqAsserted s = true ↔ ∃ f : Flag, flagSet f s = true ∧ s.irq.enables.getLsbD f.bit = true := by
  have hbits : irqAsserted s = true ↔ ¬∀ i < 14, (s.irq.flags &&& s.irq.enables).getLsbD i = (0#14).getLsbD i := by
    rw [irqAsserted, bne_iff_ne]
    exact not_congr ⟨fun h i _ => by rw [h]; rfl, BitVec.eq_of_getLsbD_eq⟩
  rw [hbits]
  simp only [BitVec.getLsbD_and, BitVec.getLsbD_zero, not_forall, Bool.not_eq_false, Bool.and_eq_true, flagSet]
  constructor
  · rintro ⟨i, hi, hset⟩
    obtain ⟨f, rfl⟩ := exists_flag_of_bit hi
    exact ⟨f, hset⟩
  · rintro ⟨f, hset⟩
    exact ⟨f.bit, f.bit_lt, hset⟩

/-- A well-formed row that writes IEN0 or IEN1 is the row of that write (R172). -/
theorem ienWrite_of_asWrite {c : Instr} (hwf : c.wellFormed = true) {v : Byte} :
    (asWrite c = some (0x0B, v) → c = .ienWrite .reg0 v) ∧ (asWrite c = some (0x0C, v) → c = .ienWrite .reg1 v) := by
  cases c
  case iflgWrite r _ => cases r <;> simp [asWrite]
  case ienWrite r _ => cases r <;> simp [asWrite]
  case registerWrite a w =>
    have hown : a ∉ ownRowRegisters := by simpa [Instr.wellFormed] using hwf
    constructor <;> intro h <;> cases h <;> exact absurd (by decide) hown
  all_goals simp [asWrite]

theorem lowByte_eq_extract {w : Nat} (x : BitVec w) : x.setWidth 8 = x.extractLsb' 0 8 := by
  ext i hi; simp

theorem highByte_eq_append (x : BitVec 14) : (x >>> 8).setWidth 8 = 0#2 ++ x.extractLsb' 8 6 := by
  apply BitVec.eq_of_toNat_eq
  rw [toNat_highByte _ (by omega), BitVec.toNat_append, BitVec.extractLsb'_toNat, Nat.shiftRight_eq_div_pow]
  simp
  omega

/-- Settles O22: bit by bit of the two registers. -/
theorem flagsEnablesAndRequestLine : Obligations.FlagsEnablesAndRequestLine := by
  refine ⟨fun r v s => ⟨clearFlags r v s, by cases r <;> rfl, rfl, fun f => flagSet_clearFlags r v f s⟩,
    ⟨fun r v s => ⟨writeEnables r v s, by cases r <;> rfl, rfl, fun f => enables_writeEnables r v f s⟩, fun s => ?_,
      fun c s t hwf hexec hrow => ⟨?_, fun hreset => ?_⟩⟩, irqAsserted_iff⟩
  · exact ⟨lowByte_eq_extract _, highByte_eq_append _⟩
  · rintro rfl
    obtain rfl : { State.reset with pending := s.pending } = t := Host.Outcome.next.inj hexec
    rfl
  · obtain ⟨h0, h1⟩ : (∀ v, asWrite c ≠ some (0x0B, v)) ∧ ∀ v, asWrite c ≠ some (0x0C, v) :=
      ⟨fun v h => hrow _ v ((ienWrite_of_asWrite hwf).1 h), fun v h => hrow _ v ((ienWrite_of_asWrite hwf).2 h)⟩
    exact enables_acts (acts_of_exec hexec) hreset h0 h1

/-! ### The snapshot and the other direct registers (R171, R172, R176, R183) -/

theorem toNat_positionBits {s : State} (h : s.timer.position < 0x4000) : (positionBits s).toNat = s.timer.position := by
  rw [positionBits, BitVec.toNat_ofNat]; omega

theorem positionBits_low (s : State) : (positionBits s).setWidth 8 = BitVec.ofNat 8 s.timer.position := by
  apply BitVec.eq_of_toNat_eq
  rw [positionBits, BitVec.toNat_setWidth, BitVec.toNat_ofNat, BitVec.toNat_ofNat]; omega

theorem positionBits_high {s : State} (h : s.timer.position < 0x4000) :
    (positionBits s >>> 8).setWidth 6 = BitVec.ofNat 6 (s.timer.position / 256) := by
  apply BitVec.eq_of_toNat_eq
  rw [BitVec.toNat_setWidth, BitVec.toNat_ushiftRight, toNat_positionBits h, BitVec.toNat_ofNat, Nat.shiftRight_eq_div_pow]

/-- A read of POS_L latches the rest of the position and the cycle number (R176). -/
theorem exec_posLRead {s : State} (h : s.timer.position < 0x4000) : exec .posLRead s = .next { s with win := { s.win with
    readData := some (BitVec.ofNat 8 s.timer.position)
    snapshotHigh := BitVec.ofNat 6 (s.timer.position / 256)
    snapshotCycle := s.timer.cycle } } := by
  rw [← positionBits_low, ← positionBits_high h]
  rfl

theorem toNat_snapshotHigh {n : Nat} (h : n < 64) : ((BitVec.ofNat 6 n).setWidth 8).toNat = n := by
  rw [BitVec.toNat_setWidth, BitVec.toNat_ofNat]; omega

theorem hiByte_append_loByte (w : Word) : hiByte w ++ loByte w = w := by
  rw [← mkWord_eq_append, mkWord_hiByte_loByte]

theorem busWrite_nothing {a : BusAddress} (h : a ∈ [0x03#5, 0x04, 0x08, 0x0D, 0x0E, 0x0F, 0x10, 0x12] ∨ 0x13 ≤ a.toNat)
    (v : Byte) (s : State) : busWrite a v s = s := by
  generalize hu : busWrite a v s = u
  have hwrites : Writes s a v u := hu ▸ busWrite_writes a v s
  cases hwrites with
  | nothing => rfl
  | _ => exact absurd h (by decide)

theorem readRegister_unused {a : BusAddress} (h : 0x13 ≤ a.toNat) (s : State) : readRegister a s = 0 := by
  unfold readRegister
  split <;> first | rfl | omega

theorem toNat_lstat (s : State) : (lstat s).toNat = s.link.state.code.toNat + (if s.params.role = 1 then 8 else 0) +
    (if s.link.silent then 16 else 0) + (if s.sched.active = .b then 32 else 0) + 64 * s.sched.shadow.code.toNat := by
  have hfields (l : LinkState) (x : ShadowState) (bank : BankName) (silent master : Bool) :
      ((x.code <<< 6) ||| bitByte (bank == .b) 5 ||| bitByte silent 4 ||| bitByte master 3 ||| l.code).toNat =
        l.code.toNat + (if master then 8 else 0) + (if silent then 16 else 0) + (if bank = .b then 32 else 0) +
          64 * x.code.toNat := by
    cases l <;> cases x <;> cases bank <;> cases silent <;> cases master <;> rfl
  have hmaster : (s.params.role = 1) = (isMaster s = true) := by simp [isMaster]
  simp only [hmaster]
  exact hfields _ _ _ _ _

theorem toNat_cmdstat (lost inFlight : Bool) :
    (bitByte lost 1 ||| bitByte inFlight 0).toNat = (if inFlight then 1 else 0) + (if lost then 2 else 0) := by
  revert lost inFlight; decide

/-- Settles O23: the snapshot, then register by register. -/
theorem directRegisters : Obligations.DirectRegisters := by
  refine ⟨⟨fun s hpos => ⟨_, exec_posLRead hpos, rfl, toNat_snapshotHigh (by omega), hiByte_append_loByte _⟩, fun c s t hexec hread => ⟨?_, fun hreset => ?_⟩⟩, fun v s =>
    ⟨rfl, rfl, fun a ha => congrArg Host.Outcome.next (busWrite_nothing ha v s), fun a ha => readRegister_unused ha s, rfl, rfl,
      rfl, rfl, rfl, rfl, toNat_lstat s, lowByte_eq_extract _, highByte_eq_append _, positionBits_low s, toNat_cmdstat _ _⟩⟩
  · rintro rfl
    obtain rfl : { State.reset with pending := s.pending } = t := Host.Outcome.next.inj hexec
    exact ⟨rfl, rfl⟩
  · exact snapshot_acts (acts_of_exec hexec) hreset hread

/-! ### The line, readback and the outputs (R3, R4, R13, R161, R171, R190) -/

theorem receiving_on {s : State} (h : s.link.state ≠ .off) : receiving s = true := by
  simpa [receiving] using h

theorem exec_characterComplete {s : State} (hon : s.link.state ≠ .off) (hlevel : s.line.level = .character) (v : Byte) :
    exec (.characterComplete v) s = .next (completeCharacter v s) :=
  if_pos ⟨receiving_on hon, hlevel⟩

theorem exec_stopBitError {s : State} (hon : s.link.state ≠ .off) (hlevel : s.line.level = .character) :
    exec .stopBitError s = .next (characterFails s) :=
  if_pos ⟨receiving_on hon, hlevel⟩

/-- While SENDING a character is judged as readback alone (R13). -/
theorem completeCharacter_sending {s : State} {x : Transmission} (h : s.tx = some x) (v : Byte) :
    completeCharacter v s =
      { s with line := { s.line with level := .idle, idleTime := 0 }, tx := some (judgeReadback v x) } := by
  simp only [completeCharacter, lineBecomesIdle, h]

theorem judgeReadback_current {x : Transmission} {sent : Byte} (hc : x.collided = false) (hsent : x.chars[x.index]? = some sent)
    (v : Byte) : judgeReadback v x = if v = sent then { x with index := x.index + 1 } else { x with collided := true } := by
  simp only [judgeReadback, hc, hsent]

theorem characterFails_sending {s : State} {x : Transmission} {sent : Byte} (h : s.tx = some x)
    (hsent : x.chars[x.index]? = some sent) :
    characterFails s = { s with line := { s.line with level := .heldLow }, tx := some { x with collided := true } } := by
  obtain ⟨hlt, -⟩ := List.getElem?_eq_some_iff.mp hsent
  simp only [characterFails, h, readbackError, if_pos hlt]

/-- Settles O24. -/
theorem lineAndOutputs : Obligations.LineAndOutputs := by
  refine ⟨fun s hon => ⟨fun hidle => if_pos ⟨receiving_on hon, hidle⟩, fun hlow => if_pos ⟨receiving_on hon, hlow⟩⟩,
    fun s x sent hx hon hlevel hc hsent => ⟨?_, fun v hv => ?_, ?_⟩, fun bus s => ⟨?_, fun hx => ?_, fun x hx c hchar => ?_,
      irqAsserted_iff s, fun h => ?_, fun h => ?_⟩, fun s => ⟨rfl, rfl⟩, rfl⟩
  · rw [exec_characterComplete hon hlevel, completeCharacter_sending hx, judgeReadback_current hc hsent, if_pos rfl]
  · rw [exec_characterComplete hon hlevel, completeCharacter_sending hx, judgeReadback_current hc hsent, if_neg hv]
  · rw [exec_stopBitError hon hlevel, characterFails_sending hx hsent]
  · exact Option.isSome_iff_ne_none
  · simp only [outputs, transmitData, hx]
  · simp only [outputs, transmitData, Option.mem_def.mp hx, hchar]
  · obtain ⟨-, -, -, hdata⟩ | ⟨hnot, -⟩ := dataLines_cases bus s
    · exact hdata
    · obtain ⟨h1, h2, h3⟩ := h
      simp [h1, h2, h3] at hnot
  · obtain ⟨h1, h2, h3, -⟩ | ⟨-, hdata⟩ := dataLines_cases bus s
    · simp [h1, h2, h3] at h
    · exact hdata

end Sys2Proof.Machine
end

section
/-! # A character heard: the frame assembly and its abandonment (R3, R15 to R19, R21, R63, R66) -/

open Sys2Proof

namespace Sys2Proof.Machine

variable {s : State} {v : Byte}

/-! ### The rules of a good character -/

/-- The character after ES, where it is the complement of a mark, stands for that mark (R17). -/
theorem unescape?_eq (p : Params) (c : Byte) : unescape? p c = if isMark p (~~~c) then some (~~~c) else none := by
  have hswap (m : Byte) : c = ~~~m ↔ ~~~c = m := ⟨fun h => by rw [h, BitVec.not_not], fun h => by rw [← h, BitVec.not_not]⟩
  simp only [unescape?, hswap, isMark, Bool.or_eq_true, beq_iff_eq]
  split_ifs <;> simp_all

theorem completeCharacter_receiving (h : s.tx = none) (v : Byte) :
    completeCharacter v s = settleWait (takeCharacter v (lineBecomesIdle s)) := by
  unfold completeCharacter
  simp only [lineBecomesIdle, h]

/-- An assembly that is lost to an error: the slot sequencer is told after the error is counted (R18, R19, R20). -/
def dropAssembly (k : Counter) (s : State) : State := slotFrameEnded (lineError k { s with rx := Receiver.hunting })

theorem abandonAssembly_of_assembly (k : Counter) (h : s.rx.assembly ≠ .hunt) : abandonAssembly k s = dropAssembly k s :=
  if_neg h

theorem abandonAssembly_counted (k : Counter) (h : s.rx.assembly ≠ .hunt) :
    abandonAssembly k (countCharacter s) = dropAssembly k s := if_neg h

theorem waitOk_dropAssembly (k : Counter) (h : WaitOk s) : WaitOk (dropAssembly k s) := waitOk_slotFrameEnded h

theorem opened_isOpenWindow (sl : Slot) : (sl.opened.body == .openWindow) = (sl.body == .openWindow) := by
  rcases sl with ⟨i, a, e, m, src, _ | ⟨_ | _ | _, _⟩ | _⟩ <;> rfl

theorem openWindowOpen_openAssembly (s : State) : openWindowOpen (openAssembly s) = openWindowOpen s := by
  rw [openAssembly, slotFrameOpened_eq]
  unfold openWindowOpen
  cases s.seq.slot with
  | none => rfl
  | some sl => exact opened_isOpenWindow sl

theorem waitOk_openAssembly (h : WaitOk s) : WaitOk (openAssembly s) := by
  have hmay : headMayWait (openAssembly s) = headMayWait s := by
    unfold headMayWait headQueued
    rw [openWindowOpen_openAssembly]
    simp [openAssembly]
  unfold WaitOk
  rw [hmay]
  simpa [openAssembly] using h

theorem takeCharacter_hunt (h : s.rx.assembly = .hunt) : takeCharacter v s = if v = s.params.om then openAssembly s else s := by
  simp only [takeCharacter, h]

theorem takeCharacter_inFrame (h : s.rx.assembly = .inFrame) : takeCharacter v s =
    if v = s.params.om then openAssembly (abandonAssembly .truncErr (countCharacter s))
    else if v = s.params.cm then endAssembly (countCharacter s)
    else if v = s.params.es then
      { s with rx := { assembly := .escaped, buffer := s.rx.buffer, count := s.rx.count + 1, gap := some 0 } }
    else appendByte v (countCharacter s) := by
  simp only [takeCharacter, h]
  rfl

theorem takeCharacter_opens (h : s.rx.assembly = .inFrame) (hv : v = s.params.om) :
    takeCharacter v s = openAssembly (dropAssembly .truncErr s) := by
  have hne : s.rx.assembly ≠ .hunt := by rw [h]; decide
  rw [takeCharacter_inFrame h, if_pos hv, abandonAssembly_counted _ hne]

theorem takeCharacter_closes (h : s.rx.assembly = .inFrame) (hv : v = s.params.cm) (hom : v ≠ s.params.om) :
    takeCharacter v s = endAssembly (countCharacter s) := by
  rw [takeCharacter_inFrame h, if_neg hom, if_pos hv]

theorem takeCharacter_escapes (h : s.rx.assembly = .inFrame) (hv : v = s.params.es) (hom : v ≠ s.params.om)
    (hcm : v ≠ s.params.cm) : takeCharacter v s =
      { s with rx := { assembly := .escaped, buffer := s.rx.buffer, count := s.rx.count + 1, gap := some 0 } } := by
  rw [takeCharacter_inFrame h, if_neg hom, if_neg hcm, if_pos hv]

theorem takeCharacter_plain (h : s.rx.assembly = .inFrame) (hv : isMark s.params v = false) :
    takeCharacter v s = appendByte v (countCharacter s) := by
  simp only [isMark, Bool.or_eq_false_iff, beq_eq_false_iff_ne] at hv
  obtain ⟨⟨hom, hcm⟩, hes⟩ := hv
  rw [takeCharacter_inFrame h, if_neg hom, if_neg hcm, if_neg hes]

theorem takeCharacter_restored (h : s.rx.assembly = .escaped) (hv : isMark s.params (~~~v) = true) :
    takeCharacter v s = appendByte (~~~v) (countCharacter s) := by
  have hmark : unescape? s.params v = some (~~~v) := by rw [unescape?_eq, if_pos hv]
  simp only [takeCharacter, h, escapedCharacter, countCharacter, hmark]

theorem takeCharacter_badEscape (h : s.rx.assembly = .escaped) (hv : isMark s.params (~~~v) = false) :
    takeCharacter v s =
      if v = s.params.om then openAssembly (dropAssembly .escErr s) else dropAssembly .escErr s := by
  have hne : s.rx.assembly ≠ .hunt := by rw [h]; decide
  have hmark : unescape? s.params v = none := by rw [unescape?_eq, if_neg (by rw [hv]; decide)]
  rw [← abandonAssembly_counted _ hne]
  simp only [takeCharacter, h, escapedCharacter]
  simp only [countCharacter, hmark]
  rfl

theorem appendByte_room (h : s.rx.buffer.length < 40) (b : Byte) : appendByte b (countCharacter s) = { s with
    rx := { assembly := .inFrame, buffer := s.rx.buffer ++ [b], count := s.rx.count + 1, gap := some 0 } } :=
  if_neg (Nat.not_le_of_lt h)

theorem appendByte_full (hassembly : s.rx.assembly ≠ .hunt) (h : 40 ≤ s.rx.buffer.length) (b : Byte) :
    appendByte b (countCharacter s) = dropAssembly .lenErr s :=
  (if_pos h).trans (abandonAssembly_counted _ hassembly)

theorem endAssembly_invalid {k : Counter} (h : checkFrame s.rx.buffer = .invalid k) :
    endAssembly (countCharacter s) = dropAssembly k s := by
  have hcount : (countCharacter s).rx.buffer = s.rx.buffer := rfl
  simp only [endAssembly, hcount, h]
  rfl

/-- The states that a character which loses an assembly in progress answers, with the error of each case (R16, R17, R19). -/
def LosesTo (v : Byte) (s : State) (lost reopened : Counter → State) : Prop :=
  (s.rx.assembly = .inFrame → isMark s.params v = false → 40 ≤ s.rx.buffer.length →
    exec (.characterComplete v) s = .next (lost .lenErr)) ∧
  (s.rx.assembly = .inFrame → v = s.params.om → exec (.characterComplete v) s = .next (reopened .truncErr)) ∧
  (s.rx.assembly = .inFrame → v = s.params.cm → v ≠ s.params.om → ∀ k, checkFrame s.rx.buffer = .invalid k →
    exec (.characterComplete v) s = .next (lost k)) ∧
  (s.rx.assembly = .escaped → isMark s.params (~~~v) = true → 40 ≤ s.rx.buffer.length →
    exec (.characterComplete v) s = .next (lost .lenErr)) ∧
  (s.rx.assembly = .escaped → isMark s.params (~~~v) = false → v ≠ s.params.om →
    exec (.characterComplete v) s = .next (lost .escErr)) ∧
  (s.rx.assembly = .escaped → isMark s.params (~~~v) = false → v = s.params.om →
    exec (.characterComplete v) s = .next (reopened .escErr))

/-- A character that the receive side takes answers what the assembly makes of it, where that leaves no wait to settle. -/
theorem exec_takes (hon : s.link.state ≠ .off) (hlevel : s.line.level = .character) (htx : s.tx = none) {t : State}
    (ht : takeCharacter v (lineBecomesIdle s) = t) (hwait : WaitOk t) : exec (.characterComplete v) s = .next t := by
  rw [exec_characterComplete hon hlevel, completeCharacter_receiving htx, ht, settleWait_of_ok hwait]

theorem losesTo_dropAssembly (hwait : WaitOk s) (hon : s.link.state ≠ .off) (hlevel : s.line.level = .character)
    (htx : s.tx = none) : LosesTo v s (fun k => dropAssembly k (lineBecomesIdle s))
      (fun k => openAssembly (dropAssembly k (lineBecomesIdle s))) := by
  have hlost (k : Counter) : WaitOk (dropAssembly k (lineBecomesIdle s)) := waitOk_dropAssembly k (s := lineBecomesIdle s) hwait
  have hne {a : Assembly} (h : s.rx.assembly = a) (ha : a ≠ .hunt) : (lineBecomesIdle s).rx.assembly ≠ .hunt := h ▸ ha
  refine ⟨fun h hv hfull => ?_, fun h hv => ?_, fun h hv hom k hk => ?_, fun h hv hfull => ?_, fun h hv hom => ?_,
    fun h hv hom => ?_⟩
  · refine exec_takes hon hlevel htx ?_ (hlost _)
    rw [takeCharacter_plain (s := lineBecomesIdle s) h hv, appendByte_full (hne h (by decide)) hfull]
  · refine exec_takes hon hlevel htx ?_ (waitOk_openAssembly (hlost _))
    rw [takeCharacter_opens (s := lineBecomesIdle s) h hv]
  · refine exec_takes hon hlevel htx ?_ (hlost _)
    rw [takeCharacter_closes (s := lineBecomesIdle s) h hv hom, endAssembly_invalid (s := lineBecomesIdle s) hk]
  · refine exec_takes hon hlevel htx ?_ (hlost _)
    rw [takeCharacter_restored (s := lineBecomesIdle s) h hv, appendByte_full (hne h (by decide)) hfull]
  · refine exec_takes hon hlevel htx ?_ (hlost _)
    exact (takeCharacter_badEscape (s := lineBecomesIdle s) h hv).trans (if_neg hom)
  · refine exec_takes hon hlevel htx ?_ (waitOk_openAssembly (hlost _))
    exact (takeCharacter_badEscape (s := lineBecomesIdle s) h hv).trans (if_pos hom)


/-! ### The slot sequencer is told (R20, R63, R66) -/

theorem slotFrameEnded_other (h : ∀ sl ∈ s.seq.slot, sl.follows = false) : slotFrameEnded s = s := by
  obtain ⟨-, heq⟩ | ⟨sl, hsl, hb, -⟩ | ⟨sl, hsl, hb, -⟩ := slotFrameEnded_cases s
  · exact heq
  all_goals
    have hfollows := h sl hsl
    simp [Slot.follows, hb] at hfollows

theorem slotFrameEnded_awaits {sl : Slot} (hsl : s.seq.slot = some sl) (hb : sl.body = .receive .receiving false) :
    slotFrameEnded s = { s with seq := { s.seq with slot := some { sl with body := .receive .awaiting false } } } := by
  simp only [slotFrameEnded, hsl, hb, setSlot]

theorem slotFrameEnded_missed {sl : Slot} (hsl : s.seq.slot = some sl) (hb : sl.body = .receive .receiving true) :
    slotFrameEnded s = nodeMissed sl.source { s with
      seq := { s.seq with slot := none }, queue := { s.queue with wait := none, turnedAway := false } } := by
  simp only [slotFrameEnded, hsl, hb, closeSlot]

theorem saturatingIncrement_eq (b : Byte) : saturatingIncrement b = if b = 255 then 255 else b + 1 := by
  unfold saturatingIncrement
  split
  · assumption
  · rfl

theorem bump_eq (k : Counter) (s : State) : bump k s = { s with irq := countedIn k s.irq } := by
  rw [bump, saturatingIncrement_eq]
  rfl

theorem lineError_eq (k : Counter) (s : State) : lineError k s = { s with irq := lineErrorIn k s.irq } := by
  have hbit : BitVec.twoPow 14 Flag.lineErr.bit = 0x0200 := by decide
  rw [lineError, setFlag, hbit, bump_eq]
  rfl

/-- What is lost with the receive side in HUNT and the line at `l`, before the slot sequencer is told. -/
def lostAt (l : LineState) (k : Counter) (s : State) : State :=
  { s with line := l, rx := { assembly := .hunt, buffer := [], count := 0, gap := none }, irq := lineErrorIn k s.irq }

theorem dropAssembly_other (l : LineState) (k : Counter) (h : ∀ sl ∈ s.seq.slot, sl.follows = false) :
    dropAssembly k { s with line := l } = lostAt l k s := by
  rw [dropAssembly, lineError_eq]
  exact slotFrameEnded_other (s := lostAt l k s) h

theorem dropAssembly_awaits (l : LineState) (k : Counter) {sl : Slot} (hsl : s.seq.slot = some sl)
    (hb : sl.body = .receive .receiving false) : dropAssembly k { s with line := l } =
      { lostAt l k s with seq := { s.seq with slot := some { sl with body := .receive .awaiting false } } } := by
  rw [dropAssembly, lineError_eq]
  exact slotFrameEnded_awaits (s := lostAt l k s) hsl hb

theorem dropAssembly_missed (l : LineState) (k : Counter) {sl : Slot} (hsl : s.seq.slot = some sl)
    (hb : sl.body = .receive .receiving true) : dropAssembly k { s with line := l } =
      nodeMissed sl.source { lostAt l k s with
        seq := { s.seq with slot := none }, queue := { s.queue with wait := none, turnedAway := false } } := by
  rw [dropAssembly, lineError_eq]
  exact slotFrameEnded_missed (s := lostAt l k s) hsl hb

theorem LosesTo.congr {lost lost' reopened reopened' : Counter → State} (h : LosesTo v s lost reopened)
    (hlost : ∀ k, lost k = lost' k) (hreopened : ∀ k, reopened k = reopened' k) : LosesTo v s lost' reopened' := by
  rwa [← funext hlost, ← funext hreopened]

theorem exec_gapTimerExpires (hgap : s.rx.gap = some 1) (h : s.rx.assembly ≠ .hunt) :
    exec .gapTimerExpires s = .next (dropAssembly .truncErr s) := by
  have hreached : gapReached s = true := by simp [gapReached, hgap]
  exact (if_pos hreached).trans (congrArg _ (abandonAssembly_of_assembly _ h))

theorem exec_stopBitError_receiving (hon : s.link.state ≠ .off) (hlevel : s.line.level = .character) (htx : s.tx = none) :
    exec .stopBitError s = .next (abandonAssembly .charErr { s with line := { s.line with level := .heldLow } }) := by
  rw [exec_stopBitError hon hlevel]
  simp only [characterFails, htx]

theorem openAssembly_closed {q : Sequencer} (hq : s.seq = q) (hslot : q.slot = none) : openAssembly s =
    { s with rx := { assembly := .inFrame, buffer := [], count := 1, gap := some 0 }, seq := q } := by
  subst hq
  rw [openAssembly, slotFrameOpened_eq]
  simp only [hslot, Option.map_none]
  obtain ⟨_, _, _, _, _, _, _, ⟨n, sl⟩⟩ := s
  obtain rfl : sl = none := hslot
  rfl

/-- Settles O25: each state of the assembly, character by character; an error with no slot that follows the frame changes
the receive side and the counters alone. -/
theorem characterByAssemblyState : Obligations.CharacterByAssemblyState := by
  refine ⟨fun v s hwait hon hlevel htx => ⟨fun h hv => ?_, fun h hv => ?_, fun h hv hroom => ?_, fun h hv hom hcm => ?_,
    fun mark hmark h hv hroom => ?_⟩, fun v s hwait hon hlevel htx hfollows => ?_⟩
  · refine exec_takes hon hlevel htx ?_ hwait
    exact (takeCharacter_hunt (s := lineBecomesIdle s) h).trans (if_neg hv)
  · exact (exec_takes (t := openAssembly (lineBecomesIdle s)) hon hlevel htx
      ((takeCharacter_hunt (s := lineBecomesIdle s) h).trans (if_pos hv))
      (waitOk_openAssembly (s := lineBecomesIdle s) hwait)).trans (congrArg Host.Outcome.next (slotFrameOpened_eq _))
  · refine exec_takes hon hlevel htx ?_ (waitOk_of_same hwait ⟨rfl, rfl, rfl, rfl, rfl, rfl, fun _ => rfl, rfl⟩)
    exact (takeCharacter_plain (s := lineBecomesIdle s) h hv).trans (appendByte_room (s := lineBecomesIdle s) hroom v)
  · refine exec_takes hon hlevel htx ?_ (waitOk_of_same hwait ⟨rfl, rfl, rfl, rfl, rfl, rfl, fun _ => rfl, rfl⟩)
    exact takeCharacter_escapes (s := lineBecomesIdle s) h hv hom hcm
  · obtain rfl : ~~~v = mark := by rw [hv, BitVec.not_not]
    refine exec_takes hon hlevel htx ?_ (waitOk_of_same hwait ⟨rfl, rfl, rfl, rfl, rfl, rfl, fun _ => rfl, rfl⟩)
    exact (takeCharacter_restored (s := lineBecomesIdle s) h hmark).trans (appendByte_room (s := lineBecomesIdle s) hroom _)
  · exact (losesTo_dropAssembly hwait hon hlevel htx).congr (fun k => dropAssembly_other _ k hfollows)
      (fun k => by rw [lineBecomesIdle, dropAssembly_other _ k hfollows, openAssembly, slotFrameOpened_eq])

/-- Settles O26: the two errors of the line and the six characters that lose an assembly tell the slot that follows it. -/
theorem assemblyAbandoned : Obligations.AssemblyAbandoned := by
  refine ⟨fun s hon htx => ⟨fun hlevel h => ?_, fun hlevel h => ?_, fun hgap h => ?_⟩,
    fun v s sl extended hwait hon hlevel htx hsl hb => ?_⟩
  · have hexec := (exec_stopBitError_receiving hon hlevel htx).trans (congrArg _ (abandonAssembly_of_assembly _ h))
    exact ⟨fun hf => hexec.trans (congrArg _ (dropAssembly_other _ _ hf)),
      fun sl hsl hb => hexec.trans (congrArg _ (dropAssembly_awaits _ _ hsl hb)),
      fun sl hsl hb => hexec.trans (congrArg _ (dropAssembly_missed _ _ hsl hb))⟩
  · exact (exec_stopBitError_receiving hon hlevel htx).trans (congrArg _ (if_pos h))
  · have hexec := exec_gapTimerExpires hgap h
    exact ⟨fun hf => hexec.trans (congrArg _ (dropAssembly_other s.line _ hf)),
      fun sl hsl hb => hexec.trans (congrArg _ (dropAssembly_awaits s.line _ hsl hb)),
      fun sl hsl hb => hexec.trans (congrArg _ (dropAssembly_missed s.line _ hsl hb))⟩
  · intro lost ended reopened
    have hended (k : Counter) : dropAssembly k (lineBecomesIdle s) = ended k := by
      cases extended
      · exact dropAssembly_awaits _ k hsl hb
      · exact dropAssembly_missed _ k hsl hb
    have hreopened (k : Counter) : openAssembly (dropAssembly k (lineBecomesIdle s)) = reopened k := by
      cases extended
      · rw [openAssembly, slotFrameOpened_eq, lineBecomesIdle, dropAssembly_awaits _ k hsl hb]
        obtain ⟨i, a, e, m, src, body⟩ := sl
        obtain rfl : body = _ := hb
        rfl
      · rw [lineBecomesIdle, dropAssembly_missed _ k hsl hb]
        exact openAssembly_closed (q := { s.seq with slot := none }) (by simp) rfl
    exact (losesTo_dropAssembly hwait hon hlevel htx).congr hended hreopened

end Sys2Proof.Machine
end

section
/-! # A frame sent is the frame heard (R6, R7, R9, R11, R15 to R17) -/

open Sys2Proof

namespace Sys2Proof.Machine

/-! ### Stuffed lengths (R11) -/

theorem inner_length (f : Frame) : f.inner.length = 8 + f.payload.length := by
  simp [Frame.inner, Frame.body]; omega

theorem escape_length (p : Params) (b : Byte) : (escape p b).length = if isMark p b then 2 else 1 := by
  unfold escape; split <;> rfl

theorem characters_length (p : Params) (f : Frame) : (f.characters p).length = f.stuffedLength p := by
  simp [Frame.characters, Frame.stuffedLength, List.length_flatMap, escape_length]
  omega

theorem sum_escape_bounds (p : Params) (bytes : List Byte) :
    bytes.length ≤ (bytes.map (fun b => if isMark p b then 2 else 1)).sum ∧
      (bytes.map (fun b => if isMark p b then 2 else 1)).sum ≤ 2 * bytes.length := by
  induction bytes with
  | nil => simp
  | cons b rest ih =>
    simp only [List.map_cons, List.sum_cons, List.length_cons]
    split <;> omega

/-! ### What the receive side holds while it hears -/

/-- A receive side that takes characters between two of them: on an idle line, with this assembly. -/
structure Listening (p : Params) (counters : Vector Byte 11) (a : Assembly) (buffer : List Byte) (count : Nat) (s : State) :
    Prop where
  on : s.link.state ≠ .off
  tx : s.tx = none
  level : s.line.level = .idle
  params : s.params = p
  counters : s.irq.counters = counters
  assembly : s.rx.assembly = a
  buffer : s.rx.buffer = buffer
  count : s.rx.count = count

/-- The line brings one good character (R1). -/
def hear (v : Byte) (s : State) : State := after (.characterComplete v) (after .startBitConfirmed s)

theorem hearAll_cons (v : Byte) (rest : List Byte) (s : State) : hearAll (v :: rest) s = hearAll rest (hear v s) := rfl

theorem hearAll_append (first rest : List Byte) (s : State) : hearAll (first ++ rest) s = hearAll rest (hearAll first s) :=
  List.foldl_append

variable {p : Params} {k : Vector Byte 11} {a : Assembly} {buffer : List Byte} {count : Nat} {s : State} {v : Byte}

/-- The state in which a character that has been heard is taken. -/
theorem hear_eq (h : Listening p k a buffer count s) (v : Byte) :
    hear v s = settleWait (takeCharacter v (lineBecomesIdle (confirmStartBit s))) := by
  have hstart : after .startBitConfirmed s = confirmStartBit s := by
    rw [after, show exec .startBitConfirmed s = .next (confirmStartBit s) from if_pos ⟨receiving_on h.on, h.level⟩]
  rw [hear, hstart, after, exec_characterComplete (s := confirmStartBit s) h.on rfl v]
  exact completeCharacter_receiving (s := confirmStartBit s) h.tx v

theorem Listening.taken (h : Listening p k a buffer count s) :
    Listening p k a buffer count (lineBecomesIdle (confirmStartBit s)) :=
  ⟨h.on, h.tx, rfl, h.params, h.counters, h.assembly, h.buffer, h.count⟩

/-- An opening mark starts an assembly (R15). -/
theorem hear_opens (h : Listening p k .hunt buffer count s) : Listening p k .inFrame [] 1 (hear p.om s) ∧
    (hear p.om s).rx.gap = some 0 := by
  have ht := h.taken
  rw [hear_eq h, takeCharacter_hunt ht.assembly, if_pos (by rw [ht.params]), openAssembly, slotFrameOpened_eq]
  exact ⟨⟨ht.on, ht.tx, ht.level, ht.params, ht.counters, rfl, rfl, rfl⟩, rfl⟩

/-- A plain byte is appended (R16). -/
theorem hear_plain (h : Listening p k .inFrame buffer count s) (hv : isMark p v = false) (hroom : buffer.length < 40) :
    Listening p k .inFrame (buffer ++ [v]) (count + 1) (hear v s) ∧ (hear v s).rx.gap = some 0 := by
  have ht := h.taken
  rw [hear_eq h, takeCharacter_plain ht.assembly (by rw [ht.params]; exact hv),
    appendByte_room (by rw [ht.buffer]; exact hroom)]
  exact ⟨⟨ht.on, ht.tx, ht.level, ht.params, ht.counters, rfl, congrArg (· ++ [v]) ht.buffer, congrArg (· + 1) ht.count⟩, rfl⟩

/-- ES leads to ESCAPED (R16). -/
theorem hear_escape (h : Listening p k .inFrame buffer count s) (hom : p.es ≠ p.om) (hcm : p.es ≠ p.cm) :
    Listening p k .escaped buffer (count + 1) (hear p.es s) := by
  have ht := h.taken
  rw [hear_eq h, takeCharacter_escapes ht.assembly (by rw [ht.params]) (by rw [ht.params]; exact hom)
    (by rw [ht.params]; exact hcm)]
  exact ⟨ht.on, ht.tx, ht.level, ht.params, ht.counters, rfl, ht.buffer, congrArg (· + 1) ht.count⟩

/-- After ES a mark's complement appends the mark (R17). -/
theorem hear_restored (h : Listening p k .escaped buffer count s) (hv : isMark p v = true) (hroom : buffer.length < 40) :
    Listening p k .inFrame (buffer ++ [v]) (count + 1) (hear (~~~v) s) ∧ (hear (~~~v) s).rx.gap = some 0 := by
  have ht := h.taken
  rw [hear_eq h, takeCharacter_restored ht.assembly (by rw [ht.params, BitVec.not_not]; exact hv),
    appendByte_room (by rw [ht.buffer]; exact hroom), BitVec.not_not]
  exact ⟨⟨ht.on, ht.tx, ht.level, ht.params, ht.counters, rfl, congrArg (· ++ [v]) ht.buffer, congrArg (· + 1) ht.count⟩, rfl⟩

/-- The characters that carry one inner byte append it (R6, R16, R17). -/
theorem hearAll_escape (h : Listening p k .inFrame buffer count s) (hom : p.es ≠ p.om) (hcm : p.es ≠ p.cm)
    (hroom : buffer.length < 40) (b : Byte) :
    Listening p k .inFrame (buffer ++ [b]) (count + (escape p b).length) (hearAll (escape p b) s) ∧
      (hearAll (escape p b) s).rx.gap = some 0 := by
  unfold escape
  cases hb : isMark p b with
  | false => exact hear_plain h hb hroom
  | true => exact hear_restored (hear_escape h hom hcm) hb hroom

/-- The characters that carry a run of inner bytes append them. -/
theorem hearAll_escapes (bytes : List Byte) (hom : p.es ≠ p.om) (hcm : p.es ≠ p.cm) {buffer : List Byte} {count : Nat}
    {s : State} (h : Listening p k .inFrame buffer count s) (hgap : s.rx.gap = some 0)
    (hroom : buffer.length + bytes.length ≤ 40) :
    Listening p k .inFrame (buffer ++ bytes) (count + (bytes.flatMap (escape p)).length)
      (hearAll (bytes.flatMap (escape p)) s) ∧ (hearAll (bytes.flatMap (escape p)) s).rx.gap = some 0 := by
  induction bytes generalizing buffer count s with
  | nil => simpa [hearAll] using ⟨h, hgap⟩
  | cons b rest ih =>
    rw [List.length_cons] at hroom
    obtain ⟨hone, hgap'⟩ := hearAll_escape h hom hcm (by omega) b
    have hrest := ih hone hgap' (by rw [List.length_append, List.length_singleton]; omega)
    rwa [List.append_assoc, List.singleton_append, Nat.add_assoc, ← hearAll_append, ← List.length_append,
      ← List.flatMap_cons] at hrest

theorem rx_eq {r : Receiver} {a : Assembly} {buffer : List Byte} {count : Nat} {gap : Option Nat} (ha : r.assembly = a)
    (hb : r.buffer = buffer) (hc : r.count = count) (hg : r.gap = gap) : r = ⟨a, buffer, count, gap⟩ := by
  subst ha hb hc hg; rfl

/-- Marks that START accepts differ (R5, R72). -/
theorem es_ne_marks (h : paramFault p = none) : p.es ≠ p.om ∧ p.es ≠ p.cm := by
  have hes : markFails p [p.om, p.cm] p.es = false := by
    rw [Bool.eq_false_iff]
    intro hfails
    simp [paramFault, hfails] at h
    split_ifs at h
  simp [markFails] at hes
  exact hes.1

/-- Settles O29: the opening mark, then inner byte by inner byte. -/
theorem sentFrameIsHeard : Obligations.SentFrameIsHeard := by
  refine ⟨fun f s hparams hlen hon htx hlevel hhunt => ?_, fun p f => ?_⟩
  · obtain ⟨hom, hcm⟩ := es_ne_marks hparams
    have hstart : Listening s.params s.irq.counters .hunt s.rx.buffer s.rx.count s :=
      ⟨hon, htx, hlevel, rfl, rfl, hhunt, rfl, rfl⟩
    obtain ⟨hopened, hgap⟩ := hear_opens hstart
    have hdrop : (f.characters s.params).dropLast = s.params.om :: f.inner.flatMap (escape s.params) := by
      rw [Frame.characters, ← List.cons_append, List.dropLast_concat]
    have hcount : 1 + (f.inner.flatMap (escape s.params)).length = f.stuffedLength s.params - 1 := by
      rw [← characters_length, Frame.characters, List.length_cons, List.length_append, List.length_singleton]
      omega
    obtain ⟨hheard, hgap'⟩ := hearAll_escapes f.inner hom hcm hopened hgap (by rw [inner_length, List.length_nil]; omega)
    rw [hdrop, hearAll_cons]
    refine ⟨?_, hheard.level, hheard.counters, ?_⟩
    · rw [hcount] at hheard
      exact rx_eq hheard.assembly hheard.buffer hheard.count hgap'
    · rw [Frame.characters, ← List.cons_append, List.getLast?_concat]
  · have hbounds := sum_escape_bounds p f.inner
    rw [inner_length] at hbounds
    refine ⟨characters_length p f, ?_, ?_, ?_⟩ <;> unfold Frame.stuffedLength <;> omega

end Sys2Proof.Machine
end

section
/-! # Deliveries, the node presence table, and the frames that slots take (R60, R64, R66, R127 to R133, R138 to R142, R147 to
R151) -/

open Sys2Proof

namespace Sys2Proof.Machine

/-! ### Tables -/

theorem lowestIndex_eq_some {α : Type} {n : Nat} {p : α → Bool} {v : Vector α n} {i : Fin n} (hi : p v[i] = true)
    (hbelow : ∀ k : Fin n, k < i → p v[k] = false) : lowestIndex p v = some i := by
  cases h : lowestIndex p v with
  | none => rw [lowestIndex_none h i] at hi; cases hi
  | some j =>
    obtain ⟨hj, hlow⟩ := lowestIndex_some h
    obtain hlt | rfl | hgt := lt_trichotomy i j
    · rw [hlow i hlt] at hi; cases hi
    · rfl
    · rw [hbelow j hgt] at hj; cases hj

theorem lowestIndex_eq_none {α : Type} {n : Nat} {p : α → Bool} {v : Vector α n} (h : ∀ k : Fin n, p v[k] = false) :
    lowestIndex p v = none := by
  cases hi : lowestIndex p v with
  | none => rfl
  | some i => exact absurd (lowestIndex_some hi).1 (by rw [h i]; decide)

theorem put_getElem_self {α : Type} {n : Nat} (v : Vector α n) (i : Fin n) : put v i v[i] = v := by
  simp [put]

/-! ### The node presence table (R147 to R151) -/

/-- An entry follows a peer: it is valid and names its address (R147). -/
abbrev FollowsPeer (e : NodeEntry) (source : Byte) : Prop := e.valid ≠ 0 ∧ e.address = source

theorem selects_iff (e : NodeEntry) (source : Byte) :
    (e.valid != 0 && e.address == source) = true ↔ FollowsPeer e source := by
  simp [FollowsPeer]

theorem selectNode_eq_some {source : Byte} {s : State} {n : Fin 16} (hn : FollowsPeer s.nodes[n] source)
    (hbelow : ∀ k, k < n → ¬FollowsPeer s.nodes[k] source) : selectNode source s = some n := by
  exact lowestIndex_eq_some ((selects_iff _ _).mpr hn) fun k hk =>
    Bool.eq_false_iff.mpr fun h => hbelow k hk ((selects_iff _ _).mp h)

theorem selectNode_eq_none {source : Byte} {s : State} (h : ∀ n : Fin 16, ¬FollowsPeer s.nodes[n] source) :
    selectNode source s = none :=
  lowestIndex_eq_none fun k => Bool.eq_false_iff.mpr fun hk => h k ((selects_iff _ _).mp hk)

theorem raiseNodeChange_eq (n : Fin 16) (s : State) : raiseNodeChange n s = { s with irq := { s.irq with
    flags := s.irq.flags ||| 0x0100, nodeChange := s.irq.nodeChange ||| BitVec.twoPow 16 n.val } } := by
  have hbit : BitVec.twoPow 14 Flag.node.bit = 0x0100 := by decide
  rw [raiseNodeChange, setFlag, hbit]

theorem nodeHeard_selected {source : Byte} {s : State} {n : Fin 16} (h : selectNode source s = some n) :
    nodeHeard source s = { s with
      nodes := put s.nodes n { s.nodes[n] with state := .present, misses := 0, lastHeard := s.timer.cycle }
      irq := if s.nodes[n].state = .present then s.irq else { s.irq with
        flags := s.irq.flags ||| 0x0100, nodeChange := s.irq.nodeChange ||| BitVec.twoPow 16 n.val } } := by
  simp only [nodeHeard, h, raiseNodeChange_eq]
  split <;> rfl

theorem nodeMissed_absent {source : Byte} {s : State} {n : Fin 16} (h : selectNode source s = some n)
    (hstate : s.nodes[n].state = .absent) : nodeMissed source s = s := by
  have hmissed : s.nodes[n].missed = s.nodes[n] := if_pos hstate
  simp only [nodeMissed, h]
  rw [if_neg (fun hc => hc.1 hstate), hmissed, put_getElem_self]

theorem nodeMissed_below {source : Byte} {s : State} {n : Fin 16} (h : selectNode source s = some n)
    (hstate : s.nodes[n].state ≠ .absent) (hbelow : s.nodes[n].misses + 1 < s.nodes[n].threshold) :
    nodeMissed source s =
      { s with nodes := put s.nodes n { s.nodes[n] with state := .late, misses := s.nodes[n].misses + 1 } } := by
  have hmissed : s.nodes[n].missed = { s.nodes[n] with state := .late, misses := s.nodes[n].misses + 1 } := by
    rw [NodeEntry.missed, if_neg hstate, if_pos hbelow]
  simp only [nodeMissed, h]
  rw [hmissed, if_neg (by simp)]

theorem nodeMissed_reaches {source : Byte} {s : State} {n : Fin 16} (h : selectNode source s = some n)
    (hstate : s.nodes[n].state ≠ .absent) (hreach : s.nodes[n].misses + 1 = s.nodes[n].threshold) :
    nodeMissed source s = { s with
      nodes := put s.nodes n { s.nodes[n] with state := .absent, misses := s.nodes[n].threshold }
      irq := { s.irq with flags := s.irq.flags ||| 0x0100, nodeChange := s.irq.nodeChange ||| BitVec.twoPow 16 n.val } } := by
  have hmissed : s.nodes[n].missed = { s.nodes[n] with state := .absent, misses := s.nodes[n].threshold } := by
    rw [NodeEntry.missed, if_neg hstate, if_neg (by omega)]
  simp only [nodeMissed, h]
  rw [hmissed, if_pos ⟨hstate, rfl⟩, raiseNodeChange_eq]

/-- Settles O53: the entry that an outcome selects, then its state. -/
theorem nodeOutcomes : Obligations.NodeOutcomes := by
  intro source s follows noticed
  refine ⟨fun hnone => ?_, fun n hn hbelow => ?_⟩
  · have hselect := selectNode_eq_none hnone
    exact ⟨by simp only [nodeHeard, hselect], by simp only [nodeMissed, hselect]⟩
  · have hselect := selectNode_eq_some hn hbelow
    exact ⟨nodeHeard_selected hselect, nodeMissed_absent hselect, nodeMissed_below hselect, nodeMissed_reaches hselect⟩

/-! ### A delivery (R128 to R133) -/

theorem padPayload_eq {bytes : List Byte} : padPayload bytes = Vector.ofFn (fun i => bytes.getD i.val 0) := by
  refine Vector.ext fun i hi => ?_
  have hi' : i < 32 := hi
  rw [Vector.getElem_ofFn, List.getD_eq_getElem?_getD]
  change ((bytes ++ List.replicate Config.payloadBytes 0).take Config.payloadBytes)[i]'(by simp [hi']) = _
  rw [List.getElem_take]
  by_cases h : i < bytes.length
  · rw [List.getElem_append_left h, List.getElem?_eq_getElem h, Option.getD_some]
  · rw [List.getElem_append_right (Nat.le_of_not_lt h), List.getElem_replicate,
      List.getElem?_eq_none (Nat.le_of_not_lt h), Option.getD_none]

theorem isRepeat_iff (f : Frame) (r : RxMailbox) : isRepeat f r = true ↔
    r.nextPresent = true ∧ (r.next.source = f.src ∧ r.next.sequence = f.seq) ∨
      r.nextPresent = false ∧ r.contentValid = true ∧ r.content.source = f.src ∧ r.content.sequence = f.seq := by
  cases hnext : r.nextPresent <;> cases hvalid : r.contentValid <;> simp [isRepeat, latestStored, hnext, hvalid]

/-- Settles O31: a repeat, else by the state, the next buffer and the policy. -/
theorem deliveryByStateAndPolicy : Obligations.DeliveryByStateAndPolicy := by
  intro cycle f r heard new again discarded
  have hnew : storedFrame cycle f = new := by rw [storedFrame, padPayload_eq]
  have hlost : ({ heard with lost := saturatingIncrement r.lost } : RxMailbox) = discarded := by rw [saturatingIncrement_eq]
  rw [RxMailbox.take, hnew]
  refine ⟨fun h => if_pos ((isRepeat_iff f r).mpr h), fun h => ?_⟩
  rw [if_neg (fun hrepeat => h ((isRepeat_iff f r).mp hrepeat))]
  obtain ⟨policy, state, valid, content, nextPresent, next, overrun, lost, lastHeard⟩ := r
  refine ⟨fun hs => ?_, fun hs hp => ?_, fun hs hp => ?_, fun hs hn => ?_, fun hs hn hp => ?_, fun hs hn hp => ?_⟩
  · obtain rfl : state = _ := hs; rfl
  · obtain ⟨rfl, rfl⟩ : state = _ ∧ policy = _ := ⟨hs, hp⟩
    rw [← hlost]
  · obtain ⟨rfl, rfl⟩ : state = _ ∧ policy = _ := ⟨hs, hp⟩; rfl
  · obtain ⟨rfl, rfl⟩ : state = _ ∧ nextPresent = _ := ⟨hs, hn⟩; rfl
  · obtain ⟨rfl, rfl, rfl⟩ : state = _ ∧ nextPresent = _ ∧ policy = _ := ⟨hs, hn, hp⟩
    rw [← hlost]
  · obtain ⟨rfl, rfl, rfl⟩ : state = _ ∧ nextPresent = _ ∧ policy = _ := ⟨hs, hn, hp⟩; rfl

end Sys2Proof.Machine
end

section
/-! # What a valid frame does: the routing of data frames (R60, R64, R66, R74, R83, R127, R138 to R142) -/

open Sys2Proof

namespace Sys2Proof.Machine

variable {f : Frame} {s : State}

/-! ### The closing mark of a valid frame (R19, R20) -/

/-- The state in which a valid frame is handed on: the line is idle and the receive side in HUNT. -/
def afterMark (s : State) : State :=
  { s with
    line := { s.line with level := .idle, idleTime := 0 }
    rx := { assembly := .hunt, buffer := [], count := 0, gap := none } }

/-- What a valid frame does once it is handed on (R20). -/
def handOn (f : Frame) (s : State) : State :=
  if f.kind = .cycleStart then handCycleStart f (s.rx.count + 1) (afterMark s) else routeFrame f (afterMark s)

theorem exec_closingMark (h : ClosingMark f s) :
    exec (.characterComplete s.params.cm) s = .next (settleWait (handOn f s)) := by
  obtain ⟨hon, htx, hlevel, hassembly, hbuffer, hlen, hform, hmarks⟩ := h
  have hvalid : checkFrame s.rx.buffer = .valid f := (checkFrame_eq_valid _ f).mpr ⟨hbuffer, hlen, hform⟩
  have hcloses : takeCharacter s.params.cm (lineBecomesIdle s) = endAssembly (countCharacter (lineBecomesIdle s)) :=
    takeCharacter_closes (s := lineBecomesIdle s) hassembly rfl hmarks
  rw [exec_characterComplete hon hlevel, completeCharacter_receiving htx, hcloses]
  have hcount : (countCharacter (lineBecomesIdle s)).rx.buffer = s.rx.buffer := rfl
  simp only [endAssembly, hcount, hvalid]
  rfl

theorem handOn_data (h : f.kind ≠ .cycleStart) : handOn f s = routeFrame f (afterMark s) := if_neg h

theorem addressedHere_iff (f : Frame) (s : State) : addressedHere f s = true ↔ ForThisNode f s := by
  simp [addressedHere, ForThisNode]

/-! ### Outside RECEIVE slots (R60, R138 to R142) -/

/-- The slot open, if any, is no RECEIVE slot. -/
abbrev NoReceiveSlot (s : State) : Prop := ∀ sl ∈ s.seq.slot, ∀ sub extended, sl.body ≠ .receive sub extended

theorem routeFrame_not_running (h : s.link.state ≠ .running) : routeFrame f s = s := if_neg h

theorem routeFrame_stray (h : s.link.state = .running) (hslot : NoReceiveSlot s)
    (hwindow : ¬(openWindowOpen s = true ∧ f.kind = .eventData)) : routeFrame f s = strayFrame f s := by
  rw [routeFrame, if_pos h]
  cases hsl : s.seq.slot with
  | none => rfl
  | some sl =>
    simp only
    cases hb : sl.body with
    | transmit => rfl
    | openWindow => exact if_neg fun hk => hwindow ⟨by simp [openWindowOpen, hsl, hb], hk⟩
    | receive sub extended => exact absurd hb (hslot sl hsl sub extended)

theorem routeFrame_window (h : s.link.state = .running) (hopen : openWindowOpen s = true) (hk : f.kind = .eventData) :
    routeFrame f s = routeEvent f s := by
  rw [routeFrame, if_pos h]
  unfold openWindowOpen at hopen
  cases hsl : s.seq.slot with
  | none => simp [hsl] at hopen
  | some sl =>
    have hb : sl.body = .openWindow := by simpa [hsl] using hopen
    simp only [hb, if_pos hk]

theorem strayFrame_eq (f : Frame) (s : State) :
    strayFrame f s = { s with irq := if ForThisNode f s then countedIn .stray s.irq else s.irq } := by
  rw [strayFrame, bump_eq]
  simp only [← addressedHere_iff]
  split <;> rfl

theorem entryMatches_iff (e : AcceptanceEntry) (f : Frame) :
    (e.valid != 0 && e.tag == f.tag && (e.source == 255 || e.source == f.src)) = true ↔ EntryMatches e f := by
  simp [EntryMatches, and_assoc]

theorem winningEntry_eq_none (h : ∀ n : Fin 16, ¬EntryMatches s.accept[n] f) : winningEntry f s = none :=
  lowestIndex_eq_none fun n => Bool.eq_false_iff.mpr fun hn => h n ((entryMatches_iff _ f).mp hn)

theorem winningEntry_eq_some {n : Fin 16} (hn : EntryMatches s.accept[n] f)
    (hbelow : ∀ k : Fin 16, k < n → ¬EntryMatches s.accept[k] f) : winningEntry f s = some n :=
  lowestIndex_eq_some ((entryMatches_iff _ f).mpr hn) fun k hk =>
    Bool.eq_false_iff.mpr fun h => hbelow k hk ((entryMatches_iff _ f).mp h)

theorem acceptedMailbox_rx {n : Fin 16} (hn : winningEntry f s = some n) {m : Fin 24} {r : RxMailbox}
    (hm : s.accept[n].mailbox.toNat = m.val) (hr : s.boxes[m] = .rx r) : acceptedMailbox f s = some m := by
  simp only [acceptedMailbox, hn, (mailboxIndex_eq_some _ m).mpr hm, hr]

theorem acceptedMailbox_none {n : Fin 16} (hn : winningEntry f s = some n)
    (h : ∀ m : Fin 24, s.accept[n].mailbox.toNat = m.val → ∀ r, s.boxes[m] ≠ .rx r) : acceptedMailbox f s = none := by
  simp only [acceptedMailbox, hn]
  cases hm : mailboxIndex s.accept[n].mailbox with
  | none => rfl
  | some m =>
    simp only
    cases hb : s.boxes[m] with
    | tx t => rfl
    | rx r => exact absurd hb (h m ((mailboxIndex_eq_some _ m).mp hm) r)

theorem routeEvent_elsewhere (h : ¬ForThisNode f s) : routeEvent f s = s :=
  if_neg fun ha => h ((addressedHere_iff f s).mp ha)

theorem routeEvent_here (h : ForThisNode f s) : routeEvent f s =
    match acceptedMailbox f s with
    | some m => deliver m f s
    | none => bump .unrouted s := if_pos ((addressedHere_iff f s).mpr h)

/-- What the host is told of a delivery (R130 to R133, R163). -/
def noticedIn (m : Fin 24) (n : Notice) (u : InterruptUnit) : InterruptUnit := { u with
  flags := (u.flags ||| (if n.overrun then 0x1000 else 0)) ||| (if n.attention then 0x0004 else 0)
  attention := u.attention ||| (if n.attention then BitVec.twoPow 24 m.val else 0) }

theorem applyNotice_eq (m : Fin 24) (n : Notice) (s : State) :
    applyNotice m n s = { s with irq := noticedIn m n s.irq } := by
  have hoverrun : BitVec.twoPow 14 Flag.overrun.bit = 0x1000 := by decide
  have hmbx : BitVec.twoPow 14 Flag.mbx.bit = 0x0004 := by decide
  obtain ⟨attention, overrun⟩ := n
  cases attention <;> cases overrun <;>
    simp [applyNotice, noticedIn, raiseAttention, setFlag, hoverrun, hmbx]

theorem deliver_eq {m : Fin 24} {r : RxMailbox} (h : s.boxes[m] = .rx r) : deliver m f s = { s with
    boxes := put s.boxes m (.rx (r.take s.timer.cycle f).1)
    irq := noticedIn m (r.take s.timer.cycle f).2 s.irq } := by
  rw [deliver_rx h, applyNotice_eq]

/-- A delivery leaves which mailboxes are QUEUED as it was. -/
theorem queued_put_rx {m : Fin 24} {r r' : RxMailbox} (h : s.boxes[m] = .rx r) (k : Fin 24) :
    ((put s.boxes m (.rx r'))[k]).inState .queued = s.boxes[k].inState .queued := by
  by_cases hk : k = m
  · subst hk
    rw [put_get_same, h]
    rfl
  · rw [put_get_other _ _ _ _ hk]

/-- Settles O32: outside RUNNING, the stray frames, and what the acceptance table does with the frames of an open window. -/
theorem framesOutsideReceiveSlots : Obligations.FramesOutsideReceiveSlots := by
  intro f s hmark hwait hkind hslot ended answers inWindow
  have hroute {boxes : Vector Mailbox 24} {irq : InterruptUnit} (h : routeFrame f (afterMark s) = ended boxes irq)
      (hqueued : ∀ k : Fin 24, boxes[k].inState .queued = s.boxes[k].inState .queued) : answers (ended boxes irq) := by
    have hok : WaitOk (ended boxes irq) := waitOk_of_same hwait ⟨rfl, rfl, rfl, rfl, rfl, rfl, hqueued, rfl⟩
    refine (exec_closingMark hmark).trans (congrArg _ ?_)
    rw [handOn_data hkind, h, settleWait_of_ok hok]
  refine ⟨fun hlink => ?_, fun hlink hwindow => ?_, fun hlink hwindow haddr => ?_, fun hlink hwindow haddr hnone => ?_,
    fun hlink hwindow haddr n hn hbelow => ⟨fun hnot => ?_, fun m r hm hr => ?_⟩⟩
  · exact hroute (routeFrame_not_running (s := afterMark s) hlink) fun _ => rfl
  · exact hroute ((routeFrame_stray (s := afterMark s) hlink hslot hwindow).trans (strayFrame_eq f _)) fun _ => rfl
  all_goals have hevent := routeFrame_window (s := afterMark s) hlink hwindow.1 hwindow.2
  · exact hroute (hevent.trans (routeEvent_elsewhere (s := afterMark s) haddr)) fun _ => rfl
  all_goals rw [routeEvent_here (s := afterMark s) haddr] at hevent
  · have haccepted : acceptedMailbox f (afterMark s) = none := by
      rw [acceptedMailbox, winningEntry_eq_none (s := afterMark s) hnone]
    rw [haccepted] at hevent
    exact hroute (hevent.trans (bump_eq _ _)) fun _ => rfl
  all_goals have hwins := winningEntry_eq_some (s := afterMark s) hn hbelow
  · rw [acceptedMailbox_none hwins hnot] at hevent
    exact hroute (hevent.trans (bump_eq _ _)) fun _ => rfl
  · rw [acceptedMailbox_rx hwins hm hr] at hevent
    exact hroute (hevent.trans (deliver_eq (s := afterMark s) hr)) (queued_put_rx hr)

end Sys2Proof.Machine
end

section
/-! # Flags set, node outcomes, and what a RECEIVE slot takes (R60, R63, R64, R66, R67, R127, R151, R157) -/

open Sys2Proof

namespace Sys2Proof.Machine

/-! ### Flags (R157) -/

theorem Flag.bit_injective {f g : Flag} (h : f.bit = g.bit) : f = g := by
  revert h
  cases f <;> cases g <;> simp [Flag.bit]

theorem flagSet_setFlag (f g : Flag) (s : State) : flagSet f (setFlag g s) = (flagSet f s || decide (f = g)) := by
  have hbit : g.bit = f.bit ↔ f = g := ⟨fun h => (Flag.bit_injective h).symm, fun h => by rw [h]⟩
  simp only [flagSet, setFlag, BitVec.getLsbD_or, BitVec.getLsbD_twoPow, g.bit_lt, decide_true, Bool.true_and, hbit]

theorem flagSet_congr {s t : State} (h : t.irq.flags = s.irq.flags) (f : Flag) : flagSet f t = flagSet f s := by
  rw [flagSet, flagSet, h]

theorem flagSet_raiseAttention (f : Flag) (m : Fin 24) (s : State) :
    flagSet f (raiseAttention m s) = (flagSet f s || decide (f = .mbx)) := flagSet_setFlag f .mbx _

theorem flagSet_raiseNodeChange (f : Flag) (n : Fin 16) (s : State) :
    flagSet f (raiseNodeChange n s) = (flagSet f s || decide (f = .node)) := flagSet_setFlag f .node _

theorem flagSet_bump (f : Flag) (c : Counter) (s : State) : flagSet f (bump c s) = flagSet f s := rfl

theorem flagSet_applyNotice (f : Flag) (m : Fin 24) (n : Notice) (s : State) : flagSet f (applyNotice m n s) =
    (flagSet f s || (n.overrun && decide (f = .overrun)) || (n.attention && decide (f = .mbx))) := by
  obtain ⟨attention, overrun⟩ := n
  cases attention <;> cases overrun <;> simp [applyNotice, flagSet_raiseAttention, flagSet_setFlag]

theorem flagSet_nodeHeard_other {f : Flag} (hf : f ≠ .node) (source : Byte) (s : State) :
    flagSet f (nodeHeard source s) = flagSet f s := by
  unfold nodeHeard
  split
  · rfl
  · dsimp only
    split
    · rfl
    · rw [flagSet_raiseNodeChange, decide_eq_false hf, Bool.or_false]; rfl

theorem flagSet_nodeMissed_other {f : Flag} (hf : f ≠ .node) (source : Byte) (s : State) :
    flagSet f (nodeMissed source s) = flagSet f s := by
  unfold nodeMissed
  split
  · rfl
  · dsimp only
    split
    · rw [flagSet_raiseNodeChange, decide_eq_false hf, Bool.or_false]; rfl
    · rfl

/-! ### What an outcome does to the node presence table and its marks (R147 to R151) -/

/-- Two states hold the same node presence table, with its change bits and the NODE flag. -/
structure SameNodes (s t : State) : Prop where
  nodes : t.nodes = s.nodes
  change : t.irq.nodeChange = s.irq.nodeChange
  flag : flagSet .node t = flagSet .node s

theorem SameNodes.refl (s : State) : SameNodes s s := ⟨rfl, rfl, rfl⟩

theorem SameNodes.trans {s t u : State} (h : SameNodes s t) (h' : SameNodes t u) : SameNodes s u :=
  ⟨h'.nodes.trans h.nodes, h'.change.trans h.change, h'.flag.trans h.flag⟩

theorem sameNodes_raiseNodeChange {s t : State} (h : SameNodes s t) (n : Fin 16) :
    SameNodes (raiseNodeChange n s) (raiseNodeChange n t) := by
  refine ⟨h.nodes, ?_, ?_⟩
  · change t.irq.nodeChange ||| _ = s.irq.nodeChange ||| _
    rw [h.change]
  · rw [flagSet_raiseNodeChange, flagSet_raiseNodeChange, h.flag]

theorem selectNode_congr {s t : State} (h : t.nodes = s.nodes) (source : Byte) : selectNode source t = selectNode source s := by
  rw [selectNode, selectNode, h]

theorem sameNodes_put {s t : State} (h : SameNodes s t) (n : Fin 16) (e : NodeEntry) :
    SameNodes { s with nodes := put s.nodes n e } { t with nodes := put t.nodes n e } :=
  ⟨congrArg (put · n e) h.nodes, h.change, h.flag⟩

theorem sameNodes_nodeHeard {s t : State} (h : SameNodes s t) (hcycle : t.timer.cycle = s.timer.cycle) (source : Byte) :
    SameNodes (nodeHeard source s) (nodeHeard source t) := by
  unfold nodeHeard
  rw [selectNode_congr h.nodes]
  cases selectNode source s with
  | none => exact h
  | some n =>
    dsimp only
    rw [h.nodes, hcycle]
    have hput := sameNodes_put h n (s.nodes[n].heard s.timer.cycle)
    rw [h.nodes] at hput
    split
    · exact hput
    · exact sameNodes_raiseNodeChange hput n

theorem sameNodes_nodeMissed {s t : State} (h : SameNodes s t) (source : Byte) :
    SameNodes (nodeMissed source s) (nodeMissed source t) := by
  unfold nodeMissed
  rw [selectNode_congr h.nodes]
  cases selectNode source s with
  | none => exact h
  | some n =>
    dsimp only
    rw [h.nodes]
    have hput := sameNodes_put h n s.nodes[n].missed
    rw [h.nodes] at hput
    split
    · exact sameNodes_raiseNodeChange hput n
    · exact hput

/-! ### A frame that a RECEIVE slot takes (R64, R66) -/

variable {f : Frame} {s : State} {sl : Slot} {sub : ReceiveSub} {extended : Bool}

/-- The delivery of a frame that a RECEIVE slot takes (R64, R127). -/
def slotDelivery (sl : Slot) (f : Frame) (s : State) : State :=
  if addressedHere f s then
    match mailboxIndex sl.mailbox with
    | some m => deliver m f s
    | none => s
  else s

/-- The frame that the slot expects, before its outcome is decided (R64). -/
abbrev Expected (sl : Slot) (sub : ReceiveSub) (f : Frame) : Prop := sub ≠ .done ∧ f.kind = .slotData ∧ f.src = sl.source

theorem receiveSlotTakes_expected (h : Expected sl sub f) : receiveSlotTakes sl sub extended f s =
    if extended then closeSlot (nodeHeard sl.source (slotDelivery sl f s))
    else setSlot { sl with body := .receive .done extended } (nodeHeard sl.source (slotDelivery sl f s)) := by
  rw [receiveSlotTakes, if_pos h]
  rfl

theorem receiveSlotTakes_stray (h : ¬Expected sl sub f) : receiveSlotTakes sl sub extended f s =
    if extended ∧ sub = .receiving then nodeMissed sl.source (closeSlot (bump .stray s))
    else if sub = .receiving then setSlot { sl with body := .receive .awaiting extended } (bump .stray s)
    else bump .stray s := by
  rw [receiveSlotTakes, if_neg h]

theorem slotDelivery_elsewhere (h : ¬ForThisNode f s) : slotDelivery sl f s = s :=
  if_neg fun ha => h ((addressedHere_iff f s).mp ha)

theorem slotDelivery_rx (h : ForThisNode f s) {m : Fin 24} {r : RxMailbox} (hm : sl.mailbox.toNat = m.val)
    (hr : s.boxes[m] = .rx r) : slotDelivery sl f s =
      applyNotice m (r.take s.timer.cycle f).2 { s with boxes := put s.boxes m (.rx (r.take s.timer.cycle f).1) } := by
  rw [slotDelivery, if_pos ((addressedHere_iff f s).mpr h), (mailboxIndex_eq_some _ m).mpr hm]
  exact deliver_rx hr f

theorem sameNodes_applyNotice {u : State} (h : SameNodes s u) (m : Fin 24) (n : Notice) : SameNodes s (applyNotice m n u) := by
  refine h.trans ⟨?_, ?_, ?_⟩
  · rw [applyNotice_eq]
  · rw [applyNotice_eq]; rfl
  · rw [flagSet_applyNotice]; simp

theorem sameNodes_slotDelivery (sl : Slot) (f : Frame) (s : State) : SameNodes s (slotDelivery sl f s) := by
  unfold slotDelivery
  split_ifs
  · split
    next m _ =>
      unfold deliver
      split
      · exact .refl s
      next r _ =>
        exact sameNodes_applyNotice (s := s)
          (u := { s with boxes := put s.boxes m (.rx (r.take s.timer.cycle f).1) }) ⟨rfl, rfl, rfl⟩ m _
    · exact .refl s
  · exact .refl s

theorem slotDelivery_frame (sl : Slot) (f : Frame) (s : State) : (slotDelivery sl f s).timer = s.timer ∧
    (slotDelivery sl f s).seq = s.seq ∧ (slotDelivery sl f s).irq.counters = s.irq.counters := by
  unfold slotDelivery
  (repeat' split) <;> simp

/-- What a slot that has heard its frame is: closed when extended, else DONE (R64, R65). -/
def heardSlot (sl : Slot) (extended : Bool) (s : State) : State :=
  if extended then closeSlot s else setSlot { sl with body := .receive .done extended } s

theorem heardSlot_frame (sl : Slot) (extended : Bool) (s : State) : (heardSlot sl extended s).irq = s.irq ∧
    (heardSlot sl extended s).nodes = s.nodes ∧ (heardSlot sl extended s).boxes = s.boxes ∧
    (heardSlot sl extended s).seq =
      { s.seq with slot := if extended then none else some { sl with body := .receive .done false } } := by
  cases extended <;> exact ⟨rfl, rfl, rfl, rfl⟩

theorem routeFrame_receive (h : s.link.state = .running) (hsl : s.seq.slot = some sl) (hb : sl.body = .receive sub extended) :
    routeFrame f s = receiveSlotTakes sl sub extended f s := by
  rw [routeFrame, if_pos h]
  simp only [hsl, hb]

/-- The state that a frame expected by a RECEIVE slot leaves: HEARD for the peer, with delivery when it is addressed here. -/
theorem expected_effects (h : Expected sl sub f) (s : State) :
    let t := receiveSlotTakes sl sub extended f s
    t.seq = { s.seq with slot := if extended then none else some { sl with body := .receive .done false } } ∧
      t.irq.counters = s.irq.counters ∧ SameNodes (nodeHeard sl.source s) t ∧
      (¬ForThisNode f s → t.boxes = s.boxes ∧ t.irq.attention = s.irq.attention ∧
        flagSet .mbx t = flagSet .mbx s ∧ flagSet .overrun t = flagSet .overrun s) ∧
      (ForThisNode f s → ∀ m r, sl.mailbox.toNat = m.val → s.boxes[m] = .rx r →
        let out := r.take s.timer.cycle f
        t.boxes = put s.boxes m (.rx out.1) ∧
        t.irq.attention = s.irq.attention ||| (if out.2.attention then BitVec.twoPow 24 m.val else 0) ∧
        flagSet .mbx t = (flagSet .mbx s || out.2.attention) ∧
        flagSet .overrun t = (flagSet .overrun s || out.2.overrun)) := by
  intro t
  obtain ⟨htimer, hseq, hcounters⟩ := slotDelivery_frame sl f s
  obtain ⟨hirq, hnodes, hboxes, hslot⟩ := heardSlot_frame sl extended (nodeHeard sl.source (slotDelivery sl f s))
  have ht : t = heardSlot sl extended (nodeHeard sl.source (slotDelivery sl f s)) := receiveSlotTakes_expected h
  have hflag (g : Flag) (hg : g ≠ .node) : flagSet g t = flagSet g (slotDelivery sl f s) := by
    rw [ht, flagSet_congr (congrArg _ hirq), flagSet_nodeHeard_other hg]
  have hattention : t.irq.attention = (slotDelivery sl f s).irq.attention := by rw [ht, hirq]; simp
  have hboxes' : t.boxes = (slotDelivery sl f s).boxes := by rw [ht, hboxes]; simp
  refine ⟨by rw [ht, hslot]; simp [hseq], by rw [ht, hirq]; simp [hcounters], ?_, fun helse => ?_, fun hhere m r hm hr => ?_⟩
  · refine (sameNodes_nodeHeard (sameNodes_slotDelivery sl f s) (by rw [htimer]) sl.source).trans ⟨?_, ?_, ?_⟩
    · rw [ht, hnodes]
    · rw [ht, hirq]
    · rw [ht, flagSet_congr (congrArg _ hirq)]
  · rw [hboxes', hattention, hflag _ (by decide), hflag _ (by decide), slotDelivery_elsewhere helse]
    exact ⟨rfl, rfl, rfl, rfl⟩
  · rw [hboxes', hattention, hflag _ (by decide), hflag _ (by decide), slotDelivery_rx hhere hm hr, flagSet_applyNotice,
      flagSet_applyNotice, applyNotice_eq]
    refine ⟨rfl, rfl, ?_, ?_⟩ <;> simp [flagSet]

/-- The state that any other frame leaves in a RECEIVE slot: it is stray, and decides MISSED in a slot extended on it. -/
theorem stray_effects (h : ¬Expected sl sub f) (s : State) :
    let t := receiveSlotTakes sl sub extended f s
    t.boxes = s.boxes ∧ t.irq.counters = (countedIn .stray s.irq).counters ∧ t.irq.attention = s.irq.attention ∧
      flagSet .mbx t = flagSet .mbx s ∧ flagSet .overrun t = flagSet .overrun s ∧
      (sub = .receiving → extended = true → t.seq.slot = none ∧ SameNodes (nodeMissed sl.source s) t) ∧
      (sub = .receiving → extended = false →
        t.seq.slot = some { sl with body := .receive .awaiting false } ∧ SameNodes s t) ∧
      (sub ≠ .receiving → t.seq = s.seq ∧ SameNodes s t) := by
  intro t
  have ht := receiveSlotTakes_stray (extended := extended) (s := s) h
  by_cases hsub : sub = .receiving
  · cases extended with
    | true =>
      rw [if_pos ⟨rfl, hsub⟩] at ht
      change t = _ at ht
      have hnodes : SameNodes (nodeMissed sl.source s) (nodeMissed sl.source (closeSlot (bump .stray s))) :=
        sameNodes_nodeMissed (s := s) (t := closeSlot (bump .stray s)) ⟨rfl, rfl, rfl⟩ sl.source
      rw [ht]
      refine ⟨by simp, ?_, by simp, ?_, ?_, fun _ _ => ⟨by simp [closeSlot], hnodes⟩, fun _ hc => absurd hc (by decide), fun hc => absurd hsub hc⟩
      · simp [bump_eq]
      · rw [flagSet_nodeMissed_other (by decide)]; rfl
      · rw [flagSet_nodeMissed_other (by decide)]; rfl
    | false =>
      rw [if_neg (by simp), if_pos hsub] at ht
      change t = _ at ht
      rw [ht, bump_eq]
      exact ⟨rfl, rfl, rfl, rfl, rfl, fun _ hc => absurd hc (by decide), fun _ _ => ⟨rfl, rfl, rfl, rfl⟩, fun hc => absurd hsub hc⟩
  · rw [if_neg (fun hc => hsub hc.2), if_neg hsub, bump_eq] at ht
    change t = _ at ht
    rw [ht]
    exact ⟨rfl, rfl, rfl, rfl, rfl, fun hc => absurd hc hsub, fun hc => absurd hc hsub, fun _ => ⟨rfl, rfl, rfl, rfl⟩⟩

/-- Settles O30: the frame the slot expects, and every other. -/
theorem receiveSlotTakesFrame : Obligations.ReceiveSlotTakesFrame := by
  intro f s sl sub extended hmark hwait hlink hkind hsl hb
  have hroute : handOn f s = receiveSlotTakes sl sub extended f (afterMark s) := by
    rw [handOn_data hkind, routeFrame_receive (s := afterMark s) hlink hsl hb]
  have hhandled : SameNodes s (afterMark s) := ⟨rfl, rfl, rfl⟩
  refine ⟨_, exec_closingMark hmark, ?_⟩
  rw [hroute]
  refine ⟨by simp [afterMark], by simp [afterMark], by simp [afterMark], by simp [afterMark], by simp [afterMark],
    by simp [afterMark], by simp [afterMark], by simp [afterMark], fun hexpected => ?_, fun hother => ?_⟩
  · obtain ⟨hseq, hcounters, hnodes, helse, hhere⟩ := expected_effects (extended := extended) hexpected (afterMark s)
    have hheard := (sameNodes_nodeHeard hhandled rfl sl.source).trans hnodes
    exact ⟨hseq, hcounters, hheard.nodes, hheard.change, hheard.flag, helse, hhere⟩
  · obtain ⟨hboxes, hcounters, hattention, hmbx, hoverrun, hmissed, hawaits, hstays⟩ :=
      stray_effects (extended := extended) hother (afterMark s)
    refine ⟨hboxes, hcounters, hattention, hmbx, hoverrun, fun hsub hext => ?_, fun hsub hext => ?_, fun hsub => ?_⟩
    · obtain ⟨hslot, hnodes⟩ := hmissed hsub hext
      have hmiss := (sameNodes_nodeMissed hhandled sl.source).trans hnodes
      exact ⟨hslot, hmiss.nodes, hmiss.change, hmiss.flag⟩
    · obtain ⟨hslot, hnodes⟩ := hawaits hsub hext
      exact ⟨hslot, hnodes.nodes, hnodes.flag⟩
    · obtain ⟨hseq, hnodes⟩ := hstays hsub
      exact ⟨hseq, hnodes.nodes, hnodes.flag⟩

end Sys2Proof.Machine
end

section
/-! # The end of a transmission: sent, collided, and in STOPPING (R13, R14, R77, R91, R94, R102, R104, R105, R114, R115) -/

open Sys2Proof

namespace Sys2Proof.Machine

variable {s : State} {x : Transmission} {m : Fin 24} {b : TxMailbox} {rest : List (Fin 24)}

/-! ### What a requester takes of its frame's end -/

/-- A mailbox as its frame's end leaves it, with its attention bit and these flags (R163). -/
def released (m : Fin 24) (b : TxMailbox) (flags : BitVec 14) (s : State) : State :=
  { s with
    boxes := put s.boxes m (.tx b)
    irq := { s.irq with flags := s.irq.flags ||| flags, attention := s.irq.attention ||| BitVec.twoPow 24 m.val } }

theorem raiseAttention_eq (m : Fin 24) (s : State) : raiseAttention m s = { s with irq := { s.irq with
    flags := s.irq.flags ||| 0x0004, attention := s.irq.attention ||| BitVec.twoPow 24 m.val } } := by
  have hbit : BitVec.twoPow 14 Flag.mbx.bit = 0x0004 := by decide
  rw [raiseAttention, setFlag, hbit]

theorem setFlag_event_raiseAttention (m : Fin 24) (s : State) : setFlag .event (raiseAttention m s) =
    { s with irq := { s.irq with
      flags := s.irq.flags ||| 0x000C, attention := s.irq.attention ||| BitVec.twoPow 24 m.val } } := by
  have hbit : BitVec.twoPow 14 Flag.event.bit = 0x0008 := by decide
  have hflags : s.irq.flags ||| 0x0004 ||| 0x0008 = s.irq.flags ||| 0x000C := by rw [BitVec.or_assoc]; rfl
  rw [raiseAttention_eq, setFlag, hbit, hflags]

theorem leaveQueue_head (hq : s.queue.entries = m :: rest) (hm : m ∉ rest) :
    leaveQueue m s = { s with queue := { entries := rest, wait := none, turnedAway := false } } := by
  have hrest : (m :: rest).filter (· ≠ m) = rest := by
    rw [List.filter_cons_of_neg (by simp)]
    exact List.filter_eq_self.mpr fun k hk => by simpa using fun h : k = m => hm (h ▸ hk)
  rw [leaveQueue_eq, hq, hrest]
  simp

theorem outcomeCompleted_slot (hb : s.boxes[m] = .tx b) :
    outcomeCompleted (.slot m) s = released m (deferred b.slotSent) 0x0004 s := by
  rw [outcomeCompleted, updateTx_tx hb, applyPending_eq, raiseAttention_eq]; rfl

theorem outcomeCompleted_event (hb : s.boxes[m] = .tx b) (hq : s.queue.entries = m :: rest) (hm : m ∉ rest) :
    outcomeCompleted (.event m) s = released m (deferred b.eventSent) 0x000C
      { s with queue := { entries := rest, wait := none, turnedAway := false } } := by
  rw [outcomeCompleted, updateTx_tx hb, applyPending_eq, leaveQueue_head (by exact hq) hm, setFlag_event_raiseAttention]; rfl

theorem outcomeCollided_slot (hb : s.boxes[m] = .tx b) :
    outcomeCollided (.slot m) s = released m (deferred b.slotCollided) 0x0004 s := by
  rw [outcomeCollided, updateTx_tx hb, applyPending_eq, raiseAttention_eq]; rfl

theorem retryOf_tx (hb : s.boxes[m] = .tx b) : retryOf m s = b.retry := by rw [retryOf, hb]

theorem outcomeCollided_retried (hb : s.boxes[m] = .tx b) (hretry : b.retry < s.params.retryLimit.toNat) :
    outcomeCollided (.event m) s = { s with boxes := put s.boxes m (.tx (deferred b.eventRetried)) } := by
  rw [outcomeCollided, retryOf_tx hb, if_pos hretry, updateTx_tx hb, applyPending_eq]

theorem outcomeCollided_dropped (hb : s.boxes[m] = .tx b) (hretry : s.params.retryLimit.toNat ≤ b.retry)
    (hq : s.queue.entries = m :: rest) (hm : m ∉ rest) :
    outcomeCollided (.event m) s = released m (deferred b.eventDropped) 0x000C
      { s with queue := { entries := rest, wait := none, turnedAway := false } } := by
  rw [outcomeCollided, retryOf_tx hb, if_neg (by omega), updateTx_tx hb, applyPending_eq, leaveQueue_head (by exact hq) hm,
    setFlag_event_raiseAttention]
  rfl

theorem slotSent_scheduled {r : Bool} (hmode : b.mode = .scheduled r) :
    b.slotSent = { b with lastOutcome := .sent, state := if r then .loaded else .free } := by
  rw [TxMailbox.slotSent, hmode]
  cases r <;> rfl

theorem countCollision_eq (s : State) : countCollision s =
    { s with irq := { countedIn .collisions s.irq with flags := s.irq.flags ||| 0x0400 } } := by
  have hbit : BitVec.twoPow 14 Flag.collision.bit = 0x0400 := by decide
  rw [countCollision, setFlag, hbit, bump_eq]
  rfl

/-! ### Outside STOPPING -/

theorem finishStopping_other (h : s.link.state ≠ .stopping) : finishStopping s = s := if_neg h

theorem exec_transmissionCompletes (hx : s.tx = some x) (hc : x.collided = false) (hall : x.chars.length ≤ x.index) :
    exec .transmissionCompletes s = .next (completeTransmission x s) := by
  have hmatched : x.allMatched = true := by simp [Transmission.allMatched, hc, hall]
  simp only [exec_transmissionCompletes_eq, execTransmissionCompletes, hx, hmatched, if_true]

theorem exec_transmissionCollides (hx : s.tx = some x) (h : x.collided = true ∨ x.index < x.chars.length) :
    exec .transmissionCollides s = .next (collideTransmission x s) := by
  have hmatched : x.allMatched = false := by
    obtain h | h := h
    · simp [Transmission.allMatched, h]
    · simp [Transmission.allMatched, h]
  simp only [exec_transmissionCollides_eq, execTransmissionCollides, hx, hmatched]
  rfl

theorem completeTransmission_eq {u : State} (hlink : s.link.state ≠ .stopping)
    (hu : outcomeCompleted x.requester (transmitterIdle s) = u) (hstate : u.link.state = s.link.state) :
    completeTransmission x s = settleWait u := by
  rw [completeTransmission, endTransmission, hu, finishStopping_other (by rwa [hstate])]

theorem collideTransmission_eq {u : State} (hlink : s.link.state ≠ .stopping)
    (hu : outcomeCollided x.requester (countCollision (transmitterIdle s)) = u) (hstate : u.link.state = s.link.state) :
    collideTransmission x s = settleWait u := by
  rw [collideTransmission, endTransmission, hu, finishStopping_other (by rwa [hstate])]

/-- Settles O48: by requester. -/
theorem transmissionCompletes : Obligations.TransmissionCompletes := by
  intro s x hx hc hall hlink idle noted
  rw [exec_transmissionCompletes hx hc hall]
  refine ⟨fun hr => ?_, fun m b r hr hb hmode => ?_, fun m b rest hr hb hq hm => ?_⟩
  · exact congrArg _ (completeTransmission_eq hlink (by rw [hr]; rfl) rfl)
  · refine congrArg _ (completeTransmission_eq hlink ?_ rfl)
    rw [hr, outcomeCompleted_slot (s := transmitterIdle s) hb, slotSent_scheduled hmode]
    rfl
  · refine congrArg _ (completeTransmission_eq hlink ?_ rfl)
    rw [hr, outcomeCompleted_event (s := transmitterIdle s) hb hq hm]
    rfl

/-- Settles O49: by requester, and an event by the retry limit. -/
theorem transmissionCollides : Obligations.TransmissionCollides := by
  intro s x hx hcollided hlink idle ended counted marked
  rw [exec_transmissionCollides hx hcollided]
  refine ⟨fun hr => ?_, fun m b hr hb => ?_, fun m b hr hb hretry => ?_, fun m b rest hr hb hretry hq hm => ?_⟩
  · refine congrArg _ (collideTransmission_eq hlink ?_ rfl)
    rw [hr, countCollision_eq]
    rfl
  · refine congrArg _ (collideTransmission_eq hlink ?_ rfl)
    rw [hr, countCollision_eq, outcomeCollided_slot (by exact hb)]
    simp only [released, BitVec.or_assoc]
    rfl
  · refine congrArg _ (collideTransmission_eq hlink ?_ rfl)
    rw [hr, countCollision_eq, outcomeCollided_retried (by exact hb) (by exact hretry)]
    rfl
  · refine congrArg _ (collideTransmission_eq hlink ?_ rfl)
    rw [hr, countCollision_eq, outcomeCollided_dropped (by exact hb) (by exact hretry) (by exact hq) hm]
    simp only [released, BitVec.or_assoc]
    rfl

/-! ### In STOPPING (R91, R94) -/

/-- OFF with STOP completed, as the end of the last frame leaves the link (R91). -/
def stopped (u : State) : State := finishedAs .ok 0 0 (offState { u with tx := none })

theorem settleWait_stopped (u : State) : settleWait (stopped u) = stopped u :=
  (settleWait_none (headMayWait_of_not_running (show LinkState.off ≠ .running by decide))).trans rfl

theorem settle_finishStopping {u : State} (h : u.link.state = .stopping) (htx : u.tx = none) :
    settleWait (finishStopping u) = stopped u := by
  have hfinished : finishStopping u = stopped u := by
    rw [finishStopping, if_pos h, enterOff_eq (by rw [h]; decide), complete_eq, stopped]
    obtain ⟨_, _, _, tx⟩ := u
    obtain rfl : tx = none := htx
    rfl
  rw [hfinished, settleWait_stopped]

/-- The outcome that a frame's end in STOPPING has, before the link enters OFF. -/
def outcomeOf (x : Transmission) (s : State) : State :=
  if x.allMatched then outcomeCompleted x.requester (transmitterIdle s)
  else outcomeCollided x.requester (countCollision (transmitterIdle s))

theorem exec_ends {c : Instr} (hx : s.tx = some x)
    (hc : (c = .transmissionCompletes ∧ x.allMatched = true) ∨ (c = .transmissionCollides ∧ x.allMatched = false)) :
    exec c s = .next (settleWait (finishStopping (outcomeOf x s))) := by
  obtain ⟨rfl, hall⟩ | ⟨rfl, hall⟩ := hc
  · simp only [exec_transmissionCompletes_eq, execTransmissionCompletes, hx, hall, if_true, outcomeOf]; rfl
  · simp only [exec_transmissionCollides_eq, execTransmissionCollides, hx, hall, outcomeOf]; rfl

theorem endDueTransmission_due (hx : s.tx = some x) (hdue : x.allMatched = true ∨ x.collided = true) :
    endDueTransmission s = settleWait (finishStopping (outcomeOf x s)) := by
  simp only [endDueTransmission, hx]
  cases hall : x.allMatched with
  | true => simp only [outcomeOf, hall, if_true]; rfl
  | false =>
    have hcollided : x.collided = true := by simpa [hall] using hdue
    simp only [outcomeOf, hall, hcollided, if_true]; rfl

/-- A state as the end of a CT leaves the counts of line idle in it, with the frame still SENDING. -/
def sendingAt (l : LineState) (r : Receiver) (w : Option Nat) (s : State) : State :=
  { s with line := l, rx := r, queue := { s.queue with wait := w } }

/-- The happenings that can end a frame in STOPPING. -/
def EndsFrame (c : Instr) (x : Transmission) (s : State) : Prop :=
  (c = .transmissionCompletes ∧ x.allMatched = true) ∨ (c = .transmissionCollides ∧ x.allMatched = false) ∨
    (c = .positionReached ∧ s.timer.length ≠ none ∧ (x.allMatched = true ∨ x.collided = true))

/-- The frame's end leads to OFF with STOP completed, whichever happening brings it (R57, R91): the timer, stopped then, does
not advance. -/
theorem exec_stops {c : Instr} {u : State} (hx : s.tx = some x) (hc : EndsFrame c x s)
    (h : ∀ l r w, ∃ v, outcomeOf x (sendingAt l r w s) = v ∧ v.link.state = .stopping ∧ v.tx = none ∧
      stopped v = stopped u) : exec c s = .next (stopped u) := by
  have hstops (l : LineState) (r : Receiver) (w : Option Nat) :
      settleWait (finishStopping (outcomeOf x (sendingAt l r w s))) = stopped u := by
    obtain ⟨v, hv, hlink, htx, hstopped⟩ := h l r w
    rw [hv, settle_finishStopping hlink htx, hstopped]
  have hnow := hstops s.line s.rx s.queue.wait
  obtain hc | hc | ⟨rfl, hlength, hdue⟩ := hc
  · exact (exec_ends hx (.inl hc)).trans (congrArg _ hnow)
  · exact (exec_ends hx (.inr hc)).trans (congrArg _ hnow)
  · have hpassed := hstops (ctPasses s).line (ctPasses s).rx (ctPasses s).queue.wait
    have hend : endDueTransmission (ctPasses s) = stopped u :=
      (endDueTransmission_due (s := ctPasses s) hx hdue).trans hpassed
    change Host.Outcome.next (endOfCt s) = _
    obtain ⟨length, hlen⟩ := Option.ne_none_iff_exists'.mp hlength
    simp only [endOfCt, hlen, hend]
    rfl

theorem outcomeOf_sent (h : x.allMatched = true) (s : State) :
    outcomeOf x s = outcomeCompleted x.requester (transmitterIdle s) := if_pos h

theorem outcomeOf_collided (h : x.allMatched = false) (s : State) :
    outcomeOf x s = outcomeCollided x.requester (countCollision (transmitterIdle s)) := if_neg (by rw [h]; decide)

/-- Settles O50: the outcome by requester, then OFF. -/
theorem stoppingEnds : Obligations.StoppingEnds := by
  intro s x c hx hlink sent hc irq ends noted
  have hc : EndsFrame c x s := hc
  have hsent (h : x.allMatched = true) : sent = true := h
  have hcollided (h : x.allMatched = false) : sent = false := h
  refine ⟨fun hr => ?_, fun m b r hr hb hmode => ?_, fun m b rest hr hb hq hm => ⟨fun hs => ?_, fun hs hretry => ?_,
    fun hs hretry => ?_⟩⟩
  · refine exec_stops hx hc fun l r w => ⟨_, rfl, ?_⟩
    cases hall : x.allMatched with
    | true =>
      rw [outcomeOf_sent hall, hr]
      simp only [irq, hsent hall, if_true]
      exact ⟨hlink, rfl, rfl⟩
    | false =>
      rw [outcomeOf_collided hall, hr, countCollision_eq]
      simp only [irq, hcollided hall, Bool.false_eq_true, if_false]
      exact ⟨hlink, rfl, rfl⟩
  · refine exec_stops hx hc fun l r' w => ⟨_, rfl, ?_⟩
    cases hall : x.allMatched with
    | true =>
      rw [outcomeOf_sent hall, hr, outcomeCompleted_slot (by exact hb), slotSent_scheduled hmode]
      simp only [noted, irq, hsent hall, if_true]
      exact ⟨hlink, rfl, rfl⟩
    | false =>
      rw [outcomeOf_collided hall, hr, countCollision_eq, outcomeCollided_slot (by exact hb)]
      simp only [noted, irq, hcollided hall, Bool.false_eq_true, if_false]
      exact ⟨hlink, rfl, rfl⟩
  · refine exec_stops hx hc fun l r w => ⟨_, rfl, ?_⟩
    rw [outcomeOf_sent hs, hr, outcomeCompleted_event (by exact hb) (by exact hq) hm]
    simp only [noted, irq, hs, if_true]
    exact ⟨hlink, rfl, rfl⟩
  · refine exec_stops hx hc fun l r w => ⟨_, rfl, ?_⟩
    rw [outcomeOf_collided hs, hr, countCollision_eq, outcomeCollided_retried (by exact hb) (by exact hretry)]
    simp only [irq, hs, Bool.false_eq_true, if_false]
    exact ⟨hlink, rfl, rfl⟩
  · refine exec_stops hx hc fun l r w => ⟨_, rfl, ?_⟩
    rw [outcomeOf_collided hs, hr, countCollision_eq,
      outcomeCollided_dropped (by exact hb) (by exact hretry) (by exact hq) hm]
    simp only [noted, irq, hs, Bool.false_eq_true, if_false]
    exact ⟨hlink, rfl, rfl⟩

end Sys2Proof.Machine
end

section
/-! # Validation: the checks of a bank in their order (R46 to R48) -/

open Sys2Proof

namespace Sys2Proof.Machine

variable {boxes : Vector Mailbox 24}

/-! ### The checks of one entry -/

/-- The mailbox that an entry names exists and is configured for its kind (R47, reason 8). -/
def fitsKind (boxes : Vector Mailbox 24) (e : Entry) : Bool :=
  match boxes.toList[e.mailbox.toNat]? with
  | some (.tx t) => e.kind == 0x01 && t.mode != .event
  | some (.rx _) => e.kind == 0x02
  | none => false

/-- The checks of one entry after one that ends at `previousEnd`, each with its reason (R46, reasons 4 to 10). -/
def entryChecks (boxes : Vector Mailbox 24) (previousEnd : Option Nat) (e : Entry) : List (Nat × Bool) :=
  [(4, e.kind == 0x01 || e.kind == 0x02 || e.kind == 0x03), (5, 28 ≤ e.start.toNat),
    (6, (if e.kind = 0x03 then 16 else 10) ≤ e.window.toNat),
    (7, e.exponent.toNat ≤ 6 && e.phase.toNat < 2 ^ e.exponent.toNat), (8, e.kind == 0x03 || fitsKind boxes e),
    (9, e.kind != 0x02 || e.source.toNat ≤ 239), (10, previousEnd.all (· ≤ e.start.toNat))]

theorem find?_failedCheck_cons (reason : Nat) (ok : Bool) (rest : List (Nat × Bool)) :
    (((reason, ok) :: rest).find? (fun c => !c.2)).map Prod.fst =
      if ok = false then some reason else (rest.find? (fun c => !c.2)).map Prod.fst := by
  cases ok <;> rfl

theorem getElem?_boxes (boxes : Vector Mailbox 24) (b : Byte) :
    boxes.toList[b.toNat]? = (mailboxIndex b).map (fun m => boxes[m]) := by
  unfold mailboxIndex
  split
  next h => simp [h]
  next h => simp; omega

theorem mailboxCheck_transmit {e : Entry} (h : e.kind = 0x01) : mailboxCheck boxes .transmit e = fitsKind boxes e := by
  simp only [mailboxCheck, fitsKind, getElem?_boxes, h]
  cases mailboxIndex e.mailbox with
  | none => rfl
  | some m =>
    simp only [Option.map_some]
    cases boxes[m] <;> simp [mailboxFits]

theorem mailboxCheck_receive {e : Entry} (h : e.kind = 0x02) : mailboxCheck boxes .receive e = fitsKind boxes e := by
  simp only [mailboxCheck, fitsKind, getElem?_boxes, h]
  cases mailboxIndex e.mailbox with
  | none => rfl
  | some m =>
    simp only [Option.map_some]
    cases boxes[m] <;> simp [mailboxFits]

theorem entryKind?_cases (b : Byte) :
    (b = 0x01 ∧ entryKind? b = some .transmit) ∨ (b = 0x02 ∧ entryKind? b = some .receive) ∨
      (b = 0x03 ∧ entryKind? b = some .openWindow) ∨
      ((b == 0x01 || b == 0x02 || b == 0x03) = false ∧ entryKind? b = none) := by
  revert b; decide

/-- The recorded reason of an entry is that of its first check that fails (R46). -/
theorem entryFault_eq (previousEnd : Option Nat) (e : Entry) : entryFault boxes previousEnd e =
    ((entryChecks boxes previousEnd e).find? (fun c => !c.2)).map Prod.fst := by
  unfold entryFault entryChecks
  simp only [find?_failedCheck_cons, List.find?_nil, Option.map_none]
  obtain ⟨hkind, hk⟩ | ⟨hkind, hk⟩ | ⟨hkind, hk⟩ | ⟨hkind, hk⟩ := entryKind?_cases e.kind
  · rw [hk]
    simp only [hkind, mailboxCheck_transmit hkind]
    cases previousEnd <;> simp [EntryKind.minWindow, or_iff_not_imp_left]
  · rw [hk]
    simp only [hkind, mailboxCheck_receive hkind]
    cases previousEnd <;> simp [EntryKind.minWindow, or_iff_not_imp_left]
  · rw [hk]
    simp only [hkind, mailboxCheck]
    cases previousEnd <;> simp [EntryKind.minWindow, or_iff_not_imp_left]
  · rw [hk, hkind]; rfl

theorem entryFault_eq_none (previousEnd : Option Nat) (e : Entry) :
    entryFault boxes previousEnd e = none ↔ ∀ c ∈ entryChecks boxes previousEnd e, c.2 = true := by
  rw [entryFault_eq, Option.map_eq_none_iff, List.find?_eq_none]
  simp

/-! ### The entries in their order -/

/-- The end of the entry before the one at `k`, in a run of entries after one that ends at `previousEnd`. -/
def endBefore (previousEnd : Option Nat) (entries : List Entry) : Nat → Option Nat
  | 0 => previousEnd
  | k + 1 => (entries[k]?).map Entry.finish

theorem endBefore_cons (previousEnd : Option Nat) (e : Entry) (rest : List Entry) (k : Nat) :
    endBefore previousEnd (e :: rest) (k + 1) = endBefore (some e.finish) rest k := by
  cases k <;> rfl

/-- Every entry of a run passes its checks. -/
def EntriesPass (boxes : Vector Mailbox 24) (previousEnd : Option Nat) (entries : List Entry) : Prop :=
  ∀ k e, entries[k]? = some e → entryFault boxes (endBefore previousEnd entries k) e = none

theorem entriesPass_cons {previousEnd : Option Nat} {e : Entry} {rest : List Entry} :
    EntriesPass boxes previousEnd (e :: rest) ↔
      entryFault boxes previousEnd e = none ∧ EntriesPass boxes (some e.finish) rest := by
  constructor
  · exact fun h => ⟨h 0 e rfl, fun k e' he => endBefore_cons previousEnd e rest k ▸ h (k + 1) e' he⟩
  · rintro ⟨hfirst, hrest⟩ k e' he
    cases k with
    | zero => obtain rfl := Option.some.inj he; exact hfirst
    | succ k => rw [endBefore_cons]; exact hrest k e' he

variable {cycleLength : Nat}

/-- Where every entry passes, the closing guard is left (R48). -/
theorem entriesFault_pass {entries : List Entry} {previousEnd : Option Nat} (i : Nat)
    (h : EntriesPass boxes previousEnd entries) : entriesFault boxes cycleLength previousEnd i entries =
      entriesFault boxes cycleLength (endBefore previousEnd entries entries.length) (i + entries.length) [] := by
  induction entries generalizing previousEnd i with
  | nil => rfl
  | cons e rest ih =>
    obtain ⟨hfirst, hrest⟩ := entriesPass_cons.mp h
    rw [entriesFault, hfirst, List.length_cons, endBefore_cons]
    simp only
    rw [ih (i + 1) hrest, Nat.add_right_comm, Nat.add_assoc]

/-- The first entry that fails is recorded, with its reason and its index (R46). -/
theorem entriesFault_fails {entries : List Entry} {previousEnd : Option Nat} (i : Nat) {j : Nat} {e : Entry} {reason : Nat}
    (he : entries[j]? = some e) (hfault : entryFault boxes (endBefore previousEnd entries j) e = some reason)
    (hbefore : EntriesPass boxes previousEnd (entries.take j)) :
    entriesFault boxes cycleLength previousEnd i entries = some ⟨reason, BitVec.ofNat 8 (i + j)⟩ := by
  induction entries generalizing previousEnd i j with
  | nil => cases he
  | cons e' rest ih =>
    cases j with
    | zero =>
      obtain rfl := Option.some.inj he
      have hfault : entryFault boxes previousEnd e' = some reason := hfault
      rw [entriesFault, hfault]
      rfl
    | succ j =>
      obtain ⟨hfirst, hrest⟩ := entriesPass_cons.mp hbefore
      rw [endBefore_cons] at hfault
      rw [entriesFault, hfirst]
      simp only
      rw [ih (i + 1) he hfault hrest, Nat.add_right_comm, Nat.add_assoc]

theorem entriesFault_eq_none {entries : List Entry} {previousEnd : Option Nat} (i : Nat) :
    entriesFault boxes cycleLength previousEnd i entries = none ↔ EntriesPass boxes previousEnd entries ∧
      ∀ lastEnd ∈ endBefore previousEnd entries entries.length, lastEnd + 4 ≤ cycleLength := by
  induction entries generalizing previousEnd i with
  | nil =>
    have hpass : EntriesPass boxes previousEnd [] := fun k e he => by cases he
    cases previousEnd with
    | none => simp [entriesFault, hpass, endBefore]
    | some lastEnd => simp [entriesFault, hpass, endBefore]
  | cons e rest ih =>
    rw [entriesPass_cons, List.length_cons, endBefore_cons, entriesFault]
    cases hfault : entryFault boxes previousEnd e with
    | none => simp only [ih, true_and]
    | some reason => simp

/-! ### The header, then the entries -/

theorem validate_header {b : Bank} (hid : b.id ≠ 0) (hlow : 64 ≤ b.length.toNat) (hhigh : b.length.toNat ≤ 16383)
    (hcount : b.count.toNat ≤ 32) : validate boxes b = entriesFault boxes b.length.toNat none 0 b.schedule := by
  have hlength : cycleLengthOk b.length = true := (cycleLengthOk_iff _).mpr ⟨hlow, hhigh⟩
  rw [validate, if_neg hid, hlength, if_neg (by decide), if_neg (by omega)]

theorem validate_length {b : Bank} (hid : b.id ≠ 0) (h : b.length.toNat < 64 ∨ 16383 < b.length.toNat) :
    validate boxes b = some ⟨2, 0xFF⟩ := by
  have hlength : cycleLengthOk b.length = false := by
    rw [Bool.eq_false_iff]
    intro hok
    have hbounds := (cycleLengthOk_iff _).mp hok
    omega
  rw [validate, if_neg hid, hlength, if_pos (by decide)]

theorem validate_count {b : Bank} (hid : b.id ≠ 0) (hlow : 64 ≤ b.length.toNat) (hhigh : b.length.toNat ≤ 16383)
    (hcount : 32 < b.count.toNat) : validate boxes b = some ⟨3, 0xFF⟩ := by
  have hlength : cycleLengthOk b.length = true := (cycleLengthOk_iff _).mpr ⟨hlow, hhigh⟩
  rw [validate, if_neg hid, hlength, if_neg (by decide), if_pos hcount]

theorem schedule_getElem? {b : Bank} {i : Nat} (hi : i < 32) (hcount : i < b.count.toNat) :
    b.schedule[i]? = some b.entries[i] := by
  rw [Bank.schedule, List.getElem?_take_of_lt hcount]
  simp [hi]

theorem schedule_length {b : Bank} (h : b.count.toNat ≤ 32) : b.schedule.length = b.count.toNat := by
  simp [Bank.schedule, h]

theorem schedule_getElem?_eq_some {b : Bank} {i : Nat} {e : Entry} (h : b.schedule[i]? = some e) :
    ∃ hi : i < 32, i < b.count.toNat ∧ e = b.entries[i] := by
  obtain ⟨hlt, he⟩ := List.getElem?_eq_some_iff.mp h
  have hlt' : i < b.count.toNat ∧ i < 32 := by simpa [Bank.schedule] using hlt
  refine ⟨hlt'.2, hlt'.1, ?_⟩
  rw [← he]
  simp [Bank.schedule]

theorem validate_eq_none {b : Bank} : validate boxes b = none ↔
    (b.id ≠ 0 ∧ 64 ≤ b.length.toNat ∧ b.length.toNat ≤ 16383 ∧ b.count.toNat ≤ 32) ∧
      EntriesPass boxes none b.schedule ∧
        ∀ lastEnd ∈ endBefore none b.schedule b.schedule.length, lastEnd + 4 ≤ b.length.toNat := by
  constructor
  · intro h
    have hid : b.id ≠ 0 := fun hid => by rw [validate, if_pos hid] at h; cases h
    have hlength : 64 ≤ b.length.toNat ∧ b.length.toNat ≤ 16383 := by
      by_contra hbad
      rw [validate_length hid (by omega)] at h; cases h
    have hcount : b.count.toNat ≤ 32 := by
      by_contra hbad
      rw [validate_count hid hlength.1 hlength.2 (by omega)] at h; cases h
    rw [validate_header hid hlength.1 hlength.2 hcount] at h
    exact ⟨⟨hid, hlength.1, hlength.2, hcount⟩, (entriesFault_eq_none 0).mp h⟩
  · rintro ⟨⟨hid, hlow, hhigh, hcount⟩, h⟩
    rw [validate_header hid hlow hhigh hcount]
    exact (entriesFault_eq_none 0).mpr h

/-! ### What an entry that passes is -/

theorem fitsKind_transmit {e : Entry} (hk : e.kind = 0x01) : fitsKind boxes e = true ↔
    ∃ (m : Fin 24) (t : TxMailbox), e.mailbox.toNat = m.val ∧ boxes[m] = .tx t ∧ t.mode ≠ .event := by
  simp only [fitsKind, getElem?_boxes, hk, ← mailboxIndex_eq_some]
  cases mailboxIndex e.mailbox with
  | none => simp
  | some m =>
    simp only [Option.map_some, Option.some.injEq]
    cases hb : boxes[m] with
    | tx t => simp [hb]
    | rx r => simp [hb]

theorem fitsKind_receive {e : Entry} (hk : e.kind = 0x02) : fitsKind boxes e = true ↔
    ∃ (m : Fin 24) (r : RxMailbox), e.mailbox.toNat = m.val ∧ boxes[m] = .rx r := by
  simp only [fitsKind, getElem?_boxes, hk, ← mailboxIndex_eq_some]
  cases mailboxIndex e.mailbox with
  | none => simp
  | some m =>
    simp only [Option.map_some, Option.some.injEq]
    cases hb : boxes[m] with
    | tx t => simp [hb]
    | rx r => simp [hb]

/-- What an entry is that passes its checks, apart from its place after the entry before it (R47). -/
def EntryIs (boxes : Vector Mailbox 24) (e : Entry) : Prop :=
  28 ≤ e.start.toNat ∧ e.exponent.toNat ≤ 6 ∧ e.phase.toNat < 2 ^ e.exponent.toNat ∧
    (e.kind = 0x01 ∧ 10 ≤ e.window.toNat ∧
        (∃ (m : Fin 24) (t : TxMailbox), e.mailbox.toNat = m.val ∧ boxes[m] = .tx t ∧ t.mode ≠ .event) ∨
      e.kind = 0x02 ∧ 10 ≤ e.window.toNat ∧ e.source.toNat ≤ 239 ∧
        (∃ (m : Fin 24) (r : RxMailbox), e.mailbox.toNat = m.val ∧ boxes[m] = .rx r) ∨
      e.kind = 0x03 ∧ 16 ≤ e.window.toNat)

theorem entryFault_none_iff (previousEnd : Option Nat) (e : Entry) : entryFault boxes previousEnd e = none ↔
    EntryIs boxes e ∧ ∀ p ∈ previousEnd, p ≤ e.start.toNat := by
  have hall : previousEnd.all (· ≤ e.start.toNat) = true ↔ ∀ p ∈ previousEnd, p ≤ e.start.toNat := by
    cases previousEnd <;> simp
  rw [entryFault_eq_none, ← hall]
  simp only [entryChecks, List.forall_mem_cons, EntryIs]
  obtain ⟨hk, -⟩ | ⟨hk, -⟩ | ⟨hk, -⟩ | ⟨hk, -⟩ := entryKind?_cases e.kind
  · rw [← fitsKind_transmit hk]; simp [hk]; tauto
  · rw [← fitsKind_receive hk]; simp [hk]; tauto
  · simp [hk]; tauto
  · simp at hk
    simp [hk]

theorem endBefore_schedule {b : Bank} {i : Nat} (hi : i < 32) (hcount : i < b.count.toNat) :
    endBefore none b.schedule (i + 1) = some b.entries[i].finish := by
  rw [endBefore, schedule_getElem? hi hcount]; rfl

/-- Settles O51: every entry passes on its own, none starts before the end of the one before it, and the last end leaves the
closing guard. -/
theorem validationPasses : Obligations.ValidationPasses := by
  intro boxes b entry finish
  rw [validate_eq_none]
  constructor
  · rintro ⟨⟨hid, hlow, hhigh, hcount⟩, hpass, hguard⟩
    refine ⟨hid, hlow, hhigh, hcount, fun i hi hic => ?_⟩
    obtain ⟨⟨hstart, hexp, hphase, hkind⟩, -⟩ := (entryFault_none_iff _ _).mp (hpass i _ (schedule_getElem? hi hic))
    refine ⟨hstart, hexp, hphase, hkind, fun hi' hic' => ?_, fun hlast => ?_⟩
    · obtain ⟨-, hnext⟩ := (entryFault_none_iff _ _).mp (hpass (i + 1) _ (schedule_getElem? hi' hic'))
      exact hnext _ (endBefore_schedule hi hic)
    · rw [schedule_length hcount, ← hlast] at hguard
      exact hguard _ (endBefore_schedule hi hic)
  · rintro ⟨hid, hlow, hhigh, hcount, hentries⟩
    refine ⟨⟨hid, hlow, hhigh, hcount⟩, fun k e he => ?_, fun lastEnd hlast => ?_⟩
    · obtain ⟨hk, hkc, rfl⟩ := schedule_getElem?_eq_some he
      obtain ⟨hstart, hexp, hphase, hkind, -, -⟩ := hentries k hk hkc
      refine (entryFault_none_iff _ _).mpr ⟨⟨hstart, hexp, hphase, hkind⟩, fun p hp => ?_⟩
      cases k with
      | zero => cases hp
      | succ k =>
        obtain ⟨-, -, -, -, hnext, -⟩ := hentries k (by omega) (by omega)
        rw [endBefore_schedule (by omega) (by omega)] at hp
        obtain rfl := Option.some.inj hp
        exact hnext hk hkc
    · rw [schedule_length hcount] at hlast
      cases hn : b.count.toNat with
      | zero => rw [hn] at hlast; cases hlast
      | succ k =>
        rw [hn] at hlast hcount
        obtain ⟨-, -, -, -, -, hguard⟩ := hentries k (by omega) (by omega)
        rw [endBefore_schedule (by omega) (by omega)] at hlast
        obtain rfl := Option.some.inj hlast
        exact hguard hn.symm

theorem entries_getD {b : Bank} {i : Nat} (hi : i < 32) (e : Entry) : b.entries.toList.getD i e = b.entries[i] := by
  simp [hi]

/-- The check of an entry's place by the end of the entry before it (R46, reason 10). -/
theorem all_endBefore {b : Bank} {i : Nat} (hi : i < 32) (hcount : i < b.count.toNat) (e : Entry) (start : Nat) :
    (endBefore none b.schedule i).all (· ≤ start) =
      (i == 0 || decide ((b.entries.toList.getD (i - 1) e).start.toNat + (b.entries.toList.getD (i - 1) e).window.toNat ≤ start)) := by
  cases i with
  | zero => rfl
  | succ i =>
    rw [endBefore_schedule (by omega) (by omega), Nat.add_sub_cancel, entries_getD (by omega)]
    simp [Entry.finish]

theorem endBefore_take {previousEnd : Option Nat} {entries : List Entry} {n k : Nat} (h : k ≤ n) :
    endBefore previousEnd (entries.take n) k = endBefore previousEnd entries k := by
  cases k with
  | zero => rfl
  | succ k => rw [endBefore, endBefore, List.getElem?_take_of_lt h]

/-- Settles O52: the header, the first entry with a check that fails, then the closing guard. -/
theorem validationReason : Obligations.ValidationReason := by
  intro boxes b entry finish fits checks passes header
  have hchecks {i : Nat} (hi : i < 32) (hcount : i < b.count.toNat) :
      checks i = entryChecks boxes (endBefore none b.schedule i) b.entries[i] := by
    have hentry : entry i = b.entries[i] := entries_getD hi _
    rw [entryChecks, all_endBefore hi hcount (Entry.mk 0 0 0 0 0 0 0), ← hentry]
    rfl
  have hpasses {n : Nat} (hn : n ≤ 32) (hcount : n ≤ b.count.toNat) (h : ∀ k, k < n → passes k) :
      EntriesPass boxes none (b.schedule.take n) := by
    intro k e he
    have hkn : k < n := by
      by_contra hge
      rw [List.getElem?_eq_none ((List.length_take_le n _).trans (Nat.le_of_not_lt hge))] at he
      cases he
    rw [List.getElem?_take_of_lt hkn] at he
    obtain ⟨hk, hkc, rfl⟩ := schedule_getElem?_eq_some he
    rw [endBefore_take (Nat.le_of_lt hkn), entryFault_eq_none, ← hchecks hk hkc]
    exact h k hkn
  refine ⟨fun hid => if_pos hid, validate_length, validate_count, fun hheader i hi hbefore c hc => ?_,
    fun hheader hcount hpass hguard => ?_⟩
  · obtain ⟨hid, hlow, hhigh, hcount⟩ := hheader
    have hfault : entryFault boxes (endBefore none b.schedule i) (b.entries[i]'(by omega)) = some c.1 := by
      rw [entryFault_eq, ← hchecks (by omega) hi, hc]; rfl
    rw [validate_header hid hlow hhigh hcount, entriesFault_fails 0 (schedule_getElem? (by omega) hi) hfault
      (hpasses (by omega) (by omega) hbefore), Nat.zero_add]
  · obtain ⟨hid, hlow, hhigh, hcount'⟩ := hheader
    have hall := hpasses hcount' le_rfl hpass
    rw [← schedule_length hcount', List.take_length] at hall
    obtain ⟨n, hn⟩ : ∃ n, b.count.toNat = n + 1 := ⟨b.count.toNat - 1, by omega⟩
    have hlast := endBefore_schedule (b := b) (i := n) (by omega) (by omega)
    have hfinish : finish n = (b.entries[n]'(by omega)).finish := by
      simp only [finish, entry, entries_getD (show n < 32 by omega)]
      rfl
    rw [hn, Nat.add_sub_cancel, hfinish] at hguard
    rw [validate_header hid hlow hhigh hcount', entriesFault_pass 0 hall, schedule_length hcount', hn, hlast]
    exact if_neg (by rw [Config.closingGuard]; omega)

end Sys2Proof.Machine
end

section
/-! # What counting marks: flags, counters and host points (R26, R36, R157, R166) -/

open Sys2Proof

namespace Sys2Proof.Machine

/-! ### Flags and counters that an operation may touch -/

/-- The operation from `s` to `t` sets flags of `F` alone and counts in counters of `C` alone; a full counter stays full. -/
structure Marks (F : List Flag) (C : List Counter) (s t : State) : Prop where
  flags : ∀ g, g ∉ F → flagSet g t = flagSet g s
  set : ∀ g, flagSet g s = true → flagSet g t = true
  counters : ∀ c, c ∉ C → counterValue c t = counterValue c s
  full : ∀ c, counterValue c s = 255 → counterValue c t = 255

namespace Marks

variable {F F' : List Flag} {C C' : List Counter} {s t u : State}

theorem trans (h : Marks F C s t) (h' : Marks F C t u) : Marks F C s u :=
  ⟨fun g hg => (h'.flags g hg).trans (h.flags g hg), fun g hg => h'.set g (h.set g hg),
    fun c hc => (h'.counters c hc).trans (h.counters c hc), fun c hc => h'.full c (h.full c hc)⟩

theorem mono (h : Marks F C s t) (hF : ∀ g ∈ F, g ∈ F') (hC : ∀ c ∈ C, c ∈ C') : Marks F' C' s t :=
  ⟨fun g hg => h.flags g fun hin => hg (hF g hin), h.set, fun c hc => h.counters c fun hin => hc (hC c hin), h.full⟩

theorem of_same (hflags : t.irq.flags = s.irq.flags) (hcounters : t.irq.counters = s.irq.counters) : Marks F C s t := by
  have hc (c : Counter) : counterValue c t = counterValue c s := by rw [counterValue, counterValue, hcounters]
  exact ⟨fun g _ => flagSet_congr hflags g, fun g hg => (flagSet_congr hflags g).trans hg, fun c _ => hc c,
    fun c hfull => (hc c).trans hfull⟩

theorem refl (s : State) : Marks F C s s := of_same rfl rfl

theorem setFlag (f : Flag) (hf : f ∈ F) : Marks F C s (setFlag f s) := by
  refine ⟨fun g hg => ?_, fun g hg => ?_, fun _ _ => rfl, fun _ hfull => hfull⟩
  · have hne : g ≠ f := fun h => hg (h ▸ hf)
    rw [flagSet_setFlag, decide_eq_false hne, Bool.or_false]
  · rw [flagSet_setFlag, hg, Bool.true_or]

theorem thenSetFlag (h : Marks F C s t) (f : Flag) (hf : f ∈ F) : Marks F C s (Machine.setFlag f t) :=
  h.trans (setFlag f hf)

theorem bump (c : Counter) (hc : c ∈ C) : Marks F C s (bump c s) := by
  have hvalue (d : Counter) : counterValue d (Machine.bump c s) =
      if d = c then saturatingIncrement (counterValue c s) else counterValue d s := by
    have hindex : d.index = c.index ↔ d = c := by cases d <;> cases c <;> decide
    by_cases h : d = c
    · subst h
      rw [if_pos rfl]
      exact put_get_same _ _ _
    · rw [if_neg h]
      exact put_get_other _ _ _ _ (mt hindex.mp h)
  refine ⟨fun _ _ => rfl, fun _ hg => hg, fun d hd => ?_, fun d hfull => ?_⟩
  · rw [hvalue, if_neg fun h : d = c => hd (h ▸ hc)]
  · rw [hvalue]
    split
    · rename_i h
      rw [← h, hfull]
      rfl
    · exact hfull

/-- What an operation marks after one that changes neither flags nor counters. -/
theorem after_same (h : Marks F C t u) (hflags : t.irq.flags = s.irq.flags) (hcounters : t.irq.counters = s.irq.counters) :
    Marks F C s u := (of_same hflags hcounters).trans h

end Marks

variable {F : List Flag} {C : List Counter} {s : State}

theorem marks_raiseAttention (m : Fin 24) (s : State) : Marks [.mbx] [] s (raiseAttention m s) :=
  (Marks.setFlag .mbx (by decide)).after_same rfl rfl

theorem marks_nodeMissed (source : Byte) (s : State) : Marks [.node] [] s (nodeMissed source s) := by
  unfold nodeMissed
  split
  · exact .refl s
  · dsimp only
    split
    · exact (Marks.setFlag .node (by decide)).after_same rfl rfl
    · exact .of_same rfl rfl

theorem marks_closeMissed (source : Byte) (s : State) : Marks [.node] [] s (nodeMissed source (closeSlot s)) :=
  (marks_nodeMissed source (closeSlot s)).after_same rfl rfl

theorem marks_slotFrameEnded (s : State) : Marks [.node] [] s (slotFrameEnded s) := by
  obtain ⟨-, heq⟩ | ⟨sl, -, -, heq⟩ | ⟨sl, -, -, heq⟩ := slotFrameEnded_cases s <;> rw [heq]
  · exact .refl s
  · exact .of_same rfl rfl
  · exact marks_closeMissed sl.source s

theorem marks_abandonAssembly (k : Counter) (s : State) : Marks [.lineErr, .node] [k] s (abandonAssembly k s) := by
  obtain ⟨-, heq⟩ | ⟨-, heq⟩ := abandonAssembly_cases k s <;> rw [heq]
  · exact .refl s
  · have hcounted : Marks [.lineErr, .node] [k] s (lineError k { s with rx := Receiver.hunting }) :=
      ((Marks.bump k (by simp)).trans (Marks.setFlag .lineErr (by decide))).after_same rfl rfl
    exact hcounted.trans ((marks_slotFrameEnded _).mono (by decide) (by simp))

theorem marks_refuseSend (m : Fin 24) (o : LastOutcome) (s : State) :
    Marks [.slot, .mbx] [.slotSkipped] s (refuseSend m o s) := by
  have hupdate : Marks [.slot, .mbx] [.slotSkipped] s (updateTx m (fun t => { t with lastOutcome := o }) s) :=
    .of_same (by simp) (by simp)
  exact ((hupdate.trans (Marks.bump .slotSkipped (by decide))).trans (Marks.setFlag .slot (by decide))).trans
    ((marks_raiseAttention m _).mono (by decide) (by decide))

theorem marks_beginFrame (r : Requester) (f : Frame) (s : State) : Marks [.lineErr, .node] [.truncErr] s (beginFrame r f s) :=
  (marks_abandonAssembly .truncErr s).trans (.of_same rfl rfl)

/-- The flags that an entry which opens may set. -/
abbrev entryFlags : List Flag := [.slot, .mbx, .lineErr, .node]

/-- The counters that an entry which opens may count in. -/
abbrev entryCounters : List Counter := [.slotSkipped, .truncErr]

theorem marks_admitTransmit (e : Entry) (s : State) : Marks entryFlags entryCounters s (admitTransmit e s) := by
  obtain heq | ⟨m, b, -, -, -, -, -, ⟨-, heq⟩ | ⟨-, -, heq⟩ | ⟨-, -, heq⟩⟩ := admitTransmit_cases e s <;> rw [heq]
  · exact .refl s
  · exact (marks_refuseSend m _ s).mono (by decide) (by decide)
  · exact (marks_refuseSend m _ s).mono (by decide) (by decide)
  · exact ((marks_beginFrame _ _ _).mono (by decide) (by decide)).after_same (by simp) (by simp)

theorem marks_closeForOpening (s : State) : Marks [.node] [] s (closeForOpening s) := by
  unfold closeForOpening
  split
  · exact .refl s
  · split
    · exact marks_closeMissed _ s
    · exact .of_same rfl rfl

theorem marks_openEntry (index : Nat) (e : Entry) (s : State) : Marks entryFlags entryCounters s (openEntry index e s) := by
  have hclosed (sl : Slot) : Marks entryFlags entryCounters s (setSlot sl (closeForOpening s)) :=
    ((marks_closeForOpening s).mono (by decide) (by decide)).trans (.of_same rfl rfl)
  unfold openEntry
  split
  · exact .refl s
  · exact (hclosed _).trans (marks_admitTransmit e _)
  · exact hclosed _
  · exact hclosed _

theorem marks_slotWindowEnd (s : State) : Marks [.node] [] s (slotWindowEnd s) := by
  unfold slotWindowEnd
  split
  · exact .refl s
  · split
    · exact .of_same rfl rfl
    · exact .of_same rfl rfl
    · exact marks_closeMissed _ s
    · exact .of_same rfl rfl
    · exact .of_same rfl rfl

theorem marks_reachSlotEnd (q : Nat) (s : State) : Marks [.node] [] s (reachSlotEnd q s) := by
  unfold reachSlotEnd
  split
  · split
    · exact marks_slotWindowEnd s
    · exact .refl s
  · exact .refl s

theorem marks_reachEntry (swapping : Bool) (q : Nat) (s : State) : Marks entryFlags entryCounters s (reachEntry swapping q s) := by
  unfold reachEntry
  split
  · exact .refl s
  · split
    · dsimp only
      split
      · exact (marks_openEntry _ _ s).trans (.of_same rfl rfl)
      · exact .of_same rfl rfl
    · exact .refl s

/-! ### Host points (R36) -/

/-- Some point is due at an offset. -/
abbrev somePointDue (q : Nat) (s : State) : Bool :=
  let due (k : Fin 4) : Bool := s.points[k].due q
  due 0 || due 1 || due 2 || due 3

/-- The points that are due at an offset fire, with their status bits and POINT (R36). -/
structure Fires (q : Nat) (s t : State) : Prop where
  points : ∀ k : Fin 4, t.points[k] =
    if s.points[k].due q then { s.points[k] with fired := true, enabled := s.points[k].repeats } else s.points[k]
  status : ∀ k : Fin 4, t.irq.pointStatus.getLsbD k = (s.irq.pointStatus.getLsbD k || s.points[k].due q)
  flag : flagSet .point t = (flagSet .point s || somePointDue q s)

theorem dueBits_bit (q : Nat) (s : State) (k : Fin 4) : (dueBits q s).getLsbD k = s.points[k].due q := by
  have hbit (n k : Fin 4) (b : Bool) : (if b then BitVec.twoPow 4 n.val else 0).getLsbD k = (b && decide (n = k)) := by
    revert n k b
    decide
  unfold dueBits
  simp only [BitVec.getLsbD_or, hbit]
  fin_cases k <;> simp

theorem dueBits_eq_zero (q : Nat) (s : State) : dueBits q s = 0 ↔ somePointDue q s = false := by
  unfold dueBits somePointDue
  dsimp only
  generalize s.points[(0 : Fin 4)].due q = a
  generalize s.points[(1 : Fin 4)].due q = b
  generalize s.points[(2 : Fin 4)].due q = c
  generalize s.points[(3 : Fin 4)].due q = d
  revert a b c d
  decide

theorem firePoints_fires (q : Nat) (s : State) : Fires q s (firePoints q s) := by
  unfold firePoints
  split
  case isTrue hnone =>
    have hdue (k : Fin 4) : s.points[k].due q = false := by
      rw [← dueBits_bit, hnone]
      exact BitVec.getLsbD_zero
    refine ⟨fun k => if_neg (ne_true_of_eq_false (hdue k)) |>.symm, fun k => by rw [hdue k, Bool.or_false], ?_⟩
    exact ((Bool.or_false _).symm.trans (congrArg _ ((dueBits_eq_zero q s).mp hnone).symm))
  case isFalse hsome =>
    have hdue : somePointDue q s = true := Bool.eq_true_of_not_eq_false (mt (dueBits_eq_zero q s).mpr hsome)
    refine ⟨fun k => mapTable_get _ _ _, fun k => ?_, ?_⟩
    · exact (BitVec.getLsbD_or ..).trans (congrArg _ (dueBits_bit q s k))
    · refine (flagSet_setFlag _ _ _).trans ?_
      rw [show _ = true from hdue, decide_eq_true rfl, Bool.or_true, Bool.or_true]

theorem Fires.of_same {q : Nat} {s t u : State} (h : Fires q t u) (hpoints : t.points = s.points)
    (hstatus : t.irq.pointStatus = s.irq.pointStatus) (hflag : flagSet .point t = flagSet .point s) : Fires q s u := by
  obtain ⟨hp, hs, hf⟩ := h
  rw [hflag] at hf
  simp only [somePointDue, hpoints, hstatus] at hp hs hf
  exact ⟨hp, hs, hf⟩

theorem marks_firePoints (q : Nat) (s : State) : Marks [.point] [] s (firePoints q s) := by
  unfold firePoints
  split
  · exact .refl s
  · exact (Marks.setFlag .point (by decide)).after_same rfl rfl

theorem marks_reachOffset (swapping : Bool) (q : Nat) (s : State) :
    Marks (.point :: entryFlags) entryCounters s (reachOffset swapping q s) :=
  (((marks_reachSlotEnd q s).mono (by decide) (by decide)).trans
    ((marks_reachEntry swapping q _).mono (by decide) (by decide))).trans ((marks_firePoints q _).mono (by decide) (by decide))

theorem reachOffset_fires (swapping : Bool) (q : Nat) (s : State) : Fires q s (reachOffset swapping q s) := by
  refine (firePoints_fires q _).of_same (by simp) (by simp) ?_
  rw [(marks_reachEntry swapping q _).flags .point (by decide), (marks_reachSlotEnd q s).flags .point (by decide)]

end Sys2Proof.Machine
end

section
/-! # The end of a CT: from the happening to the offset reached (R26, R29, R57, R85, R86) -/

open Sys2Proof

namespace Sys2Proof.Machine

variable {s : State}

/-! ### Reaching an offset -/

/-- No entry at the next index starts at the offset. -/
def NoEntryAt (q : Nat) (s : State) : Prop := ∀ e, (scheduleOf s)[s.seq.nextIndex]? = some e → e.start.toNat ≠ q

/-- An entry that starts at the offset opens there: RUNNING, no swap, active in the cycle (R41, R57). -/
abbrev OpensAt (swapping : Bool) (e : Entry) (s : State) : Prop :=
  s.link.state = .running ∧ swapping = false ∧ e.activeIn s.timer.cycle = true

theorem reachEntry_absent {q : Nat} (swapping : Bool) (h : NoEntryAt q s) : reachEntry swapping q s = s := by
  unfold reachEntry
  split
  · rfl
  next e he => exact if_neg (h e he)

theorem reachEntry_passed {e : Entry} (swapping : Bool) (he : (scheduleOf s)[s.seq.nextIndex]? = some e)
    (hnot : ¬OpensAt swapping e s) :
    reachEntry swapping e.start.toNat s = { s with seq := { s.seq with nextIndex := s.seq.nextIndex + 1 } } := by
  unfold reachEntry
  rw [show (activeBank s).schedule[s.seq.nextIndex]? = some e from he]
  simp only [if_true, if_neg hnot]

theorem reachEntry_opens {e : Entry} (swapping : Bool) (he : (scheduleOf s)[s.seq.nextIndex]? = some e)
    (hopens : OpensAt swapping e s) :
    reachEntry swapping e.start.toNat s =
      { openEntry s.seq.nextIndex e s with
        seq := { (openEntry s.seq.nextIndex e s).seq with nextIndex := s.seq.nextIndex + 1 } } := by
  unfold reachEntry
  rw [show (activeBank s).schedule[s.seq.nextIndex]? = some e from he]
  simp only [if_true, if_pos hopens]

theorem reachEntry_nextIndex {e : Entry} (swapping : Bool) (q : Nat) (he : (scheduleOf s)[s.seq.nextIndex]? = some e) :
    (reachEntry swapping q s).seq.nextIndex =
      if e.start.toNat = q then s.seq.nextIndex + 1 else s.seq.nextIndex := by
  unfold reachEntry
  rw [show (activeBank s).schedule[s.seq.nextIndex]? = some e from he]
  dsimp only
  split <;> rfl

theorem reachSlotEnd_of_not {q : Nat} (h : ∀ sl ∈ s.seq.slot, sl.finish = q → sl.isExtended = true) :
    reachSlotEnd q s = s := by
  unfold reachSlotEnd
  split
  next sl hsl =>
    refine if_neg fun hends => ?_
    obtain ⟨hfinish, hshort⟩ := hends
    exact Bool.noConfusion (hshort.symm.trans (h sl hsl hfinish))
  · rfl

theorem reachSlotEnd_of_end {q : Nat} {sl : Slot} (hsl : s.seq.slot = some sl) (hfinish : sl.finish = q)
    (hshort : sl.isExtended = false) : reachSlotEnd q s = slotWindowEnd s := by
  unfold reachSlotEnd
  rw [hsl]
  exact if_pos ⟨hfinish, hshort⟩

theorem reachOffset_nextIndex {e : Entry} (swapping : Bool) (q : Nat) (he : (scheduleOf s)[s.seq.nextIndex]? = some e) :
    (reachOffset swapping q s).seq.nextIndex =
      if e.start.toNat = q then s.seq.nextIndex + 1 else s.seq.nextIndex := by
  have hindex : (reachSlotEnd q s).seq.nextIndex = s.seq.nextIndex := by simp
  have hsched : scheduleOf (reachSlotEnd q s) = scheduleOf s := by simp [scheduleOf, bankOf]
  have hreach := reachEntry_nextIndex (s := reachSlotEnd q s) swapping q (by rw [hsched, hindex]; exact he)
  rw [hindex] at hreach
  simpa [reachOffset] using hreach

/-! ### What a due transmission keeps outside STOPPING -/

/-- From `s` to `t` only frames in transmission, mailboxes, the queue and counts of idle line have gone on. -/
structure CountsFrom (s t : State) : Prop where
  params : t.params = s.params
  timer : t.timer = s.timer
  points : t.points = s.points
  sched : t.sched = s.sched
  seq : t.seq = s.seq
  link : t.link = s.link
  sync : t.sync = s.sync
  accept : t.accept = s.accept
  enables : t.irq.enables = s.irq.enables
  causes : t.irq.causes = s.irq.causes
  pointStatus : t.irq.pointStatus = s.irq.pointStatus
  cmd : t.cmd = s.cmd
  win : t.win = s.win
  marks : Marks [.mbx, .event, .collision] [.collisions] s t

theorem marks_outcomeCompleted (r : Requester) (s : State) :
    Marks [.mbx, .event, .collision] [.collisions] s (outcomeCompleted r s) := by
  have hupdate (m : Fin 24) (g : TxMailbox → TxMailbox) (u : State) :
      Marks [.mbx, .event, .collision] [.collisions] u (updateTx m g u) := .of_same (by simp) (by simp)
  cases r with
  | cycleStart => exact .refl s
  | slot m => exact (hupdate m _ s).trans ((marks_raiseAttention m _).mono (by decide) (by decide))
  | event m =>
    have hleft : Marks [.mbx, .event, .collision] [.collisions] s
        (leaveQueue m (updateTx m (fun t => t.eventSent.applyPending) s)) := (hupdate m _ s).trans (.of_same rfl rfl)
    exact (hleft.trans ((marks_raiseAttention m _).mono (by decide) (by decide))).trans (Marks.setFlag .event (by decide))

theorem marks_outcomeCollided (r : Requester) (s : State) :
    Marks [.mbx, .event, .collision] [.collisions] s (outcomeCollided r s) := by
  have hupdate (m : Fin 24) (g : TxMailbox → TxMailbox) (u : State) :
      Marks [.mbx, .event, .collision] [.collisions] u (updateTx m g u) := .of_same (by simp) (by simp)
  cases r with
  | cycleStart => exact .refl s
  | slot m => exact (hupdate m _ s).trans ((marks_raiseAttention m _).mono (by decide) (by decide))
  | event m =>
    unfold outcomeCollided
    dsimp only
    split
    · exact hupdate m _ s
    · have hleft : Marks [.mbx, .event, .collision] [.collisions] s
          (leaveQueue m (updateTx m (fun t => t.eventDropped.applyPending) s)) := (hupdate m _ s).trans (.of_same rfl rfl)
      exact (hleft.trans ((marks_raiseAttention m _).mono (by decide) (by decide))).trans (Marks.setFlag .event (by decide))

theorem CountsFrom.trans {s t u : State} (h : CountsFrom s t) (h' : CountsFrom t u) : CountsFrom s u where
  params := h'.params.trans h.params
  timer := h'.timer.trans h.timer
  points := h'.points.trans h.points
  sched := h'.sched.trans h.sched
  seq := h'.seq.trans h.seq
  link := h'.link.trans h.link
  sync := h'.sync.trans h.sync
  accept := h'.accept.trans h.accept
  enables := h'.enables.trans h.enables
  causes := h'.causes.trans h.causes
  pointStatus := h'.pointStatus.trans h.pointStatus
  cmd := h'.cmd.trans h.cmd
  win := h'.win.trans h.win
  marks := h.marks.trans h'.marks

theorem CountsFrom.refl (s : State) : CountsFrom s s := ⟨rfl, rfl, rfl, rfl, rfl, rfl, rfl, rfl, rfl, rfl, rfl, rfl, rfl, .refl s⟩

theorem CountsFrom.settled {t : State} (h : CountsFrom s t) : CountsFrom s (settleWait t) :=
  h.trans ⟨rfl, rfl, rfl, rfl, rfl, rfl, rfl, rfl, rfl, rfl, rfl, rfl, rfl, .of_same rfl rfl⟩

theorem CountsFrom.ctPasses (s : State) : CountsFrom s (ctPasses s) :=
  ⟨rfl, rfl, rfl, rfl, rfl, rfl, rfl, rfl, rfl, rfl, rfl, rfl, rfl, .of_same rfl rfl⟩

theorem CountsFrom.outcomeCompleted (r : Requester) (s : State) : CountsFrom s (outcomeCompleted r s) := by
  constructor
  case marks => exact marks_outcomeCompleted r s
  all_goals simp

theorem CountsFrom.outcomeCollided (r : Requester) (s : State) : CountsFrom s (outcomeCollided r s) := by
  constructor
  case marks => exact marks_outcomeCollided r s
  all_goals simp

theorem CountsFrom.transmitterIdle (s : State) : CountsFrom s (transmitterIdle s) :=
  ⟨rfl, rfl, rfl, rfl, rfl, rfl, rfl, rfl, rfl, rfl, rfl, rfl, rfl, .of_same rfl rfl⟩

theorem CountsFrom.countCollision (s : State) : CountsFrom s (countCollision s) :=
  ⟨rfl, rfl, rfl, rfl, rfl, rfl, rfl, rfl, rfl, rfl, rfl, rfl, rfl,
    (Marks.bump .collisions (by decide)).trans (Marks.setFlag .collision (by decide))⟩

theorem CountsFrom.completeTransmission (x : Transmission) (hawake : s.link.state ≠ .stopping) :
    CountsFrom s (completeTransmission x s) := by
  have hended : CountsFrom s (Machine.outcomeCompleted x.requester (Machine.transmitterIdle s)) :=
    (transmitterIdle s).trans (outcomeCompleted x.requester _)
  rw [completeTransmission_eq hawake rfl (by rw [hended.link])]
  exact hended.settled

theorem CountsFrom.collideTransmission (x : Transmission) (hawake : s.link.state ≠ .stopping) :
    CountsFrom s (collideTransmission x s) := by
  have hended : CountsFrom s
      (Machine.outcomeCollided x.requester (Machine.countCollision (Machine.transmitterIdle s))) :=
    ((transmitterIdle s).trans (countCollision _)).trans (outcomeCollided x.requester _)
  rw [collideTransmission_eq hawake rfl (by rw [hended.link])]
  exact hended.settled

theorem endDueTransmission_of_goesOn (h : FrameGoesOn s) : endDueTransmission s = s := by
  obtain ⟨-, heq⟩ | ⟨x, hx, -, hall, -⟩ | ⟨x, hx, hcollided, -⟩ := endDueTransmission_cases s
  · exact heq
  · exact absurd hall (by have := (h x hx).2; omega)
  · exact Bool.noConfusion (hcollided.symm.trans (h x hx).1)

theorem ctPasses_goesOn (h : FrameGoesOn s) : FrameGoesOn (ctPasses s) := by
  intro x hx
  exact h x (by simpa using hx)

theorem CountsFrom.endDueTransmission (h : s.link.state ≠ .stopping ∨ FrameGoesOn s) :
    CountsFrom s (endDueTransmission (Machine.ctPasses s)) := by
  refine (CountsFrom.ctPasses s).trans ?_
  obtain hawake | hgoes := h
  · have hawake' : (Machine.ctPasses s).link.state ≠ .stopping := by simpa using hawake
    obtain ⟨-, heq⟩ | ⟨x, -, -, -, heq⟩ | ⟨x, -, -, heq⟩ := endDueTransmission_cases (Machine.ctPasses s) <;> rw [heq]
    · exact .refl _
    · exact .completeTransmission x hawake'
    · exact .collideTransmission x hawake'
  · rw [endDueTransmission_of_goesOn (ctPasses_goesOn hgoes)]
    exact .refl _

/-! ### The end of a CT inside a cycle -/

/-- The state with its position at an offset. -/
abbrev atPosition (q : Nat) (s : State) : State := { s with timer := { s.timer with position := q } }

theorem exec_positionReached {length : Nat} (hlength : s.timer.length = some length)
    (hinside : s.timer.position + 1 < length) (h : s.link.state ≠ .stopping ∨ FrameGoesOn s) :
    exec .positionReached s =
      .next (settleWait (countTo (s.timer.position + 1) (endDueTransmission (ctPasses s)))) := by
  have hcounts := CountsFrom.endDueTransmission h
  obtain ⟨hnone, -⟩ | ⟨-, heq⟩ := endOfCt_cases s
  · cases hnone.symm.trans hlength
  change Host.Outcome.next (endOfCt s) = _
  rw [heq]
  have htimer := hcounts.timer
  obtain ⟨hnone, -⟩ | ⟨_, hl, -, hadvance⟩ | ⟨_, hl, hend, -⟩ := advanceTimer_cases (endDueTransmission (ctPasses s))
  · rw [htimer, hlength] at hnone
    cases hnone
  · rw [hadvance, htimer]
  · rw [htimer, hlength] at hl
    rw [htimer] at hend
    cases hl
    omega

/-- Counting reaches the offset with what the CS window end check leaves, unless that stops the timer. -/
theorem countTo_eq {q : Nat} {u v : State}
    (hchecked : (if q = Config.csWindow then csWindowEnd (atPosition q u) else atPosition q u) = v) :
    countTo q u = if v.timer.length = none then v else reachOffset false q v := by
  subst hchecked
  rfl

theorem countTo_reaches {u : State} {q : Nat} (hrunning : u.timer.length ≠ none)
    (h : q ≠ 28 ∨ u.params.role = 1 ∨ u.timer.csSeen = true) : countTo q u = reachOffset false q (atPosition q u) := by
  refine (countTo_eq (v := atPosition q u) ?_).trans (if_neg hrunning)
  split
  case isFalse => rfl
  case isTrue hq =>
    obtain ⟨-, heq⟩ | ⟨hrole, hseen, -⟩ := csWindowEnd_cases (atPosition q u)
    · exact heq
    · obtain hne | hmaster | hcs := h
      · exact absurd hq hne
      · simp [isMaster, hmaster] at hrole
      · cases hcs.symm.trans hseen

/-- Away from a missed start, the end of a CT reaches the next offset. -/
theorem exec_positionReached_reaches {length : Nat} (hlength : s.timer.length = some length)
    (hinside : s.timer.position + 1 < length) (h : s.link.state ≠ .stopping ∨ FrameGoesOn s)
    (hno : s.timer.position ≠ 27 ∨ s.params.role = 1 ∨ s.timer.csSeen = true) :
    exec .positionReached s = .next (settleWait (reachOffset false (s.timer.position + 1)
      (atPosition (s.timer.position + 1) (endDueTransmission (ctPasses s))))) := by
  have hcounts := CountsFrom.endDueTransmission h
  rw [exec_positionReached hlength hinside h, countTo_reaches]
  · simp [hcounts.timer, hlength]
  · rw [hcounts.params, hcounts.timer]
    exact hno.imp_left fun hne heq => hne (Nat.succ.inj heq)

/-- At the counted reaching of 28 without a cycle start seen, the missed start is counted first. -/
theorem countTo_missed {u : State} (hrole : u.params.role ≠ 1) (hseen : u.timer.csSeen = false) :
    countTo 28 u =
      if (missedStart (atPosition 28 u)).timer.length = none then missedStart (atPosition 28 u)
      else reachOffset false 28 (missedStart (atPosition 28 u)) := by
  refine countTo_eq ((if_pos rfl).trans ?_)
  obtain ⟨hmaster | hcs, -⟩ | ⟨-, -, heq⟩ := csWindowEnd_cases (atPosition 28 u)
  · exact absurd (of_decide_eq_true hmaster) hrole
  · cases hcs.symm.trans hseen
  · exact heq

/-! ### O39 -/

/-- Settles O39: the end of a CT inside a cycle is the reaching of the next offset. -/
theorem positionAdvances : Obligations.PositionAdvances := by
  intro s length hlength hinside hno h q fires
  have hcounts := CountsFrom.endDueTransmission h
  have hfires := (reachOffset_fires false q (atPosition q (endDueTransmission (ctPasses s)))).of_same (s := s)
    hcounts.points hcounts.pointStatus (hcounts.marks.flags .point (by decide))
  refine ⟨_, exec_positionReached_reaches hlength hinside h hno, ?_, hfires.points, hfires.status, hfires.flag, ?_⟩
  · simp [hcounts.timer, q]
  · simp [hcounts.link, hcounts.sched, hcounts.cmd]

/-! ### O40 -/

theorem marks_countMissed (s : State) : Marks [.sync] [.csMissed] s (countMissed s) := by
  have hmarked : Marks [.sync] [.csMissed] s (setFlag .sync (bump .csMissed s)) :=
    (Marks.bump .csMissed (by decide)).trans (Marks.setFlag .sync (by decide))
  exact hmarked.trans (.of_same rfl rfl)

theorem counterValue_bump_toNat (c : Counter) (s : State) :
    (counterValue c (bump c s)).toNat = min 255 ((counterValue c s).toNat + 1) := by
  have hvalue : counterValue c (bump c s) = saturatingIncrement (counterValue c s) := put_get_same _ _ _
  rw [hvalue, saturatingIncrement_eq]
  split
  next hfull => rw [hfull]; rfl
  next hroom =>
    have hlt : (counterValue c s).toNat ≠ 255 := fun h => hroom (BitVec.eq_of_toNat_eq h)
    have := (counterValue c s).isLt
    rw [BitVec.toNat_add]
    simp
    omega

/-- The missed start, counted in the state that the CT leaves at 28 (R29, R85). -/
theorem windowEnd_counted (hgoes : FrameGoesOn s) {length : Nat} (hlength : s.timer.length = some length)
    (hinside : 28 < length) (hposition : s.timer.position = 27) (hrole : s.params.role ≠ 1)
    (hseen : s.timer.csSeen = false) :
    exec .positionReached s = .next (settleWait (
      if (missedStart (atPosition 28 (ctPasses s))).timer.length = none then missedStart (atPosition 28 (ctPasses s))
      else reachOffset false 28 (missedStart (atPosition 28 (ctPasses s))))) := by
  rw [exec_positionReached hlength (by omega) (.inr hgoes), endDueTransmission_of_goesOn (ctPasses_goesOn hgoes),
    hposition]
  exact congrArg (Host.Outcome.next ∘ settleWait) (countTo_missed (u := ctPasses s) hrole hseen)

/-- Where the missed start loses sync, the link is in LISTEN with the timer stopped, and nothing was reached (R86). -/
theorem syncLoss_eq (hon : s.link.state ≠ .listen) : syncLoss s = setFlag .link { s with
    timer := { position := 0, cycle := s.timer.cycle, length := none, csSeen := false }
    seq := { nextIndex := 0, slot := none }
    link := { s.link with state := .listen }
    queue := { s.queue with wait := none, turnedAway := false }
    irq := { s.irq with causes := { s.irq.causes with lost := true } } } := by
  unfold syncLoss setLinkState
  exact if_neg hon

theorem flagSet_setFlag_self (f : Flag) (s : State) : flagSet f (setFlag f s) = true := by
  rw [flagSet_setFlag, decide_eq_true rfl, Bool.or_true]

/-- Settles O40: at 28 the missed start is counted first, and where it loses sync nothing is reached. -/
theorem windowEndCheck : Obligations.WindowEndCheck := by
  constructor
  · intro s length hlength hinside hposition hrole hseen hgoes limit missed lost fires
    have hexec := windowEnd_counted hgoes hlength hinside hposition hrole hseen
    generalize hv : atPosition 28 (ctPasses s) = v at hexec
    have hlink : v.link = s.link := hv ▸ rfl
    have hirq : v.irq = s.irq := hv ▸ rfl
    have hmarks := marks_countMissed v
    have hcounter : (counterValue .csMissed (countMissed v)).toNat = min 255 ((counterValue .csMissed s).toNat + 1) := by
      subst hv
      exact counterValue_bump_toNat .csMissed _
    have hfull (c : Counter) (hc : counterValue c s = 255) : counterValue c (countMissed v) = 255 := by
      subst hv
      exact hmarks.full c hc
    have hsync : flagSet .sync (countMissed v) = true := flagSet_setFlag_self .sync _
    obtain ⟨hlimit, hon, hloss⟩ | ⟨hnot, hcount⟩ := missedStart_cases v
    · have hlost : lost = true := by
        subst hv
        simp only [lost, Bool.and_eq_true, Bool.or_eq_true, beq_iff_eq]
        exact ⟨hlimit, hon⟩
      have hawake : (countMissed v).link.state ≠ .listen := by
        intro hlisten
        simp at hlisten
        obtain h | h := hon <;> exact LinkState.noConfusion (h.symm.trans hlisten)
      have hlink : flagSet .link (syncLoss (countMissed v)) = true := by
        rw [syncLoss_eq hawake]
        exact flagSet_setFlag_self .link _
      have hkept : Marks [.link] [] (countMissed v) (syncLoss (countMissed v)) := by
        rw [syncLoss_eq hawake]
        refine Marks.thenSetFlag ?_ .link ?_
        · exact .of_same rfl rfl
        · decide
      have hstopped : (syncLoss (countMissed v)).timer.length = none := by rw [syncLoss_eq hawake]; rfl
      rw [hloss, if_pos hstopped] at hexec
      have hnotRunning : headMayWait (syncLoss (countMissed v)) = false :=
        headMayWait_of_not_running (by rw [syncLoss_eq hawake]; exact LinkState.noConfusion)
      refine ⟨_, hexec, ?_, ?_, ?_, ?_, ?_, ?_, ?_⟩
      · subst hv
        simp only [settleWait_sync, syncLoss_frame]
        rfl
      · exact fun c hc => hkept.full c (hfull c hc)
      · exact (congrArg BitVec.toNat (hkept.counters .csMissed (by decide))).trans hcounter
      · rw [settleWait_irq, syncLoss_eq hawake]
        subst hv
        simp only [hlost, Bool.or_true]
        rfl
      · exact hkept.set .sync hsync
      · intro _
        rw [settleWait_none hnotRunning, syncLoss_eq hawake]
        subst hv
        exact ⟨rfl, flagSet_setFlag_self .link _, rfl, rfl, rfl, rfl, rfl, rfl, rfl, rfl, rfl⟩
      · intro h
        exact Bool.noConfusion (h.symm.trans hlost)
    · have hlost : lost = false := by
        refine Bool.eq_false_of_not_eq_true fun h => hnot ?_
        subst hv
        simp only [lost, Bool.and_eq_true, Bool.or_eq_true, beq_iff_eq] at h
        exact h
      have hrunning : (countMissed v).timer.length ≠ none := by
        subst hv
        simp [hlength]
      rw [hcount, if_neg hrunning] at hexec
      have hkept := marks_reachOffset false 28 (countMissed v)
      have hfires := (reachOffset_fires false 28 (countMissed v)).of_same (s := s) (by subst hv; rfl) (by subst hv; rfl)
        (by subst hv; exact hmarks.flags .point (by decide))
      refine ⟨_, hexec, ?_, ?_, ?_, ?_, ?_, ?_, ?_⟩
      · subst hv
        simp only [settleWait_sync, reachOffset_frame]
        rfl
      · exact fun c hc => hkept.full c (hfull c hc)
      · exact (congrArg BitVec.toNat (hkept.counters .csMissed (by decide))).trans hcounter
      · subst hv
        simp only [settleWait_irq, reachOffset_frame, hlost, Bool.or_false]
        rfl
      · exact hkept.set .sync hsync
      · intro h
        exact Bool.noConfusion (h.symm.trans hlost)
      · intro _
        refine ⟨?_, ?_, hfires.points, hfires.status, hfires.flag, fun e he => ?_⟩
        · simp [← hv]
        · simp [← hv]
        · subst hv
          have hindex := reachOffset_nextIndex (s := countMissed (atPosition 28 (ctPasses s))) false 28 he
          have hstart : e.start.toNat = 28 ↔ e.start = 28 :=
            ⟨fun h => BitVec.eq_of_toNat_eq h, fun h => by rw [h]; rfl⟩
          simp only [hstart] at hindex
          exact hindex
  · intro s length hlength hinside hposition hno h
    rw [exec_positionReached_reaches hlength (by omega) h (.inr hno)]
    have hcounts := CountsFrom.endDueTransmission h
    refine ⟨_, rfl, ?_, ?_, ?_, ?_, ?_⟩
    · simp [hcounts.timer, hposition]
    · simp
    · simp [hcounts.link]
    · simp
    · refine ((marks_reachOffset false _ (atPosition _ (endDueTransmission (ctPasses s)))).counters .csMissed
        (by decide)).trans (hcounts.marks.counters .csMissed (by decide))

end Sys2Proof.Machine
end

section
/-! # The cycle boundary by counting and the end of the startup silence (R9, R27, R28, R54, R74 to R76) -/

open Sys2Proof

namespace Sys2Proof.Machine

variable {s : State}

/-! ### Offset 0 -/

/-- The entries of a bank that passes validation start at 28 or later (R46). -/
theorem start_of_validate {e : Entry} (hpass : validate s.boxes (bankOf s.sched.active s) = none)
    (he : e ∈ scheduleOf s) : 28 ≤ e.start.toNat := by
  obtain ⟨-, hentries, -⟩ := validate_eq_none.mp hpass
  obtain ⟨i, hi⟩ := List.mem_iff_getElem?.mp he
  obtain ⟨⟨hstart, -⟩, -⟩ := (entryFault_none_iff _ e).mp (hentries i e hi)
  exact hstart

/-- Where the entries start at 28 or later, no entry starts below. -/
theorem noEntryAt_of_le {q : Nat} (hstarts : ∀ e ∈ scheduleOf s, 28 ≤ e.start.toNat) (hq : q < 28) : NoEntryAt q s :=
  fun _ he heq => by have := hstarts _ (List.mem_of_getElem? he); omega

/-- Below 28 the reaching of an offset is the slot's end and the points. -/
theorem reachOffset_below {q : Nat} (swapping : Bool) (hstarts : ∀ e ∈ scheduleOf s, 28 ≤ e.start.toNat) (hq : q < 28) :
    reachOffset swapping q s = firePoints q (reachSlotEnd q s) := by
  have hsched : scheduleOf (reachSlotEnd q s) = scheduleOf s := by simp [scheduleOf, bankOf]
  rw [reachOffset, reachEntry_absent swapping (noEntryAt_of_le (by rw [hsched]; exact hstarts) hq)]

theorem marks_reachOffset_below {q : Nat} (swapping : Bool) (hstarts : ∀ e ∈ scheduleOf s, 28 ≤ e.start.toNat)
    (hq : q < 28) : Marks [.node, .point] [] s (reachOffset swapping q s) := by
  rw [reachOffset_below swapping hstarts hq]
  exact ((marks_reachSlotEnd q s).mono (by decide) (by decide)).trans
    ((marks_firePoints q _).mono (by decide) (by decide))

/-- What the points do at an offset reached with their fired marks cleared (R27, R36). -/
structure FiresFresh (fires : Fin 4 → Bool) (s t : State) : Prop where
  points : ∀ k : Fin 4, t.points[k] =
    if fires k then { s.points[k] with fired := true, enabled := s.points[k].repeats }
    else { s.points[k] with fired := false }
  status : ∀ k : Fin 4, t.irq.pointStatus.getLsbD k = (s.irq.pointStatus.getLsbD k || fires k)
  flag : flagSet .point t = (flagSet .point s || (fires 0 || fires 1 || fires 2 || fires 3))

/-- An enabled point at offset 0. -/
abbrev startsPoint (s : State) (k : Fin 4) : Bool := s.points[k].enabled && s.points[k].offset == 0

theorem firesFresh_of_zero {b t : State} (h : Fires 0 b t) (hpoints : b.points = (clearFired s).points)
    (hstatus : b.irq.pointStatus = s.irq.pointStatus) (hflag : flagSet .point b = flagSet .point s) :
    FiresFresh (startsPoint s) s t := by
  have hpoint (k : Fin 4) : b.points[k] = { s.points[k] with fired := false } := by
    rw [hpoints]
    exact mapTable_get _ _ _
  have hdue (k : Fin 4) : b.points[k].due 0 = startsPoint s k := by
    have hzero : (s.points[k].offset.toNat == 0) = (s.points[k].offset == 0) :=
      Bool.eq_iff_iff.mpr (beq_iff_eq.trans ((BitVec.toNat_inj (y := 0)).trans beq_iff_eq.symm))
    rw [hpoint, HostPoint.due, hzero]
    simp [startsPoint]
  obtain ⟨hp, hs, hf⟩ := h
  refine ⟨fun k => ?_, fun k => ?_, ?_⟩
  · rw [hp, hdue, hpoint]
  · rw [hs, hdue, hstatus]
  · rw [hf, hflag]
    simp only [somePointDue, hdue]

/-! ### The master's swap and its cycle-start frame -/

theorem launchCycleStart_tx (s : State) : (launchCycleStart s).tx =
    if s.link.silent = false ∧ s.line.level = .idle ∧ s.tx = none then
      some { requester := .cycleStart, chars := (cycleStartFrame s).characters s.params, index := 0, collided := false }
    else s.tx := by
  obtain ⟨hsilent, heq⟩ | ⟨-, hbusy, heq⟩ | ⟨-, -, htx, heq⟩ | ⟨hsilent, hidle, htx, heq⟩ := launchCycleStart_cases s <;>
    rw [heq]
  · rw [if_neg (by simp [hsilent])]
  · rw [if_neg (by simp [hbusy])]
    rfl
  · rw [if_neg (by simp [htx])]
  · rw [if_pos ⟨hsilent, hidle, htx⟩]
    simp [beginFrame]

/-- The launch is blocked by a busy line (R76). -/
abbrev launchBlocked (s : State) : Bool := !s.link.silent && s.line.level != .idle

theorem launchCycleStart_causes (s : State) : (launchCycleStart s).irq.causes =
    { s.irq.causes with csBlocked := s.irq.causes.csBlocked || launchBlocked s } := by
  obtain ⟨hsilent, heq⟩ | ⟨hsilent, hbusy, heq⟩ | ⟨hsilent, hidle, -, heq⟩ | ⟨hsilent, hidle, -, heq⟩ :=
    launchCycleStart_cases s <;> rw [heq]
  · simp [launchBlocked, hsilent]
  · have hlevel : (s.line.level != .idle) = true := bne_iff_ne.mpr hbusy
    simp [launchBlocked, hsilent, hlevel]
    rfl
  · simp [launchBlocked, hsilent, hidle]
  · simp [launchBlocked, hsilent, hidle]

theorem marks_launchCycleStart (s : State) : Marks [.slot, .lineErr, .node] [.truncErr] s (launchCycleStart s) := by
  obtain ⟨-, heq⟩ | ⟨-, -, heq⟩ | ⟨-, -, -, heq⟩ | ⟨-, -, -, heq⟩ := launchCycleStart_cases s <;> rw [heq]
  · exact .refl s
  · refine Marks.thenSetFlag ?_ .slot (by decide)
    exact .of_same rfl rfl
  · exact .refl s
  · exact (marks_beginFrame _ _ s).mono (by decide) (by decide)

theorem flagSet_slot_launchCycleStart (s : State) :
    flagSet .slot (launchCycleStart s) = (flagSet .slot s || launchBlocked s) := by
  obtain ⟨hsilent, heq⟩ | ⟨hsilent, hbusy, heq⟩ | ⟨hsilent, hidle, -, heq⟩ | ⟨hsilent, hidle, -, heq⟩ :=
    launchCycleStart_cases s <;> rw [heq]
  · simp [launchBlocked, hsilent]
  · rw [flagSet_setFlag_self]
    simp [launchBlocked, hsilent, hbusy]
  · simp [launchBlocked, hsilent, hidle]
  · rw [(marks_beginFrame _ _ s).flags .slot (by decide)]
    simp [launchBlocked, hsilent, hidle]

/-- An ARMED shadow, which a master's boundary swaps in (R54). -/
abbrev shadowArmed (s : State) : Bool := s.sched.shadow == .armed

theorem masterSwap_sched (s : State) : (masterSwap s).sched =
    if shadowArmed s then { s.sched with active := s.sched.active.other, shadow := .idle } else s.sched := by
  unfold masterSwap
  by_cases h : s.sched.shadow = .armed
  · rw [if_pos h, if_pos (beq_iff_eq.mpr h), exchangeBanks_sched]
  · rw [if_neg h, if_neg (mt beq_iff_eq.mp h)]

theorem masterSwap_length (hrunning : s.link.state = .running) : (masterSwap s).timer =
    { s.timer with length := if shadowArmed s then some (shadowBank s).length.toNat else s.timer.length } := by
  unfold masterSwap
  by_cases h : s.sched.shadow = .armed
  · rw [if_pos h, if_pos (beq_iff_eq.mpr h), exchangeBanks_length hrunning]
  · rw [if_neg h, if_neg (mt beq_iff_eq.mp h)]

theorem exchangeBanks_causes (s : State) : (exchangeBanks s).irq.causes = { s.irq.causes with swap := true } := by
  unfold exchangeBanks
  dsimp only
  split <;> rfl

theorem masterSwap_causes (s : State) :
    (masterSwap s).irq.causes = { s.irq.causes with swap := s.irq.causes.swap || shadowArmed s } := by
  unfold masterSwap
  by_cases h : s.sched.shadow = .armed
  · rw [if_pos h, exchangeBanks_causes]
    simp [shadowArmed, h]
  · have harmed : shadowArmed s = false := beq_eq_false_iff_ne.mpr h
    rw [if_neg h, harmed, Bool.or_false]

theorem flagSet_exchangeBanks (f : Flag) (s : State) :
    flagSet f (exchangeBanks s) = (flagSet f s || decide (f = .bank)) := by
  unfold exchangeBanks
  dsimp only
  rw [flagSet_setFlag]
  split <;> rfl

theorem flagSet_masterSwap (f : Flag) (s : State) :
    flagSet f (masterSwap s) = (flagSet f s || decide (f = .bank) && shadowArmed s) := by
  unfold masterSwap
  by_cases h : s.sched.shadow = .armed
  · rw [if_pos h, flagSet_exchangeBanks]
    simp [shadowArmed, h]
  · have harmed : shadowArmed s = false := beq_eq_false_iff_ne.mpr h
    rw [if_neg h, harmed, Bool.and_false, Bool.or_false]

/-- The bank that a master's boundary leaves active. -/
abbrev bankAfterSwap (s : State) : Bank := bankOf (if shadowArmed s then s.sched.active.other else s.sched.active) s

theorem activeBank_masterSwap (s : State) : activeBank (masterSwap s) = bankAfterSwap s := by
  have hbanks : (masterSwap s).sched.bankA = s.sched.bankA ∧ (masterSwap s).sched.bankB = s.sched.bankB := by simp
  have hactive : (masterSwap s).sched.active = if shadowArmed s then s.sched.active.other else s.sched.active := by
    rw [masterSwap_sched]
    split <;> rfl
  unfold activeBank bankAfterSwap bankOf
  rw [hactive, hbanks.1, hbanks.2]

/-! ### O41 -/

theorem reachOffset_zero_tx (swapping : Bool) (hstarts : ∀ e ∈ scheduleOf s, 28 ≤ e.start.toNat) :
    (reachOffset swapping 0 s).tx = s.tx := by
  rw [reachOffset_below swapping hstarts (by decide)]
  simp

theorem reachOffset_zero_nextIndex (swapping : Bool) (hstarts : ∀ e ∈ scheduleOf s, 28 ≤ e.start.toNat) :
    (reachOffset swapping 0 s).seq.nextIndex = s.seq.nextIndex := by
  rw [reachOffset_below swapping hstarts (by decide)]
  simp

theorem boundaryEffects_tx (hstarts : ∀ e ∈ scheduleOf s, 28 ≤ e.start.toNat) : (boundaryEffects s).tx = s.tx :=
  (congrArg State.tx (boundaryEffects_eq s)).trans (reachOffset_zero_tx (s := boundaryBegun s) false hstarts)

theorem boundaryEffects_nextIndex (hstarts : ∀ e ∈ scheduleOf s, 28 ≤ e.start.toNat) :
    (boundaryEffects s).seq.nextIndex = 0 :=
  (congrArg (fun t => t.seq.nextIndex) (boundaryEffects_eq s)).trans
    (reachOffset_zero_nextIndex (s := boundaryBegun s) false hstarts)

theorem boundaryEffects_timer (s : State) : (boundaryEffects s).timer =
    { s.timer with position := 0, cycle := s.timer.cycle + 1, csSeen := false } := by
  rw [boundaryEffects_eq]
  simp only [reachOffset_frame]
  rfl

theorem FiresFresh.then_same {fires : Fin 4 → Bool} {t u : State} (h : FiresFresh fires s t)
    (hpoints : u.points = t.points) (hstatus : u.irq.pointStatus = t.irq.pointStatus)
    (hflag : flagSet .point u = flagSet .point t) : FiresFresh fires s u := by
  obtain ⟨hp, hs, hf⟩ := h
  exact ⟨fun k => by rw [hpoints, hp], fun k => by rw [hstatus, hs], by rw [hflag, hf]⟩

/-- The effects of a boundary below the first entry: the position, the number, the marks and the points (R27, R28, R36). -/
theorem boundaryEffects_fires (hstarts : ∀ e ∈ scheduleOf s, 28 ≤ e.start.toNat) :
    FiresFresh (startsPoint s) s (boundaryEffects s) ∧ flagSet .cycle (boundaryEffects s) = true ∧
      (∀ g ∉ [Flag.node, .point, .cycle], flagSet g (boundaryEffects s) = flagSet g s) := by
  have hflags : Marks [.cycle] [] s (boundaryBegun s) := by
    refine Marks.thenSetFlag ?_ .cycle ?_
    · exact .of_same rfl rfl
    · decide
  have hreach := marks_reachOffset_below (s := boundaryBegun s) (q := 0) false hstarts (by decide)
  rw [boundaryEffects_eq]
  refine ⟨?_, ?_, fun g hg => ?_⟩
  · exact firesFresh_of_zero (reachOffset_fires false 0 _) rfl rfl (hflags.flags .point (by decide))
  · exact hreach.set .cycle (flagSet_setFlag_self .cycle _)
  · simp only [List.mem_cons, List.not_mem_nil, or_false, not_or] at hg
    rw [hreach.flags g (by simp [hg]), hflags.flags g (by simp [hg])]

/-- Settles O41: the boundary's effects, and on a master in RUNNING the swap and the launch after them. -/
theorem cycleBoundary : Obligations.CycleBoundary := by
  intro s hlength hpass hgoes master swaps blocked bank cycle frame fires
  have hexec : endOfCt s = settleWait (countedBoundary (ctPasses s)) := by
    obtain ⟨hnone, -⟩ | ⟨-, heq⟩ := endOfCt_cases s
    · cases hnone.symm.trans hlength
    rw [heq, endDueTransmission_of_goesOn (ctPasses_goesOn hgoes)]
    obtain ⟨hnone, -⟩ | ⟨_, hl, hlt, -⟩ | ⟨_, -, -, hadvance⟩ := advanceTimer_cases (ctPasses s)
    · cases hnone.symm.trans hlength
    · cases hl.symm.trans hlength
      exact absurd hlt (lt_irrefl _)
    · exact hadvance
  have hstarts : ∀ e ∈ scheduleOf (ctPasses s), 28 ≤ e.start.toNat := fun e he => start_of_validate hpass he
  obtain ⟨hfires, hcycle, hflags⟩ := boundaryEffects_fires hstarts
  refine ⟨settleWait (countedBoundary (ctPasses s)), ?_, congrArg Host.Outcome.next hexec, ?_⟩
  · exact (if_pos hlength).trans (congrArg Host.Outcome.next hexec)
  generalize hb : boundaryEffects (ctPasses s) = b at hfires hcycle hflags
  replace hfires : FiresFresh fires s b := ⟨hfires.points, hfires.status, hfires.flag⟩
  replace hflags (g : Flag) (hg : g ∉ [Flag.node, .point, .cycle]) : flagSet g b = flagSet g s := hflags g hg
  have htimer : b.timer = { s.timer with position := 0, cycle := cycle, csSeen := false } := hb ▸ boundaryEffects_timer _
  have hparams : b.params = s.params := by rw [← hb]; simp
  have hline : b.line.level = s.line.level := by rw [← hb]; simp
  have hlink : b.link = s.link := by rw [← hb]; simp
  have hsync : b.sync = s.sync := by rw [← hb]; simp
  have hsched : b.sched = s.sched := by rw [← hb]; simp
  have hcauses : b.irq.causes = s.irq.causes := by rw [← hb]; simp
  have hnext : b.seq.nextIndex = 0 := hb ▸ boundaryEffects_nextIndex hstarts
  have htx : b.tx = s.tx := hb ▸ boundaryEffects_tx hstarts
  by_cases hmaster : master = true
  · have hrole : isMaster b = true ∧ b.link.state = .running := by
      simp only [master, Bool.and_eq_true, beq_iff_eq] at hmaster
      rw [hlink]
      exact ⟨decide_eq_true (hparams ▸ hmaster.1), hmaster.2⟩
    have hcounted : countedBoundary (ctPasses s) = launchCycleStart (masterSwap b) := by
      subst hb
      exact if_pos hrole
    have harmed : swaps = shadowArmed b := by
      simp only [swaps, hmaster, Bool.true_and, shadowArmed, hsched]
    have hblocked : blocked = launchBlocked (masterSwap b) := by
      simp [blocked, hmaster, launchBlocked, hlink, hline]
    have hbank : activeBank (masterSwap b) = bank := by
      rw [activeBank_masterSwap]
      simp only [bankAfterSwap, bankOf, hsched, bank, harmed]
    have hmarks := marks_launchCycleStart (masterSwap b)
    have hswap (g : Flag) (hg : g ∉ [Flag.slot, .lineErr, .node]) :
        flagSet g (launchCycleStart (masterSwap b)) = (flagSet g b || decide (g = .bank) && shadowArmed b) :=
      (hmarks.flags g hg).trans (flagSet_masterSwap g b)
    have hpoints : FiresFresh fires s (launchCycleStart (masterSwap b)) :=
      hfires.then_same (by simp) (by simp) ((hswap .point (by decide)).trans (Bool.or_false _))
    rw [hcounted]
    refine ⟨?_, hpoints.points, hpoints.status, hpoints.flag, ?_, ?_, ?_, ?_, ?_, ?_, ?_, ?_, ?_⟩
    · simp only [settleWait_timer, launchCycleStart_frame, masterSwap_length hrole.2, htimer, harmed, shadowBank, bank,
        bankOf, hsched]
      split <;> rfl
    · exact (hswap .cycle (by decide)).trans (by rw [hcycle, Bool.true_or])
    · simp [hnext]
    · simp [hlink]
    · simp [hsync]
    · simp only [settleWait_sched, launchCycleStart_frame, masterSwap_sched, harmed, hsched]
    · exact (hswap .bank (by decide)).trans (by rw [hflags .bank (by decide), harmed]; rfl)
    · refine (flagSet_slot_launchCycleStart _).trans ?_
      rw [flagSet_masterSwap, hflags .slot (by decide), hblocked, decide_eq_false (by decide), Bool.false_and, Bool.or_false]
    · simp only [settleWait_irq, launchCycleStart_causes, masterSwap_causes, hcauses, harmed, hblocked]
    · have hframe : cycleStartFrame (masterSwap b) = frame := by
        have hcycle : (masterSwap b).timer.cycle = cycle := by simp [htimer]
        have hparams : (masterSwap b).params = s.params := by simp [hparams]
        simp only [cycleStartFrame, hbank, hcycle, hparams, hiByte_eq_extract, loByte_eq_extract]
        rfl
      simp only [settleWait_tx, launchCycleStart_tx, hframe, masterSwap_frame, hlink, hline, htx, hmaster, hparams,
        true_and]
  · have hnot : ¬(isMaster b = true ∧ b.link.state = .running) := by
      intro h
      obtain ⟨hrole, hrunning⟩ := h
      refine hmaster ?_
      simp only [master, Bool.and_eq_true, beq_iff_eq]
      exact ⟨hparams ▸ of_decide_eq_true hrole, hlink ▸ hrunning⟩
    have hcounted : countedBoundary (ctPasses s) = b := by
      subst hb
      exact if_neg hnot
    have hmaster : master = false := Bool.eq_false_of_not_eq_true hmaster
    rw [hcounted]
    refine ⟨?_, hfires.points, hfires.status, hfires.flag, hcycle, hnext, ?_, ?_, ?_, ?_, ?_, ?_, ?_⟩
    · simp only [settleWait_timer, htimer, swaps, hmaster, Bool.false_and, Bool.false_eq_true, if_false]
    · simp [hlink]
    · simp [hsync]
    · simp [hsched, swaps, hmaster]
    · exact (hflags .bank (by decide)).trans (by simp [swaps, hmaster])
    · exact (hflags .slot (by decide)).trans (by simp [blocked, hmaster])
    · simp [hcauses, swaps, blocked, hmaster]
    · simp [htx, hmaster]

/-! ### O42 -/

/-- Settles O42: the timer starts at offset 0, below the first entry, and the line is idle for the launch. -/
theorem startupSilenceCompletes : Obligations.StartupSilenceCompletes := by
  intro s hstarting hidle htx hpass hlimit bank frame fires
  have hexec : exec .startupSilenceCompletes s = .next (settleWait (completeStartup s)) := by
    refine if_pos ⟨hstarting, hidle, decide_eq_true ?_⟩
    exact hlimit
  refine ⟨_, hexec, ?_⟩
  have hlink : setLinkState .running s = setFlag .link { s with link := { s.link with state := .running } } :=
    if_neg (by rw [hstarting]; exact LinkState.noConfusion)
  have hbegun : startupBegun s = setFlag .link { clearFired s with
      line := { s.line with idleTime := startupLimit s, ctIdle := true }
      timer := { position := 0, cycle := 0, length := some bank.length.toNat, csSeen := false }
      seq := { s.seq with nextIndex := 0 }
      link := { state := .running, silent := s.link.silent, silence := 0 } } := by
    unfold startupBegun
    rw [hlink]
    rfl
  generalize hu : startupBegun s = u at hbegun
  have hstarts : ∀ e ∈ scheduleOf u, 28 ≤ e.start.toNat := by
    rw [hbegun]
    exact fun e he => start_of_validate hpass he
  have hflags : Marks [.link] [] s u := by
    rw [hbegun]
    refine Marks.thenSetFlag ?_ .link ?_
    · exact .of_same rfl rfl
    · decide
  have hlinkSet : flagSet .link u = true := by
    rw [hbegun]
    exact flagSet_setFlag_self .link _
  have hreach := marks_reachOffset_below (s := u) (q := 0) false hstarts (by decide)
  have hlaunch := marks_launchCycleStart (reachOffset false 0 u)
  have hfires : FiresFresh fires s (reachOffset false 0 u) :=
    firesFresh_of_zero (reachOffset_fires false 0 u) (by rw [hbegun]; rfl) (by rw [hbegun]; rfl)
      (hflags.flags .point (by decide))
  have hpoints : FiresFresh fires s (launchCycleStart (reachOffset false 0 u)) :=
    hfires.then_same (by simp) (by simp) (hlaunch.flags .point (by decide))
  have hblocked : launchBlocked (reachOffset false 0 u) = false := by
    simp [launchBlocked, hbegun, hidle, clearFired]
  have hbank : activeBank (reachOffset false 0 u) = bank := by
    simp [activeBank, bankOf, hbegun, bank, clearFired]
  rw [completeStartup_eq, hu]
  refine ⟨?_, ?_, ?_, hpoints.points, hpoints.status, hpoints.flag, ?_, ?_, ?_, ?_, ?_⟩
  · simp [hbegun]
  · simp [hbegun]
  · have hnext : (reachOffset false 0 u).seq.nextIndex = 0 :=
      (reachOffset_zero_nextIndex false hstarts).trans (by rw [hbegun]; rfl)
    simp [hnext]
  · exact hlaunch.set .link (hreach.set .link hlinkSet)
  · exact (hlaunch.flags .cycle (by decide)).trans
      ((hreach.flags .cycle (by decide)).trans (hflags.flags .cycle (by decide)))
  · refine (launchCycleStart_causes _).trans ?_
    rw [hblocked, Bool.or_false]
    simp [hbegun, clearFired]
  · simp [hbegun, clearFired]
  · have hnone : (reachOffset false 0 u).tx = none :=
      (reachOffset_zero_tx false hstarts).trans (by rw [hbegun]; exact htx)
    have hcycle : (reachOffset false 0 u).timer.cycle = 0 := by simp [hbegun]
    have hparams : (reachOffset false 0 u).params = s.params := by simp [hbegun, clearFired]
    have hframe : cycleStartFrame (reachOffset false 0 u) = frame := by
      simp only [cycleStartFrame, hbank, hcycle, hparams, hiByte_eq_extract, loByte_eq_extract]
      rfl
    have hidle : (reachOffset false 0 u).line.level = .idle := by simp [hbegun, hidle]
    have hsilent : (reachOffset false 0 u).link.silent = s.link.silent := by simp [hbegun]
    simp only [settleWait_tx, launchCycleStart_tx, hframe, hnone, hidle, hsilent, hparams, and_true]
    cases s.link.silent <;> rfl

end Sys2Proof.Machine
end

section
/-! # An entry reached by counting (R41, R42, R57, R61 to R63, R68, R104, R106) -/

open Sys2Proof

namespace Sys2Proof.Machine

variable {s : State}

/-! ### The state in which the next offset is reached -/

/-- The state in which a CT that does not lose sync reaches the next offset: a missed start is counted (R26, R29). -/
def reachedAt (s : State) : State :=
  if startMissed s then countMissed (atPosition (s.timer.position + 1) (ctPasses s))
  else atPosition (s.timer.position + 1) (ctPasses s)

@[simp] theorem reachedAt_frame (s : State) :
    (reachedAt s).params = s.params ∧
      (reachedAt s).line.level = s.line.level ∧
      (reachedAt s).tx = s.tx ∧
      (reachedAt s).timer = { s.timer with position := s.timer.position + 1 } ∧
      (reachedAt s).points = s.points ∧
      (reachedAt s).sched = s.sched ∧
      (reachedAt s).seq = s.seq ∧
      (reachedAt s).link = s.link ∧
      (reachedAt s).boxes = s.boxes ∧
      (reachedAt s).queue.entries = s.queue.entries ∧
      (reachedAt s).queue.turnedAway = s.queue.turnedAway ∧
      (reachedAt s).nodes = s.nodes ∧
      (reachedAt s).irq.attention = s.irq.attention ∧
      (reachedAt s).irq.nodeChange = s.irq.nodeChange := by
  unfold reachedAt
  split <;> simp

theorem reachedAt_counters (s : State) :
    (reachedAt s).irq.counters = (if startMissed s then countedIn .csMissed s.irq else s.irq).counters := by
  unfold reachedAt
  split
  · rw [countMissed, bump_eq]
    rfl
  · rfl

theorem marks_reachedAt (s : State) : Marks [.sync] [.csMissed] s (reachedAt s) := by
  have hpassed : Marks [.sync] [.csMissed] s (atPosition (s.timer.position + 1) (ctPasses s)) := .of_same rfl rfl
  unfold reachedAt
  split
  · exact hpassed.trans (marks_countMissed _)
  · exact hpassed

theorem sameNodes_reachedAt (s : State) : SameNodes s (reachedAt s) :=
  ⟨by simp, by simp, (marks_reachedAt s).flags .node (by decide)⟩

theorem exec_reachedAt {length : Nat} (hlength : s.timer.length = some length) (hinside : s.timer.position + 1 < length)
    (hgoes : FrameGoesOn s) (hsync : SyncHolds s) : exec .positionReached s =
      .next (settleWait (reachOffset false (s.timer.position + 1) (reachedAt s))) := by
  unfold reachedAt
  split
  case isFalse hno =>
    rw [exec_positionReached_reaches hlength hinside (.inr hgoes)]
    · rw [endDueTransmission_of_goesOn (ctPasses_goesOn hgoes)]
    · simp only [startMissed, Bool.and_eq_true, beq_iff_eq, bne_iff_ne, Bool.not_eq_true', not_and, Bool.not_eq_false] at hno
      tauto
  case isTrue hmissed =>
    have hholds := hsync hmissed
    simp only [startMissed, Bool.and_eq_true, beq_iff_eq, bne_iff_ne, Bool.not_eq_true'] at hmissed
    obtain ⟨⟨hposition, hrole⟩, hseen⟩ := hmissed
    have hinside : 28 < length := by omega
    rw [windowEnd_counted hgoes hlength hinside hposition hrole hseen, hposition]
    have hbelow : (countMissed (atPosition 28 (ctPasses s))).sync.missed = s.sync.missed + 1 := if_pos (by
      change s.sync.missed < s.params.syncLossLimit.toNat
      omega)
    obtain ⟨hlimit, -, -⟩ | ⟨-, hcount⟩ := missedStart_cases (atPosition 28 (ctPasses s))
    · rw [hbelow] at hlimit
      exact absurd hlimit (by change s.sync.missed + 1 ≠ s.params.syncLossLimit.toNat; omega)
    · have hrunning : (countMissed (atPosition 28 (ctPasses s))).timer.length ≠ none := by simp [hlength]
      rw [hcount, if_neg hrunning]

/-! ### What opens -/

theorem openEntry_transmit {e : Entry} (hkind : e.kind = 0x01) (i : Nat) (s : State) :
    openEntry i e s = admitTransmit e (setSlot (slotOf i e .transmit) (closeForOpening s)) := by
  rw [openEntry, hkind]
  rfl

theorem openEntry_receive {e : Entry} (hkind : e.kind = 0x02) (i : Nat) (s : State) :
    openEntry i e s = setSlot (slotOf i e (.receive .awaiting false)) (closeForOpening s) := by
  rw [openEntry, hkind]
  rfl

theorem openEntry_window {e : Entry} (hkind : e.kind = 0x03) (i : Nat) (s : State) :
    openEntry i e s = setSlot (slotOf i e .openWindow) (closeForOpening s) := by
  rw [openEntry, hkind]
  rfl

theorem closeForOpening_none (h : s.seq.slot = none) : closeForOpening s = s := by
  rw [closeForOpening, h]

theorem closeForOpening_extended {sl : Slot} {sub : ReceiveSub} (h : s.seq.slot = some sl) (hb : sl.body = .receive sub true) :
    closeForOpening s = nodeMissed sl.source (closeSlot s) := by
  rw [closeForOpening, h]
  dsimp only
  rw [hb]

/-- An entry that opens as an offset is reached, with no slot that ends there. -/
theorem reachOffset_opens {e : Entry} (swapping : Bool) (he : (scheduleOf s)[s.seq.nextIndex]? = some e)
    (hopens : OpensAt swapping e s) (hslot : ∀ sl ∈ s.seq.slot, sl.finish = e.start.toNat → sl.isExtended = true) :
    reachOffset swapping e.start.toNat s = firePoints e.start.toNat
      { openEntry s.seq.nextIndex e s with
        seq := { (openEntry s.seq.nextIndex e s).seq with nextIndex := s.seq.nextIndex + 1 } } := by
  rw [reachOffset, reachSlotEnd_of_not hslot, reachEntry_opens swapping he hopens]

theorem reachOffset_passed {e : Entry} (swapping : Bool) (he : (scheduleOf s)[s.seq.nextIndex]? = some e)
    (hnot : ¬OpensAt swapping e s) (hslot : ∀ sl ∈ s.seq.slot, sl.finish = e.start.toNat → sl.isExtended = true) :
    reachOffset swapping e.start.toNat s = firePoints e.start.toNat
      { s with seq := { s.seq with nextIndex := s.seq.nextIndex + 1 } } := by
  rw [reachOffset, reachSlotEnd_of_not hslot, reachEntry_passed swapping he hnot]

theorem activeIn_iff (e : Entry) (cycle : Word) :
    e.activeIn cycle = true ↔ cycle.toNat % 2 ^ e.exponent.toNat = e.phase.toNat := by
  simp [Entry.activeIn]

/-! ### The decision of a transmit slot (R61, R62) -/

theorem admitTransmit_withheld {e : Entry} {m : Fin 24} {b : TxMailbox} (hm : e.mailbox.toNat = m.val)
    (hb : s.boxes[m] = .tx b) (h : s.link.silent = true ∨ b.state ≠ .loaded) : admitTransmit e s = s := by
  have hindex : mailboxIndex e.mailbox = some m := (mailboxIndex_eq_some _ _).mpr hm
  unfold admitTransmit
  split
  · rfl
  · obtain hsilent | hstate := h
    · simp_all
    · simp only [hindex, hb, if_pos hstate]

theorem admitTransmit_loaded {e : Entry} {m : Fin 24} {b : TxMailbox} (hsilent : s.link.silent = false) (htx : s.tx = none)
    (hm : e.mailbox.toNat = m.val) (hb : s.boxes[m] = .tx b) (hloaded : b.state = .loaded) : admitTransmit e s =
      if lineBusy s then refuseSend m .blocked s
      else if e.window.toNat < (mailboxFrame .slotData b s).stuffedLength s.params then refuseSend m .oversize s
      else beginFrame (.slot m) (mailboxFrame .slotData b s) { s with boxes := put s.boxes m (.tx { b with state := .locked }) } := by
  have hindex : mailboxIndex e.mailbox = some m := (mailboxIndex_eq_some _ _).mpr hm
  rw [← updateTx_tx hb (fun b => { b with state := .locked })]
  simp [admitTransmit, hsilent, htx, hindex, hb, hloaded]

theorem refuseSend_eq {m : Fin 24} {b : TxMailbox} (hb : s.boxes[m] = .tx b) (o : LastOutcome) : refuseSend m o s =
    { s with
      boxes := put s.boxes m (.tx { b with lastOutcome := o })
      irq := { countedIn .slotSkipped s.irq with
        flags := s.irq.flags ||| 0x0804, attention := s.irq.attention ||| BitVec.twoPow 24 m.val } } := by
  have hbit : BitVec.twoPow 14 Flag.slot.bit = 0x0800 := by decide
  rw [refuseSend, raiseAttention_eq, setFlag, hbit, updateTx_tx hb, bump_eq]
  simp only [BitVec.or_assoc]
  rfl

/-- A slot that no frame follows is left as it stands by the frame that begins in it. -/
theorem slot_beginFrame {sl : Slot} (hsl : s.seq.slot = some sl) (hfollows : sl.follows = false) (r : Requester) (f : Frame) :
    (beginFrame r f s).seq.slot = some sl := by
  have habandon : (abandonAssembly .truncErr s).seq.slot = some sl := by
    obtain ⟨-, heq⟩ | ⟨-, heq⟩ := abandonAssembly_cases .truncErr s <;> rw [heq]
    · exact hsl
    · rw [slotFrameEnded_other]
      · exact hsl
      · intro sl' hsl'
        obtain rfl := Option.some.inj (hsl.symm.trans hsl')
        exact hfollows
  exact habandon

theorem slot_admitTransmit {e : Entry} {sl : Slot} (hsl : s.seq.slot = some sl) (hfollows : sl.follows = false) :
    (admitTransmit e s).seq.slot = some sl := by
  obtain heq | ⟨m, b, -, -, -, -, -, ⟨-, heq⟩ | ⟨-, -, heq⟩ | ⟨-, -, heq⟩⟩ := admitTransmit_cases e s <;> rw [heq]
  · exact hsl
  · simpa using hsl
  · simpa using hsl
  · exact slot_beginFrame (by simpa using hsl) hfollows _ _

/-- Settles O43: the entry opens as a TRANSMIT slot, and by R61 the decision is its own. -/
theorem transmitSlotOpens : Obligations.TransmitSlotOpens := by
  intro s length e m b hlength hinside hstart hsync hrunning htx hslot he hkind hactive hm hb counted frame
  have hgoes : FrameGoesOn s := fun x hx => by rw [htx] at hx; cases hx
  refine ⟨_, exec_reachedAt hlength hinside hgoes hsync, ?_⟩
  set w := reachedAt s with hw
  have hw_slot : w.seq.slot = none := by simp [w, hslot]
  have hopens : OpensAt false e w := ⟨by simp [w, hrunning], rfl, (activeIn_iff _ _).mpr (by simpa [w] using hactive)⟩
  have he' : (scheduleOf w)[w.seq.nextIndex]? = some e := by simpa [w, scheduleOf, bankOf] using he
  set sl := slotOf w.seq.nextIndex e .transmit with hsl
  set v := setSlot sl w with hv
  have hreach : reachOffset false (s.timer.position + 1) w = firePoints e.start.toNat
      { admitTransmit e v with seq := { (admitTransmit e v).seq with nextIndex := w.seq.nextIndex + 1 } } := by
    rw [hstart, reachOffset_opens false he' hopens (by simp [hw_slot]), openEntry_transmit hkind, closeForOpening_none hw_slot]
  have hv_box : v.boxes[m] = .tx b := by simpa [v, w] using hb
  have hv_tx : v.tx = none := by simp [v, w, htx]
  have hslot : (admitTransmit e v).seq.slot = some sl := slot_admitTransmit rfl rfl
  have hframe : mailboxFrame .slotData b v = frame := by simp [mailboxFrame, frame, v, w]
  have hparams : v.params = s.params := by simp [v, w]
  have hv_counters : v.irq.counters = counted.counters := reachedAt_counters s
  have hv_marks : Marks [.sync] [.csMissed] s v := (marks_reachedAt s).trans (.of_same rfl rfl)
  rw [hreach]
  refine ⟨by simp [w], ⟨sl, by simpa using hslot, by simp [sl, w, slotOf], rfl, rfl, rfl⟩, fun hwithheld => ?_,
    fun hsilent hloaded => ⟨fun hrefused => ?_, fun hidle hfits => ?_⟩⟩
  · have hsame : admitTransmit e v = v := by
      refine admitTransmit_withheld hm hv_box ?_
      obtain h | h := hwithheld
      · exact .inl (by simpa [v, w] using h)
      · exact .inr (by rw [h]; exact TxState.noConfusion)
    rw [hsame]
    refine ⟨by simpa using hv_tx, by simp [v, w], by simpa using hv_counters, by simp [v, w], ?_⟩
    exact ((marks_firePoints _ _).flags .slot (by decide)).trans (hv_marks.flags .slot (by decide))
  · set o : LastOutcome := if s.line.level ≠ .idle then .blocked else .oversize with ho
    have hrefuse : admitTransmit e v = refuseSend m o v := by
      rw [admitTransmit_loaded (by simpa [v, w] using hsilent) hv_tx hm hv_box hloaded, hframe, hparams, ho]
      by_cases hbusy : s.line.level = .idle
      · have hover := hrefused.resolve_left (not_not.mpr hbusy)
        rw [if_neg (by simp [lineBusy, v, w, hbusy]), if_pos hover, if_neg (not_not.mpr hbusy)]
      · rw [if_pos (by simpa [lineBusy, v, w] using hbusy), if_pos hbusy]
    have hmarked : flagSet .slot (refuseSend m o v) = true ∧ flagSet .mbx (refuseSend m o v) = true := by
      rw [refuseSend, raiseAttention, flagSet_setFlag_self, flagSet_setFlag]
      exact ⟨(congrArg (· || _) (flagSet_setFlag_self .slot _)).trans (Bool.true_or _), rfl⟩
    have hset (f : Flag) (hf : flagSet f (refuseSend m o v) = true) :
        flagSet f (firePoints e.start.toNat { refuseSend m o v with
          seq := { (refuseSend m o v).seq with nextIndex := w.seq.nextIndex + 1 } }) = true :=
      (marks_firePoints _ _).set f hf
    rw [hrefuse]
    refine ⟨by simpa using hv_tx, ?_, ?_, ?_, hset .slot hmarked.1, hset .mbx hmarked.2⟩
    · simp only [settleWait_boxes, firePoints_frame, refuseSend_eq hv_box]
      simp [v, w]
    · simp only [settleWait_irq, firePoints_frame, refuseSend_eq hv_box]
      simp only [countedIn, hv_counters]
    · simp only [settleWait_irq, firePoints_frame, refuseSend_eq hv_box]
      simp [v, w]
  · have hbegin : admitTransmit e v = beginFrame (.slot m) frame { v with boxes := put v.boxes m (.tx { b with state := .locked }) } := by
      rw [admitTransmit_loaded (by simpa [v, w] using hsilent) hv_tx hm hv_box hloaded, hframe, hparams,
        if_neg (by simp [lineBusy, v, w, hidle]), if_neg (not_lt.mpr hfits)]
    rw [hbegin]
    refine ⟨?_, ?_, ?_⟩
    · simp [beginFrame, hparams]
    · simp [v, w]
    · simp [v, w]

end Sys2Proof.Machine
end

section
/-! # Entries that open or are passed over, and a frame that ends as an offset is reached (R41, R57, R63, R66, R68) -/

open Sys2Proof

namespace Sys2Proof.Machine

variable {s : State}

/-! ### The account of a slot that an entry closes -/

/-- The MISSED of the slot that an entry closes, where there is one. -/
def missedOfSlot (s : State) : State :=
  match s.seq.slot with
  | some sl => nodeMissed sl.source s
  | none => s

theorem sameNodes_closeForOpening {w : State} (hnodes : SameNodes s w) (hslot : w.seq.slot = s.seq.slot)
    (hextended : ∀ sl ∈ s.seq.slot, ∃ sub, sl.body = .receive sub true) :
    SameNodes (missedOfSlot s) (closeForOpening w) := by
  cases hs : s.seq.slot with
  | none =>
    rw [closeForOpening_none (hslot.trans hs), missedOfSlot, hs]
    exact hnodes
  | some sl =>
    obtain ⟨sub, hb⟩ := hextended sl hs
    rw [closeForOpening_extended (hslot.trans hs) hb, missedOfSlot, hs]
    exact sameNodes_nodeMissed (t := closeSlot w) ⟨hnodes.nodes, hnodes.change, hnodes.flag⟩ sl.source

theorem Slot.isExtended_of_body {sl : Slot} {sub : ReceiveSub} (h : sl.body = .receive sub true) : sl.isExtended = true := by
  rw [Slot.isExtended, h]

/-! ### A frame that ends with the CT -/

theorem ctPasses_of_busy (h : s.line.ctIdle = false) :
    ctPasses s = { s with line := { s.line with ctIdle := s.line.level == .idle } } := by
  unfold ctPasses
  rw [h]
  rfl

theorem updateTx_line (m : Fin 24) (g : TxMailbox → TxMailbox) (l : LineState) (s : State) :
    updateTx m g { s with line := l } = { updateTx m g s with line := l } := by
  cases hb : s.boxes[m] with
  | tx b => rw [updateTx_tx hb, updateTx_tx (s := { s with line := l }) hb]
  | rx r => rw [updateTx_rx hb, updateTx_rx (s := { s with line := l }) hb]

theorem outcomeCompleted_line (r : Requester) (l : LineState) (s : State) :
    outcomeCompleted r { s with line := l } = { outcomeCompleted r s with line := l } := by
  cases r with
  | cycleStart => rfl
  | slot m => simp only [outcomeCompleted, updateTx_line]; rfl
  | event m => simp only [outcomeCompleted, updateTx_line]; rfl

theorem outcomeCollided_line (r : Requester) (l : LineState) (s : State) :
    outcomeCollided r { s with line := l } = { outcomeCollided r s with line := l } := by
  cases r with
  | cycleStart => rfl
  | slot m => simp only [outcomeCollided, updateTx_line]; rfl
  | event m =>
    have hretry : retryOf m { s with line := l } = retryOf m s := rfl
    simp only [outcomeCollided, updateTx_line, hretry]
    split <;> rfl

theorem completeTransmission_line (x : Transmission) (l : LineState) (h : s.link.state ≠ .stopping) :
    completeTransmission x { s with line := l } = { completeTransmission x s with line := l } := by
  rw [completeTransmission_eq h rfl (by simp [transmitterIdle]),
    completeTransmission_eq (s := { s with line := l }) h (outcomeCompleted_line x.requester l (transmitterIdle s))
      (by simp [transmitterIdle])]
  rfl

theorem collideTransmission_line (x : Transmission) (l : LineState) (h : s.link.state ≠ .stopping) :
    collideTransmission x { s with line := l } = { collideTransmission x s with line := l } := by
  rw [collideTransmission_eq h rfl (by simp [transmitterIdle, countCollision]),
    collideTransmission_eq (s := { s with line := l }) h
      (outcomeCollided_line x.requester l (countCollision (transmitterIdle s))) (by simp [transmitterIdle, countCollision])]
  rfl

theorem endDueTransmission_completes {x : Transmission} (hx : s.tx = some x) (hc : x.collided = false)
    (hall : x.chars.length ≤ x.index) : endDueTransmission s = completeTransmission x s := by
  have hmatched : x.allMatched = true := by simp [Transmission.allMatched, hc, hall]
  simp [endDueTransmission, hx, hmatched]

theorem endDueTransmission_collides {x : Transmission} (hx : s.tx = some x) (hc : x.collided = true) :
    endDueTransmission s = collideTransmission x s := by
  have hmatched : x.allMatched = false := by simp [Transmission.allMatched, hc]
  simp [endDueTransmission, hx, hmatched, hc]

/-- Outside STOPPING the end of a due frame may come before the CT that brings it. -/
theorem exec_positionReached_after {u : State} (hbusy : s.line.ctIdle = false) (hrunning : s.timer.length ≠ none)
    (hu : endDueTransmission (ctPasses s) = { u with line := { s.line with ctIdle := s.line.level == .idle } })
    (hcounts : CountsFrom s u) (hline : u.line = s.line) (htx : u.tx = none) :
    exec .positionReached s = exec .positionReached u := by
  have hs : endOfCt s = advanceTimer (endDueTransmission (ctPasses s)) := by
    obtain ⟨hnone, -⟩ | ⟨-, heq⟩ := endOfCt_cases s
    · exact absurd hnone hrunning
    · exact heq
  have hafter : endOfCt u = advanceTimer (endDueTransmission (ctPasses u)) := by
    obtain ⟨hnone, -⟩ | ⟨-, heq⟩ := endOfCt_cases u
    · exact absurd (hcounts.timer ▸ hnone) hrunning
    · exact heq
  change Host.Outcome.next (endOfCt s) = .next (endOfCt u)
  rw [hs, hafter, hu, ctPasses_of_busy (by rw [hline]; exact hbusy), hline]
  exact congrArg (Host.Outcome.next ∘ advanceTimer) (endDueTransmission_of_idle (by exact htx)).symm

/-! ### O44 -/

/-- A RECEIVE or OPEN entry opens as its slot, after a slot that is still open has closed (R57, R63, R68). -/
theorem openEntry_listens {e : Entry} (hkind : e.kind = 0x02 ∨ e.kind = 0x03) (i : Nat) (s : State) :
    openEntry i e s =
      setSlot (slotOf i e (if e.kind = 0x02 then .receive .awaiting false else .openWindow)) (closeForOpening s) := by
  obtain h | h := hkind
  · rw [openEntry_receive h, if_pos h]
  · rw [openEntry_window h, if_neg (by rw [h]; decide)]

/-- Settles O44: by what opens or is passed over, and as the due frame's end commutes with the passing of the CT. -/
theorem entryReached : Obligations.EntryReached := by
  constructor
  · intro s length e hlength hinside hstart hsync hgoes he hextended active opened closed
    refine ⟨_, exec_reachedAt hlength hinside hgoes hsync, ?_⟩
    have hmarks := marks_reachedAt s
    have hnodes := sameNodes_reachedAt s
    have hcounters := reachedAt_counters s
    generalize hw : reachedAt s = w at *
    have hslots : w.seq.slot = s.seq.slot := by simp [← hw]
    have he' : (scheduleOf w)[w.seq.nextIndex]? = some e := by simpa [← hw, scheduleOf, bankOf] using he
    have hstays : ∀ sl ∈ w.seq.slot, sl.finish = e.start.toNat → sl.isExtended = true := by
      intro sl hsl _
      obtain ⟨sub, hb⟩ := hextended sl (hslots ▸ hsl)
      exact Slot.isExtended_of_body hb
    have hopens : OpensAt false e w ↔ s.link.state = .running ∧ active := by
      simp only [OpensAt, activeIn_iff, true_and, active]
      simp [← hw]
    rw [hstart]
    by_cases hdue : OpensAt false e w
    · rw [reachOffset_opens false he' hdue hstays]
      obtain ⟨hrunning, hactive⟩ := hopens.mp hdue
      refine ⟨by simp [← hw], by simp [← hw, hstart], fun hpassed => ?_, fun _ _ hkind => ?_⟩
      · exact absurd ⟨hrunning, hactive⟩ (not_and_or.mpr (hpassed.imp_right id))
      · have hclosed := sameNodes_closeForOpening hnodes hslots hextended
        rw [openEntry_listens hkind]
        refine ⟨?_, by simp [← hw], by simp [← hw], by simp [← hw], by simp [← hw], ?_, ?_, by simp [← hw], ?_⟩
        · simp only [settleWait_seq, firePoints_frame, ← hw, reachedAt_frame]
          rfl
        · simp only [settleWait_nodes, firePoints_frame]
          exact hclosed.nodes
        · simp only [settleWait_irq, firePoints_frame]
          exact hclosed.change
        · exact ((marks_firePoints _ _).flags .node (by decide)).trans hclosed.flag
    · rw [reachOffset_passed false he' hdue hstays]
      refine ⟨by simp [← hw], by simp [← hw, hstart], fun _ => ?_, fun hrunning hactive _ => ?_⟩
      · refine ⟨by simp [← hw], by simp [← hw], by simp [← hw], by simp [← hw], by simp [← hw], by simp [← hw],
          by simp [← hw], ?_, fun flag hpoint hsyncFlag => ?_⟩
        · simp only [settleWait_irq, firePoints_frame]
          exact hcounters
        · exact ((marks_firePoints _ _).flags flag (by simpa using hpoint)).trans
            (hmarks.flags flag (by simpa using hsyncFlag))
      · exact absurd (hopens.mpr ⟨hrunning, hactive⟩) hdue
  · intro s u x hx hawake hrunning hbusy h
    obtain ⟨hc, hall, hu⟩ | ⟨hc, hu⟩ := h
    · rw [exec_transmissionCompletes hx hc hall] at hu
      obtain rfl := Host.Outcome.next.inj hu
      have heq := completeTransmission_eq (x := x) hawake rfl (by simp [transmitterIdle])
      refine exec_positionReached_after hbusy hrunning ?_ (.completeTransmission x hawake) ?_ ?_
      · rw [ctPasses_of_busy hbusy, endDueTransmission_completes (by exact hx) hc hall, completeTransmission_line x _ hawake]
      · rw [heq]
        simp [transmitterIdle]
      · rw [heq]
        simp [transmitterIdle]
    · rw [exec_transmissionCollides hx (.inl hc)] at hu
      obtain rfl := Host.Outcome.next.inj hu
      have heq := collideTransmission_eq (x := x) hawake rfl (by simp [transmitterIdle, countCollision])
      refine exec_positionReached_after hbusy hrunning ?_ (.collideTransmission x hawake) ?_ ?_
      · rw [ctPasses_of_busy hbusy, endDueTransmission_collides (by exact hx) hc, collideTransmission_line x _ hawake]
      · rw [heq]
        simp [transmitterIdle, countCollision]
      · rw [heq]
        simp [transmitterIdle, countCollision]

end Sys2Proof.Machine
end

section
/-! # The window end of each kind of slot, and a slot that meets the next entry (R57, R59, R65, R66) -/

open Sys2Proof

namespace Sys2Proof.Machine

variable {s : State}

/-! ### The window end by kind (R59, R65) -/

theorem slotWindowEnd_closes {sl : Slot} (hsl : s.seq.slot = some sl)
    (hb : sl.body = .transmit ∨ sl.body = .openWindow ∨ sl.body = .receive .done false) : slotWindowEnd s = closeSlot s := by
  unfold slotWindowEnd
  rw [hsl]
  dsimp only
  obtain hb | hb | hb := hb <;> rw [hb]

theorem slotWindowEnd_misses {sl : Slot} (hsl : s.seq.slot = some sl) (hb : sl.body = .receive .awaiting false) :
    slotWindowEnd s = nodeMissed sl.source (closeSlot s) := by
  unfold slotWindowEnd
  rw [hsl]
  dsimp only
  rw [hb]

theorem slotWindowEnd_extends {sl : Slot} {extended : Bool} (hsl : s.seq.slot = some sl)
    (hb : sl.body = .receive .receiving extended) :
    slotWindowEnd s = setSlot { sl with body := .receive .receiving true } s := by
  unfold slotWindowEnd
  rw [hsl]
  dsimp only
  rw [hb]

/-! ### What a CT changes commutes with the closing of a slot and the MISSED of its node -/

theorem nodeMissed_form (source : Byte) (s : State) : ∃ nodes change flags, ∀ t : State, t.nodes = s.nodes →
    nodeMissed source t = { t with
      nodes := nodes
      irq := { t.irq with nodeChange := t.irq.nodeChange ||| change, flags := t.irq.flags ||| flags } } := by
  cases hn : selectNode source s with
  | none =>
    refine ⟨s.nodes, 0, 0, fun t ht => ?_⟩
    rw [nodeMissed, selectNode_congr ht, hn, ← ht]
    simp
  | some n =>
    by_cases hchange : s.nodes[n].state ≠ .absent ∧ s.nodes[n].missed.state = .absent
    · refine ⟨put s.nodes n s.nodes[n].missed, BitVec.twoPow 16 n.val, BitVec.twoPow 14 Flag.node.bit, fun t ht => ?_⟩
      rw [nodeMissed, selectNode_congr ht, hn]
      dsimp only
      rw [ht, if_pos hchange]
      rfl
    · refine ⟨put s.nodes n s.nodes[n].missed, 0, 0, fun t ht => ?_⟩
      rw [nodeMissed, selectNode_congr ht, hn]
      dsimp only
      rw [ht, if_neg hchange]
      simp

theorem ctPasses_closeSlot (s : State) : ctPasses (closeSlot s) = closeSlot (ctPasses s) := by
  unfold ctPasses closeSlot
  dsimp only
  split <;> rfl

theorem reachedAt_closeSlot (s : State) : reachedAt (closeSlot s) = closeSlot (reachedAt s) := by
  have hmissed : startMissed (closeSlot s) = startMissed s := rfl
  unfold reachedAt
  rw [hmissed, ctPasses_closeSlot]
  split <;> rfl

theorem ctPasses_nodeMissed (source : Byte) (s : State) : ctPasses (nodeMissed source s) = nodeMissed source (ctPasses s) := by
  obtain ⟨nodes, change, flags, heq⟩ := nodeMissed_form source s
  rw [heq s rfl, heq (ctPasses s) rfl]
  rfl

theorem countMissed_nodeMissed (source : Byte) (s : State) :
    countMissed (nodeMissed source s) = nodeMissed source (countMissed s) := by
  obtain ⟨nodes, change, flags, heq⟩ := nodeMissed_form source s
  rw [heq s rfl, heq (countMissed s) (by simp)]
  simp only [countMissed, setFlag, updateCauses, bump, BitVec.or_assoc, BitVec.or_comm flags]
  rfl

theorem reachedAt_nodeMissed (source : Byte) (s : State) : reachedAt (nodeMissed source s) = nodeMissed source (reachedAt s) := by
  have hmissed : startMissed (nodeMissed source s) = startMissed s := by simp [startMissed]
  have hposition (q : Nat) (u : State) : atPosition q (nodeMissed source u) = nodeMissed source (atPosition q u) := by
    obtain ⟨nodes, change, flags, heq⟩ := nodeMissed_form source u
    rw [heq u rfl, heq (atPosition q u) rfl]
  have hnext : (nodeMissed source s).timer.position + 1 = s.timer.position + 1 := by simp
  unfold reachedAt
  rw [hmissed, hnext, ctPasses_nodeMissed, hposition]
  split
  · exact countMissed_nodeMissed source _
  · rfl

/-! ### O45 -/

/-- The state with its open slot closed unaccounted. -/
abbrev closedState (s : State) : State := { s with
  seq := { s.seq with slot := none }, queue := { s.queue with wait := none, turnedAway := false } }

theorem missedState_reachedAt (source : Byte) (s : State) :
    nodeMissed source (closeSlot (reachedAt s)) = reachedAt (nodeMissed source (closedState s)) := by
  rw [reachedAt_nodeMissed, ← reachedAt_closeSlot]
  rfl

/-- The reaching of an offset with no slot open is the entry and the points. -/
theorem reachOffset_of_slot_none (swapping : Bool) (q : Nat) (h : s.seq.slot = none) :
    reachOffset swapping q s = firePoints q (reachEntry swapping q s) := by
  rw [reachOffset, reachSlotEnd_of_not (by simp [h])]

/-- A command whose slot's end leaves what another state is reached with acts as on that state. -/
theorem exec_positionReached_congr {c : State} {length : Nat} (hlength : s.timer.length = some length)
    (hinside : s.timer.position + 1 < length) (hsync : SyncHolds s) (hgoes : FrameGoesOn s)
    (htimer : c.timer = s.timer) (hparams : c.params = s.params) (hmissed : c.sync = s.sync) (htx : c.tx = s.tx)
    (h : reachOffset false (s.timer.position + 1) (reachedAt s) = reachOffset false (s.timer.position + 1) (reachedAt c)) :
    exec .positionReached s = exec .positionReached c := by
  rw [exec_reachedAt hlength hinside hgoes hsync, exec_reachedAt (s := c) (length := length), h, htimer]
  · rw [htimer, hlength]
  · rw [htimer]; exact hinside
  · intro x hx; exact hgoes x (htx ▸ hx)
  · simp only [SyncHolds, startMissed, htimer, hparams, hmissed]; exact hsync

/-- An extended slot closes for the entry that opens (R57, R66). -/
theorem reachEntry_of_extended {e : Entry} {sl : Slot} {sub : ReceiveSub} (he : (scheduleOf s)[s.seq.nextIndex]? = some e)
    (hkind : e.kind = 0x01 ∨ e.kind = 0x02 ∨ e.kind = 0x03) (hopens : OpensAt false e s) (hsl : s.seq.slot = some sl)
    (hb : sl.body = .receive sub true) :
    reachEntry false e.start.toNat s = reachEntry false e.start.toNat (nodeMissed sl.source (closeSlot s)) := by
  have hclose := closeForOpening_extended hsl hb
  have hagain : closeForOpening (nodeMissed sl.source (closeSlot s)) = nodeMissed sl.source (closeSlot s) :=
    closeForOpening_none (by simp [closeSlot])
  have hopen (i : Nat) : openEntry i e s = openEntry i e (nodeMissed sl.source (closeSlot s)) := by
    obtain h | h | h := hkind
    · rw [openEntry_transmit h, openEntry_transmit h, hclose, hagain]
    · rw [openEntry_receive h, openEntry_receive h, hclose, hagain]
    · rw [openEntry_window h, openEntry_window h, hclose, hagain]
  have hindex : (nodeMissed sl.source (closeSlot s)).seq.nextIndex = s.seq.nextIndex := by simp [closeSlot]
  rw [reachEntry_opens false he hopens, reachEntry_opens (s := nodeMissed sl.source (closeSlot s)) (e := e) false, hindex, hopen]
  · simpa [scheduleOf, bankOf, closeSlot] using he
  · simpa [OpensAt, closeSlot] using hopens

/-- Settles O45: the slot's end by kind, and as the closing commutes with the passing of the CT. -/
theorem slotEnds : Obligations.SlotEnds := by
  constructor
  · intro s length sl hlength hinside hposition hgoes hsl hfinish hnoEntry
    have hno : startMissed s = false := by simp [startMissed, hposition]
    have hsync : SyncHolds s := fun h => Bool.noConfusion (h.symm.trans hno)
    have hmarks := marks_reachedAt s
    have hnodes := sameNodes_reachedAt s
    have hcounters := reachedAt_counters s
    rw [exec_reachedAt hlength hinside hgoes hsync]
    rw [if_neg (by simp [hno])] at hcounters
    have hslot : (reachedAt s).seq.slot = some sl := by simp [hsl]
    have hreach : reachOffset false (s.timer.position + 1) (reachedAt s) =
        firePoints (s.timer.position + 1) (reachSlotEnd (s.timer.position + 1) (reachedAt s)) := by
      rw [reachOffset, reachEntry_absent]
      intro e he
      exact hnoEntry e (by simpa [scheduleOf, bankOf] using he)
    have hfired (u : State) : SameNodes u (settleWait (firePoints (s.timer.position + 1) u)) :=
      ⟨by simp, by simp, (marks_firePoints _ u).flags .node (by decide)⟩
    have hclosed : SameNodes s (closeSlot (reachedAt s)) := ⟨hnodes.nodes, hnodes.change, hnodes.flag⟩
    rw [hreach]
    have hends (hshort : sl.isExtended = false) := reachSlotEnd_of_end hslot hfinish hshort
    refine ⟨_, rfl, by simp, by simp, by simp, by simpa using hcounters, by simp, by simp, by simp, by simp [hfinish],
      fun hb => ?_, fun hb => ?_, fun hb => ?_, fun hb => ?_, fun sub hb => ?_⟩
    · rw [hends (by obtain h | h | h := hb <;> rw [Slot.isExtended, h]), slotWindowEnd_closes hslot hb]
      have hsame := hclosed.trans (hfired _)
      exact ⟨by simp [closeSlot], hsame.nodes, hsame.flag⟩
    · rw [hends (by rw [Slot.isExtended, hb]), slotWindowEnd_closes hslot (.inr (.inl hb))]
      rw [settleWait_none (headMayWait_of_not_open (by simp [openWindowOpen, closeSlot]))]
      simp [closeSlot]
    · rw [hends (by rw [Slot.isExtended, hb]), slotWindowEnd_misses hslot hb]
      have hsame := (sameNodes_nodeMissed hclosed sl.source).trans (hfired _)
      exact ⟨by simp [closeSlot], hsame.nodes, hsame.change, hsame.flag⟩
    · rw [hends (by rw [Slot.isExtended, hb]), slotWindowEnd_extends hslot hb]
      have hextended : SameNodes s (setSlot { sl with body := .receive .receiving true } (reachedAt s)) :=
        ⟨hnodes.nodes, hnodes.change, hnodes.flag⟩
      have hsame := hextended.trans (hfired _)
      exact ⟨by simp [setSlot], hsame.nodes, hsame.flag⟩
    · rw [reachSlotEnd_of_not fun sl' hsl' _ =>
        Option.some.inj (hslot.symm.trans hsl') ▸ Slot.isExtended_of_body hb]
      have hsame := hnodes.trans (hfired _)
      exact ⟨by simpa using hsl, hsame.nodes, hsame.flag⟩
  · intro s length sl hlength hinside hsync hgoes hsl q closed
    have hslot : (reachedAt s).seq.slot = some sl := by simp [hsl]
    have hagain (c : State) (hc : c.seq.slot = none) (htimer : c.timer = s.timer) (hparams : c.params = s.params)
        (hmissed : c.sync = s.sync) (htx : c.tx = s.tx) (h : reachEntry false q (reachSlotEnd q (reachedAt s)) = reachEntry false q (reachedAt c)) :
        exec .positionReached s = exec .positionReached c := by
      refine exec_positionReached_congr hlength hinside hsync hgoes htimer hparams hmissed htx ?_
      rw [reachOffset_of_slot_none (s := reachedAt c) false _ (by simp [hc]), reachOffset]
      exact congrArg (firePoints _) h
    refine ⟨fun hfinish hb => ?_, fun hfinish hb => ?_, fun e he hstart hkind hrunning hactive hb => ?_⟩
    · refine hagain closed rfl rfl rfl rfl rfl ?_
      have hshort : sl.isExtended = false := by obtain h | h | h := hb <;> rw [Slot.isExtended, h]
      rw [reachSlotEnd_of_end hslot hfinish hshort, slotWindowEnd_closes hslot hb, ← reachedAt_closeSlot]
      rfl
    · refine hagain _ (by simp [closed]) (by simp [closed]) (by simp [closed]) (by simp [closed]) (by simp [closed]) ?_
      have hshort : sl.isExtended = false := by rw [Slot.isExtended, hb]
      rw [reachSlotEnd_of_end hslot hfinish hshort, slotWindowEnd_misses hslot hb, missedState_reachedAt]
    · refine hagain _ (by simp [closed]) (by simp [closed]) (by simp [closed]) (by simp [closed]) (by simp [closed]) ?_
      have hopens : OpensAt false e (reachedAt s) := ⟨by simp [hrunning], rfl, (activeIn_iff _ _).mpr (by simpa using hactive)⟩
      have he' : (scheduleOf (reachedAt s))[(reachedAt s).seq.nextIndex]? = some e := by simpa [scheduleOf, bankOf] using he
      rw [← missedState_reachedAt, ← hstart]
      obtain ⟨hfinish, hb⟩ | ⟨sub, hb⟩ := hb
      · have hshort : sl.isExtended = false := by rw [Slot.isExtended, hb]
        rw [reachSlotEnd_of_end hslot (hfinish.trans hstart.symm) hshort, slotWindowEnd_extends hslot hb]
        exact reachEntry_of_extended (s := setSlot { sl with body := .receive .receiving true } (reachedAt s))
          (sl := { sl with body := .receive .receiving true }) he' hkind hopens rfl rfl
      · have hlong : sl.isExtended = true := Slot.isExtended_of_body hb
        rw [reachSlotEnd_of_not fun sl' hsl' _ => Option.some.inj (hslot.symm.trans hsl') ▸ hlong]
        exact reachEntry_of_extended he' hkind hopens hslot hb

end Sys2Proof.Machine
end

section
/-! # The backoff of the waiting head and its fit check (R112 to R114) -/

open Sys2Proof

namespace Sys2Proof.Machine

variable {s : State}

/-- A head that waits has its conditions (R111). -/
theorem headMayWait_of_wait {k : Nat} (hok : WaitOk s) (hwait : s.queue.wait = some k) : headMayWait s = true := by
  rw [← show s.queue.wait.isSome = headMayWait s from hok, hwait]
  rfl

theorem backoff_eq {m : Fin 24} {b : TxMailbox} (hhead : s.queue.entries.head? = some m) (hb : s.boxes[m] = .tx b) :
    backoff s = 2 + s.params.address.toNat % 16 + 16 * b.retry := by
  rw [backoff, headRetry, hhead]
  simp only [hb]

theorem openWindow_of_open {sl : Slot} (hopen : openWindowOpen s = true) (hsl : s.seq.slot = some sl) :
    sl.body = .openWindow := by
  rw [openWindowOpen, hsl] at hopen
  exact beq_iff_eq.mp hopen

/-- A slot that no frame follows keeps the queue as it stands when a frame begins in it. -/
theorem queue_beginFrame {sl : Slot} (hsl : s.seq.slot = some sl) (hfollows : sl.follows = false) (r : Requester) (f : Frame) :
    (beginFrame r f s).queue = s.queue := by
  have habandon : (abandonAssembly .truncErr s).queue = s.queue := by
    obtain ⟨-, heq⟩ | ⟨-, heq⟩ := abandonAssembly_cases .truncErr s <;> rw [heq]
    rw [slotFrameEnded_other]
    · rfl
    · intro sl' hsl'
      obtain rfl := Option.some.inj (hsl.symm.trans hsl')
      exact hfollows
  exact habandon

theorem assembly_beginFrame (r : Requester) (f : Frame) (s : State) : (beginFrame r f s).rx.assembly = .hunt := by
  have habandon : (abandonAssembly .truncErr s).rx.assembly = .hunt := by
    obtain ⟨hhunt, heq⟩ | ⟨-, heq⟩ := abandonAssembly_cases .truncErr s <;> rw [heq]
    · exact hhunt
    · simp [Receiver.hunting]
  exact habandon

theorem headAndWindow_eq {m : Fin 24} {b : TxMailbox} {sl : Slot} (hhead : s.queue.entries.head? = some m)
    (hb : s.boxes[m] = .tx b) (hsl : s.seq.slot = some sl) : headAndWindow s = some (m, b, sl.finish) := by
  simp only [headAndWindow, hhead, hsl, hb]

/-- A wait goes on through a CT inside the window that no entry ends. -/
theorem exec_positionReached_waits {length k : Nat} {sl : Slot} (hlength : s.timer.length = some length)
    (hinside : s.timer.position + 1 < length) (hposition : s.timer.position ≠ 27) (hok : WaitOk s)
    (hwait : s.queue.wait = some k) (hsl : s.seq.slot = some sl) (hopen : s.timer.position + 1 < sl.finish)
    (hno : NoEntryAt (s.timer.position + 1) s) :
    ∃ t, exec .positionReached s = .next t ∧ t.queue = (ctPasses s).queue := by
  obtain ⟨hwindow, hrunning, -, htx, -, -⟩ := (headMayWait_iff s).mp (headMayWait_of_wait hok hwait)
  have hgoes : FrameGoesOn s := fun x hx => by rw [htx] at hx; cases hx
  refine ⟨_, exec_positionReached_reaches hlength hinside (.inr hgoes) (.inl hposition), ?_⟩
  rw [endDueTransmission_of_goesOn (ctPasses_goesOn hgoes)]
  set w := atPosition (s.timer.position + 1) (ctPasses s) with hw
  have hreach : reachOffset false (s.timer.position + 1) w = firePoints (s.timer.position + 1) w := by
    rw [reachOffset, reachSlotEnd_of_not, reachEntry_absent false (by exact hno)]
    intro sl' hsl' hfinish
    obtain rfl := Option.some.inj (hsl.symm.trans hsl')
    omega
  have hwaits : WaitOk (firePoints (s.timer.position + 1) w) := by
    refine waitOk_of_same hok ⟨by simp [w], by simp [w], by simp [w], by simp [w], by simp [w], by simp [w], by simp [w], ?_⟩
    simp only [firePoints_frame, w, ctPasses]
    split <;> simp
  rw [hreach, settleWait_of_ok hwaits]
  simp [w]

/-- Settles O47: the wait counts with the CT, and its end is the fit check. -/
theorem headBackoff : Obligations.HeadBackoff := by
  constructor
  · intro s length k m b sl hlength hinside hposition hok hwait hhead hb hsl hopen hno
    have hno' : NoEntryAt (s.timer.position + 1) s := fun e he => hno e (List.mem_of_mem_take (List.mem_of_getElem? he))
    obtain ⟨t, hexec, hqueue⟩ := exec_positionReached_waits hlength hinside hposition hok hwait hsl hopen hno'
    refine ⟨t, hexec, hqueue.trans ?_⟩
    rw [← backoff_eq hhead hb]
    simp only [ctPasses, hwait]
    split <;> simp_all
  · intro s m b sl k hok hwait hreached hhead hb hsl frame
    obtain ⟨hwindow, hrunning, hsilent, htx, -, hturned⟩ := (headMayWait_iff s).mp (headMayWait_of_wait hok hwait)
    have hbody := openWindow_of_open hwindow hsl
    have hexec : exec .backoffElapses s =
        .next (settleWait (if headFits b sl.finish s then sendHead m b s else turnAway s)) := by
      have hdone : backoffReached s = true := by
        rw [backoffReached, hwait]
        exact decide_eq_true (by rw [backoff_eq hhead hb]; exact hreached)
      have helapse : elapse s = settleWait (if headFits b sl.finish s then sendHead m b s else turnAway s) := by
        rw [elapse, headAndWindow_eq hhead hb hsl]
      exact (if_pos hdone).trans (congrArg Host.Outcome.next helapse)
    refine ⟨fun hfits => ?_, fun hover => ?_⟩
    · have hyes : headFits b sl.finish s = true := decide_eq_true hfits
      rw [if_pos hyes] at hexec
      have hsl' : (updateTx m (fun t => { t with state := .locked }) s).seq.slot = some sl := by simpa using hsl
      have hfollows : sl.follows = false := by simp [Slot.follows, hbody]
      refine ⟨_, hexec, ?_, ?_, ?_, ?_, ?_, ?_⟩
      · simp [sendHead, beginFrame, mailboxFrame, frame]
      · rw [settleWait_boxes, sendHead, updateTx_tx hb]
        simp
      · have hidle : headMayWait (sendHead m b s) = false := by simp [headMayWait, sendHead, beginFrame]
        rw [settleWait_none hidle]
        simp only [sendHead, queue_beginFrame hsl' hfollows, updateTx_frame]
      · exact assembly_beginFrame (.event m) (mailboxFrame .eventData b s) _
      · exact slot_beginFrame hsl' hfollows (.event m) (mailboxFrame .eventData b s)
      · simp [sendHead]
    · have hnot : ¬headFits b sl.finish s = true := fun h => absurd (of_decide_eq_true h) (not_le.mpr hover)
      have hidle : headMayWait (turnAway s) = false := by simp [headMayWait, turnAway]
      rw [hexec, if_neg hnot, settleWait_none hidle]
      rfl

end Sys2Proof.Machine
end

section
/-! # A valid cycle-start frame: the master's conflict, and what a follower accepts (R20, R30 to R36, R74, R78 to R84) -/

open Sys2Proof

namespace Sys2Proof.Machine

variable {f : Frame} {s : State}

/-! ### The frame is handed on -/

/-- The state on which the Link Controller acts at the closing mark of a cycle-start frame: the slot has been told (R20). -/
abbrev toldState (s : State) : State := slotFrameEnded (afterMark s)

theorem exec_cycleStart_master (h : ClosingMark f s) (hkind : f.kind = .cycleStart) (hrole : s.params.role = 1) :
    exec (.characterComplete s.params.cm) s = .next (settleWait (masterHearsCs f (toldState s))) := by
  have hmaster : isMaster (toldState s) = true := by simp [isMaster, afterMark, hrole]
  rw [exec_closingMark h, handOn, if_pos hkind, handCycleStart]
  rw [if_pos hmaster]

theorem exec_cycleStart_follower (h : ClosingMark f s) (hkind : f.kind = .cycleStart) (hrole : s.params.role ≠ 1) :
    exec (.characterComplete s.params.cm) s = .next (settleWait (acceptCs f (s.rx.count + 1) (toldState s))) := by
  have hfollower : isMaster (toldState s) = false := by
    have hparams : (toldState s).params = s.params := by simp [afterMark]
    exact decide_eq_false (by rw [hparams]; exact hrole)
  rw [exec_closingMark h, handOn, if_pos hkind, handCycleStart]
  rw [hfollower]
  rfl

theorem marks_toldState (s : State) : Marks [.node] [] s (toldState s) :=
  (marks_slotFrameEnded (afterMark s)).after_same rfl rfl

/-! ### O33 -/

/-- Settles O33: in RUNNING and in STARTING by the state alone. -/
theorem masterConflict : Obligations.MasterConflict := by
  intro f s hmark hkind hrole hstate
  have htx : s.tx = none := hmark.2.1
  have hlink : (toldState s).link = s.link := by simp [afterMark]
  have hheard : masterHearsCs f (toldState s) = recordConflict f { toldState s with link := { s.link with
      silent := s.link.state = .running || s.link.silent
      silence := if s.link.state = .starting then 0 else s.link.silence } } := by
    unfold masterHearsCs
    rw [hlink]
    obtain h | h := hstate <;> simp [h]
  refine ⟨_, exec_cycleStart_master hmark hkind hrole, ?_⟩
  rw [hheard]
  refine ⟨rfl, ?_, ?_, flagSet_setFlag_self .link _, ?_, ?_, ?_, ?_, ?_⟩
  · simp [recordConflict, recordCs, afterMark]
  · simp [recordConflict, recordCs, afterMark, updateCauses]
  · simp [recordConflict, recordCs, afterMark]
  · simp [recordConflict, recordCs, afterMark]
  · simp [recordConflict, recordCs, afterMark, htx]
  · simp [recordConflict, recordCs, afterMark]
  · simp [recordConflict, recordCs, afterMark, updateCauses]

/-! ### The points of several offsets -/

/-- The points for which `fires` holds fire, with their status bits and POINT (R36). -/
structure FiresBy (fires : Fin 4 → Bool) (s t : State) : Prop where
  points : ∀ k : Fin 4, t.points[k] =
    if fires k then { s.points[k] with fired := true, enabled := s.points[k].repeats } else s.points[k]
  status : ∀ k : Fin 4, t.irq.pointStatus.getLsbD k = (s.irq.pointStatus.getLsbD k || fires k)
  flag : flagSet .point t = (flagSet .point s || (fires 0 || fires 1 || fires 2 || fires 3))

/-- A point that is due at one of the offsets. -/
def HostPoint.dueIn (qs : List Nat) (p : HostPoint) : Bool := p.enabled && !p.fired && decide (p.offset.toNat ∈ qs)

theorem FiresBy.nil (s : State) : FiresBy (fun k => s.points[k].dueIn []) s s := by
  have hnone (k : Fin 4) : s.points[k].dueIn [] = false := by simp [HostPoint.dueIn]
  refine ⟨fun k => ?_, fun k => ?_, ?_⟩
  · rw [hnone]; rfl
  · rw [hnone, Bool.or_false]
  · simp only [hnone, Bool.or_false]

theorem dueIn_cons (q : Nat) (qs : List Nat) (p : HostPoint) :
    p.dueIn (q :: qs) = (p.due q || HostPoint.dueIn qs (if p.due q then p.fire else p)) := by
  by_cases hdue : p.due q = true
  · have hparts := hdue
    simp only [HostPoint.due, Bool.and_eq_true, beq_iff_eq] at hparts
    simp [HostPoint.dueIn, hdue, hparts.1, hparts.2]
  · rw [Bool.not_eq_true] at hdue
    have hparts := hdue
    simp only [HostPoint.due, Bool.and_eq_false_iff, beq_eq_false_iff_ne] at hparts
    rw [hdue, Bool.false_or, if_neg Bool.false_ne_true]
    simp only [HostPoint.dueIn, List.mem_cons]
    obtain h | h := hparts
    · have hoff : (p.enabled && !p.fired) = false := Bool.and_eq_false_iff.mpr h
      rw [hoff]
      rfl
    · simp [h]

theorem FiresBy.cons {q : Nat} {qs : List Nat} {t u : State} (h : Fires q s t)
    (hs : FiresBy (fun k => t.points[k].dueIn qs) t u) : FiresBy (fun k => s.points[k].dueIn (q :: qs)) s u := by
  obtain ⟨hp, hst, hf⟩ := h
  obtain ⟨hp', hst', hf'⟩ := hs
  have hdue (k : Fin 4) : s.points[k].dueIn (q :: qs) = (s.points[k].due q || t.points[k].dueIn qs) := by
    rw [dueIn_cons, hp]
    rfl
  refine ⟨fun k => ?_, fun k => ?_, ?_⟩
  · rw [hp', hdue]
    cases hq : s.points[k].due q <;> simp only [hp k, hq, Bool.true_or, Bool.false_or, if_true, Bool.false_eq_true, if_false]
    split <;> rfl
  · rw [hst', hst, hdue, Bool.or_assoc]
  · rw [hf', hf]
    simp only [hdue, somePointDue]
    ac_rfl

theorem FiresBy.of_same {fires : Fin 4 → Bool} {t u : State} (h : FiresBy fires t u) (hpoints : t.points = s.points)
    (hstatus : t.irq.pointStatus = s.irq.pointStatus) (hflag : flagSet .point t = flagSet .point s) : FiresBy fires s u := by
  obtain ⟨hp, hs, hf⟩ := h
  exact ⟨fun k => by rw [hp, hpoints], fun k => by rw [hs, hstatus], by rw [hf, hflag]⟩

theorem FiresBy.then_same {fires : Fin 4 → Bool} {t u : State} (h : FiresBy fires s t) (hpoints : u.points = t.points)
    (hstatus : u.irq.pointStatus = t.irq.pointStatus) (hflag : flagSet .point u = flagSet .point t) : FiresBy fires s u := by
  obtain ⟨hp, hs, hf⟩ := h
  exact ⟨fun k => by rw [hpoints, hp], fun k => by rw [hstatus, hs], by rw [hflag, hf]⟩

theorem reachAll_fires (swapping : Bool) (qs : List Nat) (s : State) :
    FiresBy (fun k => s.points[k].dueIn qs) s (reachAll swapping qs s) := by
  induction qs generalizing s with
  | nil => exact .nil s
  | cons q qs ih => exact .cons (reachOffset_fires swapping q s) (ih (reachOffset swapping q s))

theorem marks_reachAll (swapping : Bool) (qs : List Nat) (s : State) :
    Marks (.point :: entryFlags) entryCounters s (reachAll swapping qs s) := by
  induction qs generalizing s with
  | nil => exact .refl s
  | cons q qs ih => exact (marks_reachOffset swapping q s).trans (ih _)

end Sys2Proof.Machine
end

section
/-! # A follower's acceptance of a cycle-start frame: the timer, the points, the sync record and the banks (R30 to R36, R79 to R84) -/

open Sys2Proof

namespace Sys2Proof.Machine

variable {f : Frame} {s : State}

/-! ### What the reaching of offsets leaves where nothing opens or ends -/

/-- Only host points and the next index have gone on from `s` to `t`. -/
structure Quiet (s t : State) : Prop where
  rx : t.rx = s.rx
  tx : t.tx = s.tx
  slot : t.seq.slot = s.seq.slot
  boxes : t.boxes = s.boxes
  queue : t.queue = s.queue
  nodes : t.nodes = s.nodes
  attention : t.irq.attention = s.irq.attention
  nodeChange : t.irq.nodeChange = s.irq.nodeChange
  counters : t.irq.counters = s.irq.counters
  marks : Marks [.point] [] s t

theorem Quiet.refl (s : State) : Quiet s s := ⟨rfl, rfl, rfl, rfl, rfl, rfl, rfl, rfl, rfl, .refl s⟩

theorem Quiet.trans {s t u : State} (h : Quiet s t) (h' : Quiet t u) : Quiet s u :=
  ⟨h'.rx.trans h.rx, h'.tx.trans h.tx, h'.slot.trans h.slot, h'.boxes.trans h.boxes, h'.queue.trans h.queue,
    h'.nodes.trans h.nodes, h'.attention.trans h.attention, h'.nodeChange.trans h.nodeChange,
    h'.counters.trans h.counters, h.marks.trans h'.marks⟩

/-- No slot acts on its end at the offset. -/
abbrev NoEndAt (q : Nat) (s : State) : Prop := ∀ sl ∈ s.seq.slot, sl.finish = q → sl.isExtended = true

/-- No entry that starts at the offset opens there. -/
abbrev NoOpeningAt (swapping : Bool) (q : Nat) (s : State) : Prop :=
  s.link.state ≠ .running ∨ swapping = true ∨ NoEntryAt q s

theorem quiet_firePoints (q i : Nat) (s : State) :
    Quiet s (firePoints q { s with seq := { s.seq with nextIndex := i } }) :=
  ⟨by simp, by simp, by simp, by simp, by simp, by simp, by simp, by simp, by simp,
    (marks_firePoints q _).after_same rfl rfl⟩

theorem quiet_reachOffset {swapping : Bool} {q : Nat} (hend : NoEndAt q s) (hno : NoOpeningAt swapping q s) :
    Quiet s (reachOffset swapping q s) := by
  rw [reachOffset, reachSlotEnd_of_not hend]
  by_cases habsent : NoEntryAt q s
  · rw [reachEntry_absent swapping habsent]
    exact quiet_firePoints q s.seq.nextIndex s
  · simp only [NoEntryAt, not_forall, not_not] at habsent
    obtain ⟨e, he, hstart⟩ := habsent
    have hnot : ¬OpensAt swapping e s := by
      rintro ⟨hrunning, hswap, -⟩
      obtain h | h | h := hno
      · exact h hrunning
      · exact Bool.noConfusion (h.symm.trans hswap)
      · exact h e he hstart
    rw [← hstart, reachEntry_passed swapping he hnot]
    exact quiet_firePoints _ _ s

theorem quiet_reachAll {swapping : Bool} {qs : List Nat} (hend : ∀ q ∈ qs, NoEndAt q s)
    (hno : s.link.state ≠ .running ∨ swapping = true) : Quiet s (reachAll swapping qs s) := by
  induction qs generalizing s with
  | nil => exact .refl s
  | cons q qs ih =>
    have hfirst := quiet_reachOffset (hend q (by simp)) (hno.elim .inl fun h => .inr (.inl h))
    refine hfirst.trans (ih (fun r hr => ?_) (by simpa using hno))
    rw [NoEndAt, hfirst.slot]
    exact hend r (by simp [hr])

theorem scheduleOf_congr {t : State} (h : t.sched = s.sched) : scheduleOf t = scheduleOf s := by
  simp only [scheduleOf, bankOf, h]

/-- Where no entry starts at the offsets nothing opens, and the next index stays. -/
theorem quiet_reachAll_absent {swapping : Bool} {qs : List Nat} (hend : ∀ q ∈ qs, NoEndAt q s)
    (habsent : ∀ q ∈ qs, NoEntryAt q s) :
    Quiet s (reachAll swapping qs s) ∧ (reachAll swapping qs s).seq.nextIndex = s.seq.nextIndex := by
  induction qs generalizing s with
  | nil => exact ⟨.refl s, rfl⟩
  | cons q qs ih =>
    have hfirst := quiet_reachOffset (swapping := swapping) (hend q (by simp)) (.inr (.inr (habsent q (by simp))))
    have hindex : (reachOffset swapping q s).seq.nextIndex = s.seq.nextIndex := by
      rw [reachOffset, reachSlotEnd_of_not (hend q (by simp)), reachEntry_absent swapping (habsent q (by simp))]
      simp
    have hsched : scheduleOf (reachOffset swapping q s) = scheduleOf s := scheduleOf_congr (by simp)
    obtain ⟨hrest, hnext⟩ := ih (s := reachOffset swapping q s)
      (fun r hr => by rw [NoEndAt, hfirst.slot]; exact hend r (by simp [hr]))
      (fun r hr => by rw [NoEntryAt, hsched, hindex]; exact habsent r (by simp [hr]))
    exact ⟨hfirst.trans hrest, hnext.trans hindex⟩

/-! ### The bank comparison by case (R82) -/

theorem bankMatches_iff (b : Bank) (f : Frame) : bankMatches b f = true ↔ NamesSchedule b f := by
  simp [bankMatches, NamesSchedule]

/-- The frame swaps in the shadow (R82). -/
abbrev Swaps (f : Frame) (s : State) : Prop :=
  ¬NamesSchedule (activeBank s) f ∧ s.sched.shadow = .armed ∧ NamesSchedule (shadowBank s) f

theorem frameSwaps_iff (f : Frame) (s : State) : frameSwaps f s = true ↔ Swaps f s := by
  simp only [frameSwaps, Bool.and_eq_true, Bool.not_eq_true', beq_iff_eq, ← Bool.not_eq_true, bankMatches_iff, Swaps, and_assoc]

theorem compareBanks_names (n : Nat) (h : NamesSchedule (activeBank s) f) : compareBanks f n s = runActiveBank s :=
  if_pos ((bankMatches_iff _ f).mpr h)

theorem compareBanks_swaps (n : Nat) (h : Swaps f s) : compareBanks f n s = runActiveBank (followerSwap n s) :=
  (if_neg (mt (bankMatches_iff _ f).mp h.1)).trans (if_pos ((frameSwaps_iff f s).mpr h))

theorem compareBanks_aligns (n : Nat) (h : ¬NamesSchedule (activeBank s) f) (hno : ¬Swaps f s) :
    compareBanks f n s = goToAlign f s :=
  (if_neg (mt (bankMatches_iff _ f).mp h)).trans (if_neg (mt (frameSwaps_iff f s).mp hno))

theorem goToAlign_length (f : Frame) (s : State) : (goToAlign f s).timer.length = some f.csLength.toNat := rfl

theorem goToAlign_state (f : Frame) (s : State) : (goToAlign f s).link.state = .align := by
  unfold goToAlign
  split
  next h => exact h
  · simp [setLinkState_link]

theorem timer_eq_of_length {t : State} {length : Option Nat} (hposition : t.timer.position = s.timer.position)
    (hcycle : t.timer.cycle = s.timer.cycle) (hseen : t.timer.csSeen = s.timer.csSeen) (hlength : t.timer.length = length) :
    t.timer = { s.timer with length := length } := by
  change t.timer = { position := s.timer.position, cycle := s.timer.cycle, length := length, csSeen := s.timer.csSeen }
  rw [← hposition, ← hcycle, ← hseen, ← hlength]

theorem compareBanks_timer (f : Frame) (n : Nat) (s : State) :
    (compareBanks f n s).timer = { s.timer with length := some f.csLength.toNat } := by
  refine timer_eq_of_length (by simp) (by simp) (by simp) ?_
  by_cases hnames : NamesSchedule (activeBank s) f
  · rw [compareBanks_names n hnames, (runActiveBank_eq s).1, hnames.2]
  by_cases hswap : Swaps f s
  · have hbank : activeBank (followerSwap n s) = shadowBank s :=
      activeBank_swapped ((followerSwap_sched n s).trans (exchangeBanks_sched s))
    rw [compareBanks_swaps n hswap, (runActiveBank_eq _).1, hbank, hswap.2.2.2]
  · rw [compareBanks_aligns n hnames hswap, goToAlign_length]

theorem marks_setLinkState (l : LinkState) (s : State) : Marks [.link] [] s (setLinkState l s) := by
  unfold setLinkState
  split
  · exact .refl s
  · refine Marks.thenSetFlag ?_ .link ?_
    · exact .of_same rfl rfl
    · decide

theorem flagSet_link_setLinkState (l : LinkState) (s : State) :
    flagSet .link (setLinkState l s) = (flagSet .link s || l != s.link.state) := by
  by_cases h : s.link.state = l
  · rw [setLinkState, if_pos h, h, bne_self_eq_false, Bool.or_false]
  · have hne : (l != s.link.state) = true := bne_iff_ne.mpr fun heq => h heq.symm
    rw [setLinkState, if_neg h, flagSet_setFlag_self, hne, Bool.or_true]

theorem marks_runActiveBank (s : State) : Marks [.link] [] s (runActiveBank s) :=
  (marks_setLinkState .running s).trans (.of_same rfl rfl)

theorem marks_exchangeBanks (s : State) : Marks [.bank] [] s (exchangeBanks s) := by
  refine ⟨fun g hg => ?_, fun g hg => ?_, fun c _ => ?_, fun c hc => ?_⟩
  · rw [flagSet_exchangeBanks, decide_eq_false (by simpa using hg), Bool.or_false]
  · rw [flagSet_exchangeBanks, hg, Bool.true_or]
  · simp [counterValue]
  · simpa [counterValue] using hc

theorem marks_followerSwap (n : Nat) (s : State) : Marks [.bank, .node] [] s (followerSwap n s) := by
  have hswap := (marks_exchangeBanks s).mono (F' := [.bank, .node]) (C' := []) (by decide) (by decide)
  unfold followerSwap
  dsimp only
  split
  · exact hswap.trans (.of_same rfl rfl)
  · split
    · exact hswap.trans (.of_same rfl rfl)
    · refine (hswap.trans ((marks_slotWindowEnd _).mono (by decide) (by decide))).trans ?_
      exact .of_same rfl rfl

theorem marks_goToAlign (f : Frame) (s : State) : Marks [.link, .bank] [] s (goToAlign f s) := by
  have hset (u : State) : Marks [.link, .bank] [] u (setFlag .bank u) := .setFlag .bank (by decide)
  have hlink : Marks [.link, .bank] [] s (setLinkState .align (closeSlot s)) :=
    ((marks_setLinkState .align (closeSlot s)).mono (by decide) (by decide)).after_same rfl rfl
  unfold goToAlign
  dsimp only
  split
  · exact .of_same rfl rfl
  · exact (hlink.trans (hset _)).trans (.of_same rfl rfl)

theorem marks_compareBanks (f : Frame) (n : Nat) (s : State) : Marks [.link, .bank, .node] [] s (compareBanks f n s) := by
  by_cases hnames : NamesSchedule (activeBank s) f
  · rw [compareBanks_names n hnames]
    exact (marks_runActiveBank s).mono (by decide) (by decide)
  by_cases hswap : Swaps f s
  · rw [compareBanks_swaps n hswap]
    exact ((marks_followerSwap n s).mono (by decide) (by decide)).trans ((marks_runActiveBank _).mono (by decide) (by decide))
  · rw [compareBanks_aligns n hnames hswap]
    exact (marks_goToAlign f s).mono (by decide) (by decide)

theorem flagSet_link_runActiveBank (s : State) :
    flagSet .link (runActiveBank s) = (flagSet .link s || (runActiveBank s).link.state != s.link.state) := by
  rw [(runActiveBank_eq s).2]
  exact flagSet_link_setLinkState .running s

/-- The LINK flag of the bank comparison is that of the change of state (R69). -/
theorem flagSet_link_compareBanks (f : Frame) (n : Nat) (s : State) :
    flagSet .link (compareBanks f n s) = (flagSet .link s || (compareBanks f n s).link.state != s.link.state) := by
  by_cases hnames : NamesSchedule (activeBank s) f
  · rw [compareBanks_names n hnames]
    exact flagSet_link_runActiveBank s
  by_cases hswap : Swaps f s
  · have hlink : (followerSwap n s).link = s.link := by simp
    rw [compareBanks_swaps n hswap, flagSet_link_runActiveBank, (marks_followerSwap n s).flags .link (by decide), hlink]
  · rw [compareBanks_aligns n hnames hswap, goToAlign_state]
    unfold goToAlign
    dsimp only
    split
    next h => rw [h, bne_self_eq_false, Bool.or_false]; rfl
    next h =>
      refine (flagSet_setFlag _ _ _).trans ?_
      rw [decide_eq_false (by decide), Bool.or_false]
      exact flagSet_link_setLinkState .align (closeSlot s)

/-! ### What each case leaves of the banks, the cause marks and the BANK flag -/

theorem followerSwap_causes (n : Nat) (s : State) : (followerSwap n s).irq.causes = { s.irq.causes with swap := true } := by
  rw [← exchangeBanks_causes]
  unfold followerSwap
  dsimp only
  split
  · rfl
  · split
    · rfl
    · simp

theorem flagSet_bank_followerSwap (n : Nat) (s : State) : flagSet .bank (followerSwap n s) = true := by
  have hswap : flagSet .bank (exchangeBanks s) = true := by
    rw [flagSet_exchangeBanks, decide_eq_true rfl, Bool.or_true]
  unfold followerSwap
  dsimp only
  split
  · exact hswap
  · split
    · exact hswap
    · exact (marks_slotWindowEnd _).set .bank hswap

theorem goToAlign_enters (f : Frame) (h : s.link.state ≠ .align) :
    (goToAlign f s).seq.slot = none ∧ (goToAlign f s).irq.causes = { s.irq.causes with mismatch := true } ∧
      flagSet .bank (goToAlign f s) = true := by
  unfold goToAlign
  rw [if_neg h]
  refine ⟨by simp [closeSlot], by simp [closeSlot, updateCauses], ?_⟩
  exact flagSet_setFlag_self .bank _

end Sys2Proof.Machine
end

section
/-! # A follower's timer, points and sync record at a cycle-start frame (R24, R30 to R37, R79 to R84) -/

open Sys2Proof

namespace Sys2Proof.Machine

variable {f : Frame} {s : State}

/-! ### The points of a jump -/

/-- The points for which `fires` holds fire; the fired marks of the others stand as before, or are clear. -/
structure FiresAnew (kept : Bool) (fires : Fin 4 → Bool) (s t : State) : Prop where
  points : ∀ k : Fin 4, t.points[k] =
    if fires k then { s.points[k] with fired := true, enabled := s.points[k].repeats }
    else { s.points[k] with fired := kept && s.points[k].fired }
  status : ∀ k : Fin 4, t.irq.pointStatus.getLsbD k = (s.irq.pointStatus.getLsbD k || fires k)
  flag : flagSet .point t = (flagSet .point s || (fires 0 || fires 1 || fires 2 || fires 3))

theorem FiresBy.anew {kept : Bool} {due fires : Fin 4 → Bool} {b t : State} (h : FiresBy due b t)
    (hpoints : ∀ k : Fin 4, b.points[k] = { s.points[k] with fired := kept && s.points[k].fired })
    (hstatus : b.irq.pointStatus = s.irq.pointStatus) (hflag : flagSet .point b = flagSet .point s)
    (hdue : ∀ k, due k = fires k) : FiresAnew kept fires s t := by
  obtain rfl : due = fires := funext hdue
  obtain ⟨hp, hs, hf⟩ := h
  refine ⟨fun k => ?_, fun k => by rw [hs, hstatus], by rw [hf, hflag]⟩
  rw [hp, hpoints]

theorem FiresAnew.then_same {kept : Bool} {fires : Fin 4 → Bool} {t u : State} (h : FiresAnew kept fires s t)
    (hpoints : u.points = t.points) (hstatus : u.irq.pointStatus = t.irq.pointStatus)
    (hflag : flagSet .point u = flagSet .point t) : FiresAnew kept fires s u := by
  obtain ⟨hp, hs, hf⟩ := h
  exact ⟨fun k => by rw [hpoints, hp], fun k => by rw [hstatus, hs], by rw [hflag, hf]⟩

theorem FiresAnew.of_same {kept : Bool} {fires : Fin 4 → Bool} {t u : State} (h : FiresAnew kept fires t u)
    (hpoints : t.points = s.points) (hstatus : t.irq.pointStatus = s.irq.pointStatus)
    (hflag : flagSet .point t = flagSet .point s) : FiresAnew kept fires s u := by
  obtain ⟨hp, hs, hf⟩ := h
  exact ⟨fun k => by rw [hp, hpoints], fun k => by rw [hs, hstatus], by rw [hf, hflag]⟩

theorem clearFired_point (s : State) (k : Fin 4) : (clearFired s).points[k] = { s.points[k] with fired := false } :=
  mapTable_get _ _ _

theorem dueIn_cleared (qs : List Nat) (p : HostPoint) :
    HostPoint.dueIn qs { p with fired := false } = (p.enabled && decide (p.offset.toNat ∈ qs)) := by
  simp [HostPoint.dueIn]

/-! ### The start from LISTEN (R24, R80) -/

/-- The state whose offsets a start from LISTEN reaches. -/
def listenBegun (f : Frame) (n : Nat) (s : State) : State :=
  setPosition n { clearFired s with
    timer := { s.timer with cycle := f.csCycle, length := some f.csLength.toNat }
    seq := { s.seq with nextIndex := 0 }
    sync := { s.sync with deviation := 0 } }

theorem startFromListen_eq (f : Frame) (n : Nat) (s : State) :
    startFromListen f n s = reachAll false (List.range' 0 (n + 1)) (listenBegun f n s) := rfl

theorem startFromListen_fires (f : Frame) (n : Nat) (s : State) :
    FiresAnew false (fun k => s.points[k].enabled && s.points[k].offset.toNat ≤ n) s (startFromListen f n s) := by
  refine (reachAll_fires false (List.range' 0 (n + 1)) (listenBegun f n s)).anew (clearFired_point s) rfl rfl fun k => ?_
  have hpoint : (listenBegun f n s).points[k] = { s.points[k] with fired := false } := clearFired_point s k
  have hle : s.points[k].offset.toNat ∈ List.range' 0 (n + 1) ↔ s.points[k].offset.toNat ≤ n := by
    rw [List.mem_range'_1]
    omega
  rw [hpoint, dueIn_cleared, decide_eq_decide.mpr hle]

theorem startFromListen_quiet (n : Nat) (hlisten : s.link.state = .listen) (hslot : s.seq.slot = none) :
    Quiet (listenBegun f n s) (startFromListen f n s) := by
  have hno : (listenBegun f n s).link.state ≠ .running := by
    change s.link.state ≠ .running
    rw [hlisten]
    exact LinkState.noConfusion
  refine quiet_reachAll (fun q _ sl hsl => ?_) (.inl hno)
  cases hslot.symm.trans hsl

/-! ### The early boundary (R31) -/

theorem marks_passOver (p : Nat) (e : Entry) (s : State) : Marks [.slot, .mbx] [.slotSkipped] s (passOver p s e) := by
  unfold passOver
  split
  · split
    · exact .refl s
    · split
      · split
        · exact marks_refuseSend _ _ s
        · exact .refl s
      · exact .refl s
  · exact .refl s

theorem marks_passOverRest (p : Nat) (s : State) : Marks [.slot, .mbx] [.slotSkipped] s (passOverRest p s) := by
  have hfold (es : List Entry) (u : State) : Marks [.slot, .mbx] [.slotSkipped] u (es.foldl (passOver p) u) := by
    induction es generalizing u with
    | nil => exact .refl u
    | cons e es ih => exact (marks_passOver p e u).trans (ih _)
  unfold passOverRest
  split
  · exact hfold _ s
  · exact .refl s

/-- The state that an early boundary leaves to the boundary's own effects. -/
abbrev passedState (p : Nat) (s : State) : State := slotWindowEnd (passOverRest p s)

theorem marks_passedState (p : Nat) (s : State) : Marks [.slot, .mbx, .node] [.slotSkipped] s (passedState p s) :=
  ((marks_passOverRest p s).mono (by decide) (by decide)).trans ((marks_slotWindowEnd _).mono (by decide) (by decide))

/-- The flags that a resync may set. -/
abbrev resyncFlags : List Flag := .cycle :: .point :: entryFlags

theorem marks_boundaryBegun (s : State) : Marks [.cycle] [] s (boundaryBegun s) := by
  refine Marks.thenSetFlag ?_ .cycle ?_
  · exact .of_same rfl rfl
  · decide

theorem marks_earlyBoundary (p : Nat) (s : State) : Marks resyncFlags entryCounters s (earlyBoundary p s) := by
  rw [earlyBoundary, boundaryEffects_eq]
  exact (((marks_passedState p s).mono (by decide) (by decide)).trans ((marks_boundaryBegun _).mono (by decide) (by decide))).trans
    ((marks_reachOffset false 0 _).mono (by decide) (by decide))

theorem flagSet_cycle_earlyBoundary (p : Nat) (s : State) : flagSet .cycle (earlyBoundary p s) = true := by
  rw [earlyBoundary, boundaryEffects_eq]
  exact (marks_reachOffset false 0 _).set .cycle (flagSet_setFlag_self .cycle _)

theorem earlyBoundary_timer (p : Nat) (s : State) : (earlyBoundary p s).timer =
    { s.timer with position := 0, cycle := s.timer.cycle + 1, csSeen := false } := by
  rw [earlyBoundary, boundaryEffects_timer]
  simp

/-! ### The resync (R30 to R34) -/

/-- The state whose offsets a resync reaches, from `first` on. -/
def resyncBegun (n length : Nat) (s : State) : State :=
  setPosition n (if belongsToNext s.timer.position n length then earlyBoundary s.timer.position s else s)

/-- The offsets that a resync reaches in ascending order (R32). -/
def jumpOffsets (p n length : Nat) : List Nat :=
  let first := if belongsToNext p n length then 0 else p + 1
  List.range' first (n + 1 - first)

theorem mem_jumpOffsets {p n length q : Nat} :
    q ∈ jumpOffsets p n length ↔ q ≤ n ∧ (belongsToNext p n length = true ∨ p < q) := by
  unfold jumpOffsets
  rw [List.mem_range'_1]
  cases belongsToNext p n length with
  | false => simp; omega
  | true => simp

theorem resync_eq (f : Frame) (n length : Nat) (s : State) : resync f n length s =
    { reachAll (frameSwaps f s) (jumpOffsets s.timer.position n length) (resyncBegun n length s) with
      sync := { s.sync with deviation := clampDeviation (deviationOf s.timer.position n length) } } := by
  have hsync : (reachAll (frameSwaps f s) (jumpOffsets s.timer.position n length) (resyncBegun n length s)).sync = s.sync := by
    simp only [reachAll_frame, resyncBegun, setPosition]
    split <;> simp
  rw [← hsync]
  rfl

theorem resync_timer (f : Frame) (n length : Nat) (s : State) : (resync f n length s).timer = { s.timer with
    position := n
    cycle := if belongsToNext s.timer.position n length then s.timer.cycle + 1 else s.timer.cycle
    csSeen := true } := by
  rw [resync_eq]
  simp only [reachAll_frame, resyncBegun, setPosition]
  split
  · simp only [earlyBoundary_timer]
  · rfl

theorem resync_sync (f : Frame) (n length : Nat) (s : State) : (resync f n length s).sync =
    { s.sync with deviation := clampDeviation (deviationOf s.timer.position n length) } := by
  rw [resync_eq]

theorem marks_resync (f : Frame) (n length : Nat) (s : State) : Marks resyncFlags entryCounters s (resync f n length s) := by
  have hbegun : Marks resyncFlags entryCounters s (resyncBegun n length s) := by
    unfold resyncBegun
    split
    · exact (marks_earlyBoundary _ s).trans (.of_same rfl rfl)
    · exact .of_same rfl rfl
  rw [resync_eq]
  exact (hbegun.trans ((marks_reachAll _ _ _).mono (by decide) (by decide))).trans (.of_same rfl rfl)

theorem flagSet_cycle_resync (f : Frame) (n length : Nat) (s : State) :
    flagSet .cycle (resync f n length s) = (flagSet .cycle s || belongsToNext s.timer.position n length) := by
  rw [resync_eq]
  refine ((marks_reachAll _ _ _).flags .cycle (by decide)).trans ?_
  unfold resyncBegun
  cases belongsToNext s.timer.position n length
  · exact (Bool.or_false _).symm
  · exact (flagSet_cycle_earlyBoundary _ s).trans (Bool.or_true _).symm

/-- The points that a jump fires (R32, R36). -/
theorem resync_fires (f : Frame) (n length : Nat) (s : State) :
    FiresAnew (!belongsToNext s.timer.position n length)
      (fun k => s.points[k].enabled && s.points[k].offset.toNat ≤ n &&
        (belongsToNext s.timer.position n length || !s.points[k].fired && s.timer.position < s.points[k].offset.toNat))
      s (resync f n length s) := by
  rw [resync_eq]
  have hreach := reachAll_fires (frameSwaps f s) (jumpOffsets s.timer.position n length) (resyncBegun n length s)
  cases hearly : belongsToNext s.timer.position n length with
  | false =>
    have hbegun : resyncBegun n length s = setPosition n s := by rw [resyncBegun, hearly]; rfl
    rw [hbegun] at hreach ⊢
    refine FiresBy.anew (hreach.then_same rfl rfl rfl) (fun k => rfl) rfl rfl fun k => ?_
    have hmem := mem_jumpOffsets (p := s.timer.position) (n := n) (length := length) (q := s.points[k].offset.toNat)
    rw [hearly] at hmem
    change s.points[k].dueIn _ = _
    rw [HostPoint.dueIn, Bool.eq_iff_iff]
    simp only [Bool.and_eq_true, decide_eq_true_eq, hmem]
    simp
    tauto
  | true =>
    have hbegun : resyncBegun n length s =
        setPosition n (reachOffset false 0 (boundaryBegun (passedState s.timer.position s))) := by
      rw [resyncBegun, hearly, if_pos rfl, earlyBoundary, boundaryEffects_eq]
    rw [hbegun] at hreach ⊢
    have hzero := reachOffset_fires false 0 (boundaryBegun (passedState s.timer.position s))
    have hall := FiresBy.cons hzero (hreach.of_same rfl rfl rfl)
    have hpassed := marks_passedState s.timer.position s
    refine FiresBy.anew (hall.then_same rfl rfl rfl) (fun k => ?_) (by simp [boundaryBegun, clearFired])
      (((marks_boundaryBegun _).flags .point (by decide)).trans (hpassed.flags .point (by decide))) fun k => ?_
    · have hpoints : (passedState s.timer.position s).points = s.points := by simp
      have hpoint : (boundaryBegun (passedState s.timer.position s)).points[k] =
          { (passedState s.timer.position s).points[k] with fired := false } := clearFired_point _ k
      rw [hpoint, hpoints]
      rfl
    · have hpoints : (passedState s.timer.position s).points = s.points := by simp
      have hpoint : (boundaryBegun (passedState s.timer.position s)).points[k] =
          { (passedState s.timer.position s).points[k] with fired := false } := clearFired_point _ k
      have hmem : s.points[k].offset.toNat ∈ 0 :: jumpOffsets s.timer.position n length ↔ s.points[k].offset.toNat ≤ n := by
        rw [List.mem_cons, mem_jumpOffsets, hearly]
        simp
        omega
      rw [hpoint, hpoints, dueIn_cleared, Bool.eq_iff_iff]
      simp only [Bool.and_eq_true, decide_eq_true_eq, hmem]
      simp

end Sys2Proof.Machine
end

section
/-! # The acceptance of a cycle-start frame from LISTEN, ALIGN and RUNNING (R24, R30 to R36, R58, R79 to R84) -/

open Sys2Proof

namespace Sys2Proof.Machine

variable {f : Frame} {s : State}

/-! ### The checks (R81) -/

theorem checkCycleNumber_timer (f : Frame) (s : State) :
    (checkCycleNumber f s).timer = { s.timer with cycle := f.csCycle } := by
  unfold checkCycleNumber
  split
  next h => rw [← h]
  · rfl

/-- The frame's number is not the timer's (R81). -/
abbrev numberDiffers (f : Frame) (s : State) : Bool := f.csCycle != s.timer.cycle

/-- The deviation is beyond the tolerance (R81). -/
abbrev beyondTolerance (d : Int) (s : State) : Bool := s.params.syncTolerance.toNat < d.natAbs

theorem checkCycleNumber_causes (f : Frame) (s : State) : (checkCycleNumber f s).irq.causes =
    { s.irq.causes with numberJump := s.irq.causes.numberJump || numberDiffers f s } := by
  unfold checkCycleNumber
  split
  next h => rw [numberDiffers, h, bne_self_eq_false, Bool.or_false]
  next h => rw [numberDiffers, bne_iff_ne.mpr fun heq => h heq.symm, Bool.or_true]; rfl

theorem flagSet_checkCycleNumber (g : Flag) (f : Frame) (s : State) :
    flagSet g (checkCycleNumber f s) = (flagSet g s || decide (g = .sync) && numberDiffers f s) := by
  unfold checkCycleNumber
  split
  next h => rw [numberDiffers, h, bne_self_eq_false, Bool.and_false, Bool.or_false]
  next h =>
    rw [numberDiffers, bne_iff_ne.mpr fun heq => h heq.symm, Bool.and_true]
    exact flagSet_setFlag g .sync _

theorem checkDeviation_causes (d : Int) (s : State) : (checkDeviation d s).irq.causes =
    { s.irq.causes with tolerance := s.irq.causes.tolerance || beyondTolerance d s } := by
  unfold checkDeviation
  split
  next h => rw [beyondTolerance, decide_eq_true h, Bool.or_true]; rfl
  next h => rw [beyondTolerance, decide_eq_false h, Bool.or_false]

theorem flagSet_checkDeviation (g : Flag) (d : Int) (s : State) :
    flagSet g (checkDeviation d s) = (flagSet g s || decide (g = .sync) && beyondTolerance d s) := by
  unfold checkDeviation
  split
  next h =>
    rw [beyondTolerance, decide_eq_true h, Bool.and_true]
    exact flagSet_setFlag g .sync _
  next h => rw [beyondTolerance, decide_eq_false h, Bool.and_false, Bool.or_false]

/-! ### The states that the bank comparison is given -/

/-- A follower in ALIGN or RUNNING before the bank comparison (R79). -/
def resynced (f : Frame) (n length : Nat) (s : State) : State :=
  recordAccepted f (checkDeviation (deviationOf s.timer.position n length) (checkCycleNumber f (resync f n length s)))

/-- A follower in LISTEN before the bank comparison (R79, R80). -/
def started (f : Frame) (n : Nat) (s : State) : State := recordAccepted f (startFromListen f n s)

theorem acceptCs_listen (n : Nat) (h : s.link.state = .listen) : acceptCs f n s = compareBanks f n (started f n s) := by
  unfold acceptCs
  rw [h]
  rfl

theorem acceptCs_cyclic {length : Nat} (n : Nat) (h : s.link.state = .align ∨ s.link.state = .running)
    (hlength : s.timer.length = some length) : acceptCs f n s = compareBanks f n (resynced f n length s) := by
  unfold acceptCs
  rw [hlength]
  obtain h | h := h <;> rw [h] <;> rfl

/-- A follower takes the frame's number at its position (R24, R30, R81). -/
theorem started_timer (f : Frame) (n : Nat) (s : State) : (started f n s).timer =
    { position := n, cycle := f.csCycle, length := some f.csLength.toNat, csSeen := true } := by
  rw [started, recordAccepted_timer, startFromListen_eq]
  simp only [reachAll_frame]
  rfl

theorem resynced_timer (f : Frame) (n length : Nat) (s : State) : (resynced f n length s).timer =
    { position := n, cycle := f.csCycle, length := s.timer.length, csSeen := true } := by
  rw [resynced, recordAccepted_timer]
  simp only [checkDeviation_frame, checkCycleNumber_timer, resync_timer]

theorem started_sync (f : Frame) (n : Nat) (s : State) :
    (started f n s).sync = { missed := 0, deviation := 0, id := f.csId, length := f.csLength } := by
  rw [started, startFromListen_eq]
  simp only [recordAccepted, recordCs, reachAll_frame]
  rfl

theorem resynced_sync (f : Frame) (n length : Nat) (s : State) : (resynced f n length s).sync =
    { missed := 0, deviation := clampDeviation (deviationOf s.timer.position n length), id := f.csId,
      length := f.csLength } := by
  simp [resynced, recordAccepted, recordCs, resync_sync]

theorem started_fires (f : Frame) (n : Nat) (s : State) :
    FiresAnew false (fun k => s.points[k].enabled && s.points[k].offset.toNat ≤ n) s (started f n s) :=
  (startFromListen_fires f n s).then_same rfl rfl rfl

theorem flagSet_point_checks (f : Frame) (d : Int) (s : State) :
    flagSet .point (checkDeviation d (checkCycleNumber f s)) = flagSet .point s := by
  rw [flagSet_checkDeviation, flagSet_checkCycleNumber]
  simp

theorem resynced_fires (f : Frame) (n length : Nat) (s : State) :
    FiresAnew (!belongsToNext s.timer.position n length)
      (fun k => s.points[k].enabled && s.points[k].offset.toNat ≤ n &&
        (belongsToNext s.timer.position n length || !s.points[k].fired && s.timer.position < s.points[k].offset.toNat))
      s (resynced f n length s) :=
  (resync_fires f n length s).then_same (by simp [resynced]) (by simp [resynced]) (flagSet_point_checks f _ _)

/-! ### What the bank comparison leaves, by case -/

theorem compareBanks_of_names (n : Nat) (h : NamesSchedule (activeBank s) f) :
    (compareBanks f n s).link.state = .running ∧ (compareBanks f n s).sched = s.sched ∧
      (compareBanks f n s).irq.causes = s.irq.causes := by
  rw [compareBanks_names n h]
  exact ⟨(runActiveBank_eq s).2, by simp, by simp⟩

theorem compareBanks_of_swaps (n : Nat) (h : Swaps f s) :
    (compareBanks f n s).link.state = .running ∧
      (compareBanks f n s).sched = { s.sched with active := s.sched.active.other, shadow := .idle } ∧
      (compareBanks f n s).irq.causes = { s.irq.causes with swap := true } ∧ flagSet .bank (compareBanks f n s) = true := by
  have hsched := (followerSwap_sched n s).trans (exchangeBanks_sched s)
  rw [compareBanks_swaps n h]
  refine ⟨(runActiveBank_eq _).2, ?_, ?_, (marks_runActiveBank _).set .bank (flagSet_bank_followerSwap n s)⟩
  · simpa using hsched
  · simpa using followerSwap_causes n s

theorem compareBanks_of_aligns (n : Nat) (h : ¬NamesSchedule (activeBank s) f) (hno : ¬Swaps f s) :
    (compareBanks f n s).link.state = .align ∧ (compareBanks f n s).sched = s.sched ∧
      (s.link.state ≠ .align → (compareBanks f n s).seq.slot = none ∧
        (compareBanks f n s).irq.causes = { s.irq.causes with mismatch := true } ∧
        flagSet .bank (compareBanks f n s) = true) := by
  rw [compareBanks_aligns n h hno]
  exact ⟨goToAlign_state f s, by simp, fun hne => goToAlign_enters f hne⟩

theorem compareBanks_not_listen (f : Frame) (n : Nat) (s : State) : (compareBanks f n s).link.state ≠ .listen := by
  by_cases hnames : NamesSchedule (activeBank s) f
  · rw [(compareBanks_of_names n hnames).1]
    exact LinkState.noConfusion
  by_cases hswap : Swaps f s
  · rw [(compareBanks_of_swaps n hswap).1]
    exact LinkState.noConfusion
  · rw [(compareBanks_of_aligns n hnames hswap).1]
    exact LinkState.noConfusion

theorem followerSwap_none (n : Nat) (h : s.seq.slot = none) : followerSwap n s =
    { exchangeBanks s with seq := { s.seq with nextIndex := firstEntryFrom (n + 1) (exchangeBanks s) } } := by
  have hseq : (exchangeBanks s).seq = s.seq := by simp
  unfold followerSwap
  dsimp only
  rw [hseq, h]

theorem slot_compareBanks_none (f : Frame) (n : Nat) (h : s.seq.slot = none) : (compareBanks f n s).seq.slot = none := by
  by_cases hnames : NamesSchedule (activeBank s) f
  · rw [compareBanks_names n hnames]
    simpa using h
  by_cases hswap : Swaps f s
  · rw [compareBanks_swaps n hswap, followerSwap_none n h]
    simpa using h
  · rw [compareBanks_aligns n hnames hswap]
    unfold goToAlign
    split
    · exact h
    · simp [closeSlot]

/-! ### O34 -/

theorem toldState_of_slot_none (h : s.seq.slot = none) : toldState s = afterMark s :=
  slotFrameEnded_other (by simp [afterMark, h])

theorem marks_startFromListen (f : Frame) (n : Nat) (s : State) :
    Marks (.point :: entryFlags) entryCounters s (startFromListen f n s) :=
  (marks_reachAll _ _ _).after_same rfl rfl

/-- Settles O34: the start from LISTEN by its offsets, and the bank comparison by its cases. -/
theorem followerStartsFromListen : Obligations.FollowerStartsFromListen := by
  intro f s hmark hkind hrole hlisten hslot n active shadow fires
  have hexec := exec_cycleStart_follower hmark hkind hrole
  rw [toldState_of_slot_none hslot, acceptCs_listen _ (by exact hlisten)] at hexec
  refine ⟨_, hexec, ?_⟩
  have hfires := (started_fires f n (afterMark s)).of_same (s := s) rfl rfl rfl
  have hquiet := startFromListen_quiet (f := f) n (s := afterMark s) hlisten hslot
  have hmarks : Marks (.point :: entryFlags) entryCounters s (started f n (afterMark s)) :=
    Marks.trans ((marks_startFromListen f n (afterMark s)).after_same rfl rfl) (.of_same rfl rfl)
  have htimer := started_timer f n (afterMark s)
  have hsync := started_sync f n (afterMark s)
  have hlink : (started f n (afterMark s)).link = s.link := by simp [started, afterMark]
  have hsched : (started f n (afterMark s)).sched = s.sched := by simp [started, afterMark]
  have hcauses : (started f n (afterMark s)).irq.causes = s.irq.causes := by simp [started, afterMark]
  have htx : (started f n (afterMark s)).tx = none := hquiet.tx.trans hmark.2.1
  have hslotNone : (started f n (afterMark s)).seq.slot = none := hquiet.slot.trans hslot
  generalize started f n (afterMark s) = z at *
  have hactive : activeBank z = active := activeBank_congr hsched
  have hshadow : shadowBank z = shadow := shadowBank_congr hsched
  have hcompare := marks_compareBanks f n z
  have hpoints := hfires.then_same (u := compareBanks f n z) (by simp) (by simp) (hcompare.flags .point (by decide))
  have hslotAfter : (compareBanks f n z).seq.slot = none := slot_compareBanks_none f n hslotNone
  have hlinkFlag : flagSet .link (compareBanks f n z) = true := by
    have hchanges : (compareBanks f n z).link.state ≠ z.link.state := by
      rw [hlink, hlisten]
      exact compareBanks_not_listen f n z
    rw [flagSet_link_compareBanks, bne_iff_ne.mpr hchanges, Bool.or_true]
  refine ⟨?_, ?_, hpoints.points, hpoints.status, hpoints.flag, hslotAfter, by simpa using htx, by simp [hlink], ?_, ?_, ?_,
    fun hnames => ?_, fun hnames harmed hswap => ?_, fun hnames hno => ?_⟩
  · rw [settleWait_timer, compareBanks_timer, htimer]
  · simp only [settleWait_sync, compareBanks_frame, hsync]
  · exact hlinkFlag
  · exact (hcompare.flags .sync (by decide)).trans (hmarks.flags .sync (by decide))
  · exact (hcompare.flags .cycle (by decide)).trans (hmarks.flags .cycle (by decide))
  · obtain ⟨hstate, hbanks, hmarks⟩ := compareBanks_of_names n (hactive ▸ hnames)
    exact ⟨hstate, hbanks.trans hsched, hmarks.trans hcauses⟩
  · obtain ⟨hstate, hbanks, hmarks, hflag⟩ := compareBanks_of_swaps (s := z) n
      ⟨hactive ▸ hnames, by rw [hsched]; exact harmed, hshadow ▸ hswap⟩
    exact ⟨hstate, by rw [settleWait_sched, hbanks, hsched], by rw [settleWait_irq, hmarks, hcauses], hflag⟩
  · have hnot : ¬Swaps f z := fun ⟨_, harmed, hswap⟩ => hno ⟨hsched ▸ harmed, hshadow ▸ hswap⟩
    obtain ⟨hstate, hbanks, hentered⟩ := compareBanks_of_aligns n (hactive ▸ hnames) hnot
    obtain ⟨-, hmarks, hflag⟩ := hentered (by rw [hlink, hlisten]; exact LinkState.noConfusion)
    exact ⟨hstate, hbanks.trans hsched, by rw [settleWait_irq, hmarks, hcauses], hflag⟩

/-! ### O35 -/

/-- The bank comparison keeps the cause marks of the checks. -/
theorem compareBanks_checks (f : Frame) (n : Nat) (s : State) :
    (compareBanks f n s).irq.causes.numberJump = s.irq.causes.numberJump ∧
      (compareBanks f n s).irq.causes.tolerance = s.irq.causes.tolerance := by
  by_cases hnames : NamesSchedule (activeBank s) f
  · rw [(compareBanks_of_names n hnames).2.2]
    exact ⟨rfl, rfl⟩
  by_cases hswap : Swaps f s
  · rw [(compareBanks_of_swaps n hswap).2.2.1]
    exact ⟨rfl, rfl⟩
  · rw [compareBanks_aligns n hnames hswap]
    unfold goToAlign
    split
    · exact ⟨rfl, rfl⟩
    · simp [closeSlot, updateCauses]

theorem resynced_causes (f : Frame) (n length : Nat) (s : State) :
    (resynced f n length s).irq.causes.numberJump =
        (s.irq.causes.numberJump || numberDiffers f (resync f n length s)) ∧
      (resynced f n length s).irq.causes.tolerance =
        (s.irq.causes.tolerance || beyondTolerance (deviationOf s.timer.position n length) s) := by
  rw [resynced, recordAccepted_irq, checkDeviation_causes, checkCycleNumber_causes]
  simp [beyondTolerance]

theorem flagSet_resynced (g : Flag) (f : Frame) (n length : Nat) (s : State) :
    flagSet g (resynced f n length s) = (flagSet g (resync f n length s) ||
      decide (g = .sync) && numberDiffers f (resync f n length s) ||
      decide (g = .sync) && beyondTolerance (deviationOf s.timer.position n length) s) := by
  refine (flagSet_checkDeviation g _ _).trans ?_
  rw [flagSet_checkCycleNumber]
  simp [beyondTolerance]

/-- Settles O35: the resync by its timer, points and checks, and the bank comparison by its cases. -/
theorem followerResynchronises : Obligations.FollowerResynchronises := by
  intro f s length hmark hkind hrole hstate hlength n p early d jump beyond active shadow fires
  have hexec := exec_cycleStart_follower hmark hkind hrole
  have htold := marks_toldState s
  have htoldTimer : (toldState s).timer = s.timer := by simp [afterMark]
  have htoldLink : (toldState s).link = s.link := by simp [afterMark]
  have htoldParams : (toldState s).params = s.params := by simp [afterMark]
  have htoldCauses : (toldState s).irq.causes = s.irq.causes := by simp [afterMark]
  rw [acceptCs_cyclic _ (by rw [htoldLink]; exact hstate) (htoldTimer ▸ hlength)] at hexec
  refine ⟨_, hexec, ?_⟩
  have hpoints : (toldState s).points = s.points := by simp [afterMark]
  have hstatus : (toldState s).irq.pointStatus = s.irq.pointStatus := by simp [afterMark]
  have hfires : FiresAnew (!early) fires s (resynced f n length (toldState s)) := by
    have h := (resynced_fires f n length (toldState s)).of_same hpoints hstatus (htold.flags .point (by decide))
    rw [htoldTimer, hpoints] at h
    exact h
  have htimer := resynced_timer f n length (toldState s)
  have hsync := resynced_sync f n length (toldState s)
  have hcauses := resynced_causes f n length (toldState s)
  have hflags (g : Flag) := flagSet_resynced g f n length (toldState s)
  have hresync := (htold.mono (F' := resyncFlags) (C' := entryCounters) (by decide) (by decide)).trans
    (marks_resync f n length (toldState s))
  have hcycle := flagSet_cycle_resync f n length (toldState s)
  have hjump : numberDiffers f (resync f n length (toldState s)) = jump := by
    rw [numberDiffers, resync_timer, htoldTimer]
    rfl
  have hbeyond : beyondTolerance (deviationOf (toldState s).timer.position n length) (toldState s) = beyond := by
    rw [beyondTolerance, htoldTimer, htoldParams]
    rfl
  have hlink : (resynced f n length (toldState s)).link = s.link := by simp [resynced, afterMark]
  have hsched : (resynced f n length (toldState s)).sched = s.sched := by simp [resynced, afterMark]
  rw [hjump, hbeyond, htoldCauses] at hcauses
  rw [htoldTimer] at hsync hcycle
  simp only [hjump, hbeyond] at hflags
  generalize resynced f n length (toldState s) = z at *
  have hactive : activeBank z = active := activeBank_congr hsched
  have hshadow : shadowBank z = shadow := shadowBank_congr hsched
  have hcompare := marks_compareBanks f n z
  have hchecks := compareBanks_checks f n z
  have hfired := hfires.then_same (u := compareBanks f n z) (by simp) (by simp) (hcompare.flags .point (by decide))
  refine ⟨?_, ?_, hfired.points, hfired.status, hfired.flag, hchecks.1.trans hcauses.1, hchecks.2.trans hcauses.2, ?_, ?_, ?_,
    by simp [hlink], fun hnames => ?_, fun hnames harmed hswap => ?_, fun hnames hno => ?_⟩
  · rw [settleWait_timer, compareBanks_timer, htimer]
  · simp only [settleWait_sync, compareBanks_frame, hsync]
    rfl
  · refine (hcompare.flags .sync (by decide)).trans ?_
    rw [hflags, hresync.flags .sync (by decide)]
    simp
  · refine (hcompare.flags .cycle (by decide)).trans ?_
    rw [hflags, hcycle, htold.flags .cycle (by decide)]
    simp [early, belongsToNext, p]
  · refine (flagSet_link_compareBanks f n z).trans ?_
    rw [hflags, hresync.flags .link (by decide), hlink, decide_eq_false (by decide)]
    simp only [Bool.false_and, Bool.or_false]
    rfl
  · obtain ⟨hrunning, hbanks, -⟩ := compareBanks_of_names n (hactive ▸ hnames)
    exact ⟨hrunning, hbanks.trans hsched⟩
  · obtain ⟨hrunning, hbanks, hmarks, hflag⟩ := compareBanks_of_swaps (s := z) n
      ⟨hactive ▸ hnames, by rw [hsched]; exact harmed, hshadow ▸ hswap⟩
    exact ⟨hrunning, by rw [settleWait_sched, hbanks, hsched], by rw [settleWait_irq, hmarks], hflag⟩
  · have hnot : ¬Swaps f z := fun ⟨_, harmed, hswap⟩ => hno ⟨hsched ▸ harmed, hshadow ▸ hswap⟩
    obtain ⟨halign, hbanks, hentered⟩ := compareBanks_of_aligns n (hactive ▸ hnames) hnot
    refine ⟨halign, hbanks.trans hsched, fun hrunning => ?_⟩
    obtain ⟨hslot, hmarks, hflag⟩ := hentered (by rw [hlink, hrunning]; exact LinkState.noConfusion)
    exact ⟨hslot, by rw [settleWait_irq, hmarks], hflag⟩

end Sys2Proof.Machine
end

section
/-! # What the open slot does at a valid cycle-start frame (R20, R63, R66, R78) -/

open Sys2Proof

namespace Sys2Proof.Machine

variable {f : Frame} {s : State}

/-! ### The slot is told first (R20) -/

/-- What the Link Controller does at a cycle-start frame of `n` characters. -/
def controllerHears (f : Frame) (n : Nat) (s : State) : State :=
  if isMaster s then masterHearsCs f s else acceptCs f n s

theorem exec_cycleStart (h : ClosingMark f s) (hkind : f.kind = .cycleStart) :
    exec (.characterComplete s.params.cm) s = .next (settleWait (controllerHears f (s.rx.count + 1) (toldState s))) := by
  rw [exec_closingMark h, handOn, if_pos hkind]
  rfl

/-- A state whose slot stands as the told slot of another acts alike at the frame. -/
theorem exec_cycleStart_congr {c : State} (h : ClosingMark f s) (hc : ClosingMark f c) (hkind : f.kind = .cycleStart)
    (hparams : c.params = s.params) (hcount : c.rx.count = s.rx.count) (htold : toldState s = toldState c) :
    exec (.characterComplete s.params.cm) s = exec (.characterComplete s.params.cm) c := by
  have hother := exec_cycleStart hc hkind
  rw [hparams] at hother
  rw [exec_cycleStart h hkind, hother, htold, hcount]

theorem toldState_other {sl : Slot} (hsl : s.seq.slot = some sl) (hb : ∀ extended, sl.body ≠ .receive .receiving extended) :
    toldState s = afterMark s := by
  refine slotFrameEnded_other fun sl' hsl' => ?_
  obtain rfl := Option.some.inj (hsl.symm.trans hsl')
  cases hbody : sl.body with
  | transmit => simp [Slot.follows, hbody]
  | openWindow => simp [Slot.follows, hbody]
  | receive sub extended =>
    cases sub with
    | receiving => exact absurd hbody (hb extended)
    | awaiting => simp [Slot.follows, hbody]
    | done => simp [Slot.follows, hbody]

theorem toldState_awaits {sl : Slot} (hsl : s.seq.slot = some sl) (hb : sl.body = .receive .receiving false) :
    toldState s = { afterMark s with seq := { s.seq with slot := some { sl with body := .receive .awaiting false } } } :=
  slotFrameEnded_awaits (s := afterMark s) hsl hb

theorem toldState_missed {sl : Slot} (hsl : s.seq.slot = some sl) (hb : sl.body = .receive .receiving true) :
    toldState s = nodeMissed sl.source (closeSlot (afterMark s)) :=
  slotFrameEnded_missed (s := afterMark s) hsl hb

theorem toldState_finish {sl : Slot} (hsl : s.seq.slot = some sl) : ∀ sl' ∈ (toldState s).seq.slot, sl'.finish = sl.finish := by
  intro sl' hsl'
  obtain ⟨-, heq⟩ | ⟨sl₀, hsl₀, -, heq⟩ | ⟨sl₀, -, -, heq⟩ := slotFrameEnded_cases (afterMark s)
  · rw [toldState, heq] at hsl'
    obtain rfl := Option.some.inj (hsl.symm.trans hsl')
    rfl
  · rw [toldState, heq] at hsl'
    obtain rfl := Option.some.inj (hsl.symm.trans hsl₀)
    obtain rfl := Option.some.inj hsl'
    rfl
  · rw [toldState, heq] at hsl'
    simp [closeSlot] at hsl'

theorem afterMark_nodeMissed (source : Byte) (s : State) : afterMark (nodeMissed source s) = nodeMissed source (afterMark s) := by
  obtain ⟨nodes, change, flags, heq⟩ := nodeMissed_form source s
  rw [heq s rfl, heq (afterMark s) rfl]
  rfl

/-! ### What the slot's account is after the frame -/

/-- The schedule side of the state, with the node presence table, is kept from `s` to `t` in RUNNING. -/
structure SlotKept (s t : State) : Prop where
  running : t.link.state = .running
  boxes : t.boxes = s.boxes
  sched : t.sched = s.sched
  tx : t.tx = s.tx
  counters : t.irq.counters = s.irq.counters
  attention : t.irq.attention = s.irq.attention
  entries : t.queue.entries = s.queue.entries
  nextIndex : t.seq.nextIndex = s.seq.nextIndex
  slot : t.seq.slot = s.seq.slot
  nodes : SameNodes s t

theorem SlotKept.settled {t : State} (h : SlotKept s t) : SlotKept s (settleWait t) :=
  ⟨h.running, h.boxes, h.sched, h.tx, h.counters, h.attention, h.entries, h.nextIndex, h.slot,
    ⟨h.nodes.nodes, h.nodes.change, h.nodes.flag⟩⟩

theorem masterHearsCs_keeps (hrunning : s.link.state = .running) : SlotKept s (masterHearsCs f s) := by
  have heq : masterHearsCs f s = recordConflict f { s with link := { s.link with silent := true } } := by
    unfold masterHearsCs
    rw [hrunning]
  have hflag : flagSet .node (recordConflict f { s with link := { s.link with silent := true } }) = flagSet .node s :=
    (flagSet_setFlag _ _ _).trans (Bool.or_false _)
  rw [heq]
  exact ⟨hrunning, rfl, rfl, rfl, rfl, rfl, rfl, rfl, rfl, ⟨rfl, rfl, hflag⟩⟩

theorem Quiet.sameNodes {t : State} (h : Quiet s t) : SameNodes s t :=
  ⟨h.nodes, h.nodeChange, h.marks.flags .node (by decide)⟩

/-- A resync below 28 that takes no early boundary and does not reach the slot's end keeps the slot (R32, R82). -/
theorem acceptCs_keeps {n length : Nat} (hrunning : s.link.state = .running) (hlength : s.timer.length = some length)
    (hnames : NamesSchedule (activeBank s) f) (hlate : belongsToNext s.timer.position n length = false) (hbelow : n < 28)
    (hend : ∀ sl ∈ s.seq.slot, n < sl.finish) (hstarts : ∀ e ∈ scheduleOf s, 28 ≤ e.start.toNat) :
    SlotKept s (acceptCs f n s) := by
  have hbegun : resyncBegun n length s = setPosition n s := by rw [resyncBegun, hlate]; rfl
  have hjump (q : Nat) (hq : q ∈ jumpOffsets s.timer.position n length) : q ≤ n := (mem_jumpOffsets.mp hq).1
  obtain ⟨hquiet, hindex⟩ := quiet_reachAll_absent (s := setPosition n s) (swapping := frameSwaps f s)
    (qs := jumpOffsets s.timer.position n length)
    (fun q hq sl hsl hfinish => absurd (hend sl hsl) (by have := hjump q hq; omega))
    (fun q hq => noEntryAt_of_le hstarts ((hjump q hq).trans_lt hbelow))
  have hactive : activeBank (resynced f n length s) = activeBank s := activeBank_congr (by simp [resynced])
  rw [acceptCs_cyclic n (.inr hrunning) hlength, compareBanks_names n (hactive ▸ hnames)]
  have hreach : resync f n length s = { reachAll (frameSwaps f s) (jumpOffsets s.timer.position n length) (setPosition n s) with
      sync := { s.sync with deviation := clampDeviation (deviationOf s.timer.position n length) } } := by
    rw [resync_eq, hbegun]
  have hnode : flagSet .node (runActiveBank (resynced f n length s)) = flagSet .node s := by
    rw [(marks_runActiveBank _).flags .node (by decide), flagSet_resynced, hreach]
    exact (Bool.or_false _).trans ((Bool.or_false _).trans (hquiet.marks.flags .node (by decide)))
  constructor
  case running => exact (runActiveBank_eq _).2
  case nodes =>
    refine ⟨?_, ?_, hnode⟩
    · simpa [resynced, hreach] using hquiet.nodes
    · simpa [resynced, hreach] using hquiet.nodeChange
  case boxes => simpa [resynced, hreach] using hquiet.boxes
  case sched => simp [resynced]
  case tx => simpa [resynced, hreach] using hquiet.tx
  case counters => simpa [resynced, hreach] using hquiet.counters
  case attention => simpa [resynced, hreach] using hquiet.attention
  case entries => simp [resynced]
  case nextIndex => simpa [resynced, hreach] using hindex
  case slot => simpa [resynced, hreach] using hquiet.slot

/-! ### O37 -/

theorem closingMark_congr {c : State} (h : ClosingMark f s) (hlink : c.link = s.link) (htx : c.tx = s.tx) (hline : c.line = s.line)
    (hrx : c.rx = s.rx) (hparams : c.params = s.params) : ClosingMark f c := by
  rw [ClosingMark, hlink, htx, hline, hrx, hparams]
  exact h

theorem controllerHears_keeps {n length : Nat} (hrunning : s.link.state = .running) (hlength : s.timer.length = some length)
    (h : s.params.role = 1 ∨ NamesSchedule (activeBank s) f ∧ (s.timer.position < n ∨ 2 * (s.timer.position - n) < length) ∧
      n < 28 ∧ (∀ sl ∈ s.seq.slot, n < sl.finish) ∧ ∀ e ∈ scheduleOf s, 28 ≤ e.start.toNat) :
    SlotKept s (controllerHears f n s) := by
  unfold controllerHears
  split
  · exact masterHearsCs_keeps hrunning
  next hfollower =>
    obtain hrole | ⟨hnames, hlate, hbelow, hend, hstarts⟩ := h
    · exact absurd (decide_eq_true hrole) hfollower
    · have hnext : belongsToNext s.timer.position n length = false := by
        simp only [belongsToNext, Bool.and_eq_false_iff, decide_eq_false_iff_not]
        omega
      exact acceptCs_keeps hrunning hlength hnames hnext hbelow hend hstarts

/-- Settles O37: the slot is told first, and the frame keeps what it then finds. -/
theorem cycleStartInSlot : Obligations.CycleStartInSlot := by
  intro f s sl hmark hkind hrunning hsl mark closed
  refine ⟨fun hb => ?_, fun hb => ?_, ?_⟩
  · refine exec_cycleStart_congr hmark (closingMark_congr hmark rfl rfl rfl rfl rfl) hkind rfl rfl ?_
    rw [toldState_awaits hsl hb, toldState_other rfl (by simp)]
    rfl
  · refine exec_cycleStart_congr hmark
      (closingMark_congr hmark (by simp [closed]) (by simp [closed]) (by simp [closed]) (by simp [closed]) (by simp [closed]))
      hkind (by simp [closed]) (by simp [closed]) ?_
    rw [toldState_missed hsl hb, toldState_of_slot_none (by simp [closed]), afterMark_nodeMissed]
    rfl
  · intro length hlength n p h
    have hkept : SlotKept (toldState s) (settleWait (controllerHears f n (toldState s))) := by
      refine (controllerHears_keeps (length := length) (by simpa [afterMark] using hrunning) (by simpa [afterMark] using hlength) ?_).settled
      obtain hrole | ⟨hnames, hlate, hbelow, hend, hstarts⟩ := h
      · exact .inl (by simpa [afterMark] using hrole)
      · have hactive : activeBank (toldState s) = bankOf s.sched.active s := activeBank_congr (by simp [afterMark])
        refine .inr ⟨hactive ▸ hnames, by simpa [afterMark] using hlate, hbelow, fun sl' hsl' => ?_, ?_⟩
        · rw [toldState_finish hsl sl' hsl']
          exact hend
        · simpa [scheduleOf, bankOf, afterMark] using hstarts
    have htx : (toldState s).tx = none := by simpa [afterMark] using hmark.2.1
    have hboxes : (toldState s).boxes = s.boxes := by simp [afterMark]
    have hsched : (toldState s).sched = s.sched := by simp [afterMark]
    have hcounters : (toldState s).irq.counters = s.irq.counters := by simp [afterMark]
    have hattention : (toldState s).irq.attention = s.irq.attention := by simp [afterMark]
    have hentries : (toldState s).queue.entries = s.queue.entries := by simp [afterMark]
    have hindex : (toldState s).seq.nextIndex = s.seq.nextIndex := by simp [afterMark]
    refine ⟨_, exec_cycleStart hmark hkind, hkept.running, hkept.boxes.trans hboxes, hkept.sched.trans hsched, hkept.tx.trans htx,
      hkept.counters.trans hcounters, hkept.attention.trans hattention, hkept.entries.trans hentries,
      hkept.nextIndex.trans hindex, fun hb => ?_, fun hb => ?_, fun hb => ?_⟩
    · have htold := toldState_awaits hsl hb
      have hnodes : SameNodes s (toldState s) := by rw [htold]; exact ⟨rfl, rfl, rfl⟩
      have hall := hnodes.trans hkept.nodes
      exact ⟨hkept.slot.trans (by rw [htold]), hall.nodes, hall.flag⟩
    · have htold := toldState_missed hsl hb
      have hclosed : SameNodes s (closeSlot (afterMark s)) := ⟨rfl, rfl, rfl⟩
      have hnodes : SameNodes (nodeMissed sl.source s) (toldState s) := by
        rw [htold]
        exact sameNodes_nodeMissed hclosed sl.source
      have hall := hnodes.trans hkept.nodes
      exact ⟨hkept.slot.trans (by rw [htold]; simp [closeSlot]), hall.nodes, hall.change, hall.flag⟩
    · have htold := toldState_other hsl hb
      have hnodes : SameNodes s (toldState s) := by rw [htold]; exact ⟨rfl, rfl, rfl⟩
      have hall := hnodes.trans hkept.nodes
      exact ⟨hkept.slot.trans (by rw [htold]; exact hsl), hall.nodes, hall.flag⟩

end Sys2Proof.Machine
end

section
/-! # What an early boundary does to the rest of the schedule and to the open slot (R31, R59, R65) -/

open Sys2Proof

namespace Sys2Proof.Machine

variable {s : State}

/-! ### The entries that an early boundary passes over -/

/-- The mailbox with a number holds a LOADED frame. -/
def loadedAt (boxes : Vector Mailbox 24) (m : Nat) : Bool :=
  match boxes.toList[m]? with
  | some (.tx b) => b.state == .loaded
  | _ => false

/-- An early boundary at position `p` refuses the entry's frame (R31). -/
def refusedAt (p : Nat) (s : State) (e : Entry) : Bool :=
  p < e.start.toNat && e.kind == 0x01 && s.timer.cycle.toNat % 2 ^ e.exponent.toNat == e.phase.toNat &&
    loadedAt s.boxes e.mailbox.toNat

/-- The last outcome of a TX mailbox whose frame an early boundary refuses (R31). -/
def Mailbox.blockedIf (blocked : Bool) : Mailbox → Mailbox
  | .tx b => .tx (if blocked then { b with lastOutcome := .blocked } else b)
  | .rx r => .rx r

/-- Some entry of a list names the mailbox. -/
abbrev namesMailbox (es : List Entry) (m : Fin 24) : Bool := es.any (fun e => e.mailbox.toNat == m.val)

/-- The frames of the entries `es` have been refused (R31, R106). -/
structure Refuses (es : List Entry) (s t : State) : Prop where
  boxes : ∀ m : Fin 24, t.boxes[m] = (s.boxes[m]).blockedIf (namesMailbox es m)
  attention : ∀ m : Fin 24, t.irq.attention.getLsbD m = (s.irq.attention.getLsbD m || namesMailbox es m)
  skipped : (counterValue .slotSkipped t).toNat = min 255 ((counterValue .slotSkipped s).toNat + es.length)
  slot : flagSet .slot t = (flagSet .slot s || !es.isEmpty)
  mbx : flagSet .mbx t = (flagSet .mbx s || !es.isEmpty)

theorem Mailbox.blockedIf_false (b : Mailbox) : b.blockedIf false = b := by cases b <;> rfl

theorem Mailbox.blockedIf_blockedIf (x y : Bool) (b : Mailbox) : (b.blockedIf x).blockedIf y = b.blockedIf (x || y) := by
  cases b with
  | rx r => rfl
  | tx b => cases x <;> cases y <;> rfl

theorem Refuses.nil (s : State) : Refuses [] s s where
  boxes m := (Mailbox.blockedIf_false _).symm
  attention m := (Bool.or_false _).symm
  skipped := by
    have := (counterValue .slotSkipped s).isLt
    simp
    omega
  slot := (Bool.or_false _).symm
  mbx := (Bool.or_false _).symm

theorem Refuses.trans {es es' : List Entry} {t u : State} (h : Refuses es s t) (h' : Refuses es' t u) :
    Refuses (es ++ es') s u where
  boxes m := by rw [h'.boxes, h.boxes, Mailbox.blockedIf_blockedIf, namesMailbox, namesMailbox, namesMailbox, List.any_append]
  attention m := by rw [h'.attention, h.attention, Bool.or_assoc, namesMailbox, namesMailbox, namesMailbox, List.any_append]
  skipped := by rw [h'.skipped, h.skipped, List.length_append]; omega
  slot := by rw [h'.slot, h.slot]; cases es <;> simp
  mbx := by rw [h'.mbx, h.mbx]; cases es <;> simp

theorem loadedAt_iff {boxes : Vector Mailbox 24} {n : Nat} :
    loadedAt boxes n = true ↔ ∃ (m : Fin 24) (b : TxMailbox), n = m.val ∧ boxes[m] = .tx b ∧ b.state = .loaded := by
  unfold loadedAt
  constructor
  · intro h
    split at h
    next b hb =>
      obtain ⟨hlt, hget⟩ := List.getElem?_eq_some_iff.mp hb
      exact ⟨⟨n, by simpa using hlt⟩, b, rfl, by simpa using hget, beq_iff_eq.mp h⟩
    · cases h
  · rintro ⟨m, b, rfl, hb, hl⟩
    have hget : boxes.toList[m.val]? = some (.tx b) := by
      rw [List.getElem?_eq_some_iff]
      exact ⟨by simp, by simpa using hb⟩
    rw [hget]
    exact beq_iff_eq.mpr hl

theorem loadedAt_of_refuses {es : List Entry} {t : State} (h : Refuses es s t) (n : Nat) :
    loadedAt t.boxes n = loadedAt s.boxes n := by
  have hstate (m : Fin 24) (x : Bool) : (∃ b, (s.boxes[m]).blockedIf x = .tx b ∧ b.state = .loaded) ↔
      ∃ b, s.boxes[m] = .tx b ∧ b.state = .loaded := by
    cases s.boxes[m] with
    | rx r => simp [Mailbox.blockedIf]
    | tx b => cases x <;> simp [Mailbox.blockedIf]
  rw [Bool.eq_iff_iff, loadedAt_iff, loadedAt_iff]
  refine exists_congr fun m => ?_
  have := hstate m (namesMailbox es m)
  rw [← h.boxes] at this
  constructor
  · rintro ⟨b, hn, hb⟩
    obtain ⟨b', hb'⟩ := this.mp ⟨b, hb⟩
    exact ⟨b', hn, hb'⟩
  · rintro ⟨b, hn, hb⟩
    obtain ⟨b', hb'⟩ := this.mpr ⟨b, hb⟩
    exact ⟨b', hn, hb'⟩

theorem refusedAt_iff {p : Nat} {e : Entry} : refusedAt p s e = true ↔
    (p < e.start.toNat ∧ entryKind? e.kind = some .transmit ∧ e.activeIn s.timer.cycle = true) ∧
      ∃ (m : Fin 24) (b : TxMailbox), e.mailbox.toNat = m.val ∧ s.boxes[m] = .tx b ∧ b.state = .loaded := by
  have hkind : entryKind? e.kind = some .transmit ↔ e.kind = 0x01 := by
    obtain ⟨hk, h⟩ | ⟨hk, h⟩ | ⟨hk, h⟩ | ⟨hk, h⟩ := entryKind?_cases e.kind <;> simp_all
  rw [refusedAt, Bool.and_eq_true, Bool.and_eq_true, Bool.and_eq_true, loadedAt_iff, hkind, activeIn_iff]
  simp only [decide_eq_true_eq, beq_iff_eq, and_assoc]

theorem flagSet_refuseSend (m : Fin 24) (o : LastOutcome) (s : State) :
    flagSet .slot (refuseSend m o s) = true ∧ flagSet .mbx (refuseSend m o s) = true := by
  rw [refuseSend, raiseAttention, flagSet_setFlag_self, flagSet_setFlag]
  exact ⟨(congrArg (· || _) (flagSet_setFlag_self .slot _)).trans (Bool.true_or _), rfl⟩

theorem refuses_refuseSend {e : Entry} {m : Fin 24} {b : TxMailbox} (hm : e.mailbox.toNat = m.val) (hb : s.boxes[m] = .tx b) :
    Refuses [e] s (refuseSend m .blocked s) := by
  have hnames (m' : Fin 24) : namesMailbox [e] m' = decide (m' = m) := by
    simp only [namesMailbox, List.any_cons, List.any_nil, Bool.or_false, hm]
    rw [Bool.eq_iff_iff, beq_iff_eq, decide_eq_true_iff, Fin.ext_iff]
    exact eq_comm
  obtain ⟨hslot, hmbx⟩ := flagSet_refuseSend m .blocked s
  refine ⟨fun m' => ?_, fun m' => ?_, ?_, ?_, ?_⟩
  · rw [refuseSend_eq hb, hnames]
    by_cases heq : m' = m
    · subst heq
      rw [decide_eq_true rfl, hb]
      exact put_get_same _ _ _
    · rw [decide_eq_false heq, Mailbox.blockedIf_false]
      exact put_get_other _ _ _ _ heq
  · rw [refuseSend_eq hb, hnames]
    refine (BitVec.getLsbD_or ..).trans (congrArg _ ?_)
    rw [BitVec.getLsbD_twoPow, Bool.eq_iff_iff]
    simp [Fin.ext_iff, eq_comm]
  · have hcounted := counterValue_bump_toNat .slotSkipped (updateTx m (fun t => { t with lastOutcome := .blocked }) s)
    have hkept : counterValue .slotSkipped (updateTx m (fun t => { t with lastOutcome := .blocked }) s) =
        counterValue .slotSkipped s := by simp [counterValue]
    rw [hkept] at hcounted
    exact hcounted
  · rw [hslot]
    simp
  · rw [hmbx]
    simp

theorem passOver_refused {p : Nat} {e : Entry} (h : refusedAt p s e = true) : Refuses [e] s (passOver p s e) := by
  obtain ⟨hdue, m, b, hm, hb, hl⟩ := refusedAt_iff.mp h
  have heq : passOver p s e = refuseSend m .blocked s := by
    rw [passOver, if_pos hdue, (mailboxIndex_eq_some _ _).mpr hm]
    simp only [hb, if_pos hl]
  rw [heq]
  exact refuses_refuseSend hm hb

theorem passOver_other {p : Nat} {e : Entry} (h : refusedAt p s e = false) : passOver p s e = s := by
  have hnot := mt refusedAt_iff.mpr (ne_true_of_eq_false h)
  unfold passOver
  split
  next hdue =>
    split
    · rfl
    next m hm =>
      split
      next b hb => exact if_neg fun hl => hnot ⟨hdue, m, b, (mailboxIndex_eq_some _ _).mp hm, hb, hl⟩
      · rfl
  · rfl

theorem refusedAt_of_refuses {es : List Entry} {t : State} (h : Refuses es s t) (hcycle : t.timer.cycle = s.timer.cycle)
    (p : Nat) (e : Entry) : refusedAt p t e = refusedAt p s e := by
  rw [refusedAt, refusedAt, hcycle, loadedAt_of_refuses h]

theorem foldl_passOver (p : Nat) (es : List Entry) (s : State) :
    Refuses (es.filter (refusedAt p s)) s (es.foldl (passOver p) s) := by
  induction es generalizing s with
  | nil => exact .nil s
  | cons e es ih =>
    cases he : refusedAt p s e with
    | false =>
      rw [List.filter_cons_of_neg (by simp [he]), List.foldl_cons, passOver_other he]
      exact ih s
    | true =>
      have hfirst := passOver_refused he
      have hrest := ih (passOver p s e)
      rw [show refusedAt p (passOver p s e) = refusedAt p s from funext (refusedAt_of_refuses hfirst (by simp) p)] at hrest
      rw [List.filter_cons_of_pos he, List.foldl_cons]
      exact hfirst.trans hrest

/-- The entries whose frames an early boundary refuses: in RUNNING with SILENT clear, those not yet reached (R31). -/
def refusedEntries (s : State) : List Entry :=
  if s.link.state = .running ∧ s.link.silent = false then
    ((scheduleOf s).drop s.seq.nextIndex).filter (refusedAt s.timer.position s)
  else []

theorem passOverRest_refuses (s : State) : Refuses (refusedEntries s) s (passOverRest s.timer.position s) := by
  unfold refusedEntries passOverRest
  split
  · exact foldl_passOver _ _ s
  · exact .nil s

/-! ### The slot and the nodes -/

/-- The slot that an early boundary finds in RECEIVING, which the telling of the slot rules out (R20). -/
abbrev NotReceiving (s : State) : Prop := ∀ sl ∈ s.seq.slot, ∀ extended, sl.body ≠ .receive .receiving extended

theorem notReceiving_toldState (s : State) : NotReceiving (toldState s) := by
  intro sl hsl extended hb
  obtain ⟨hother, heq⟩ | ⟨sl', -, -, heq⟩ | ⟨sl', -, -, heq⟩ := slotFrameEnded_cases (afterMark s)
  · rw [toldState, heq] at hsl
    have hfollows := hother sl hsl
    simp [Slot.follows, hb] at hfollows
  · rw [toldState, heq] at hsl
    obtain rfl := Option.some.inj hsl
    cases hb
  · rw [toldState, heq] at hsl
    simp [closeSlot] at hsl

theorem slotWindowEnd_none (h : s.seq.slot = none) : slotWindowEnd s = s := by
  rw [slotWindowEnd, h]

theorem slot_slotWindowEnd (h : NotReceiving s) : (slotWindowEnd s).seq.slot = none := by
  unfold slotWindowEnd
  split
  next hnone => exact hnone
  next sl hsl =>
    split
    · rfl
    · rfl
    · simp [closeSlot]
    · rfl
    next hb => exact absurd hb (h sl hsl _)

/-! ### The whole early boundary -/

theorem Refuses.then_same {es : List Entry} {t u : State} (h : Refuses es s t) (hboxes : u.boxes = t.boxes)
    (hattention : u.irq.attention = t.irq.attention) (hcounters : u.irq.counters = t.irq.counters)
    (hslot : flagSet .slot u = flagSet .slot t) (hmbx : flagSet .mbx u = flagSet .mbx t) : Refuses es s u where
  boxes m := by rw [hboxes, h.boxes]
  attention m := by rw [hattention, h.attention]
  skipped := by
    have hsame : counterValue .slotSkipped u = counterValue .slotSkipped t := by rw [counterValue, counterValue, hcounters]
    rw [hsame, h.skipped]
  slot := hslot.trans h.slot
  mbx := hmbx.trans h.mbx

/-- From `s` to `t` an early boundary has ended the cycle, and no entry has been reached since (R31). -/
structure EarlyEnds (s t : State) : Prop where
  refuses : Refuses (refusedEntries s) s t
  slot : t.seq.slot = none
  tx : t.tx = s.tx
  rx : t.rx = s.rx
  nodes : t.nodes = (slotWindowEnd s).nodes

theorem EarlyEnds.then_quiet {t u : State} (h : EarlyEnds s t) (hq : Quiet t u) : EarlyEnds s u where
  refuses := h.refuses.then_same hq.boxes hq.attention hq.counters (hq.marks.flags .slot (by decide))
    (hq.marks.flags .mbx (by decide))
  slot := hq.slot.trans h.slot
  tx := hq.tx.trans h.tx
  rx := hq.rx.trans h.rx
  nodes := hq.nodes.trans h.nodes

theorem nodes_nodeMissed_congr {t : State} (source : Byte) (h : t.nodes = s.nodes) :
    (nodeMissed source t).nodes = (nodeMissed source s).nodes := by
  obtain ⟨nodes, change, flags, heq⟩ := nodeMissed_form source s
  rw [heq s rfl, heq t h]

theorem nodes_slotWindowEnd_congr {t : State} (hslot : t.seq.slot = s.seq.slot) (hnodes : t.nodes = s.nodes) :
    (slotWindowEnd t).nodes = (slotWindowEnd s).nodes := by
  unfold slotWindowEnd
  rw [hslot]
  split
  · exact hnodes
  · split
    · exact hnodes
    · exact hnodes
    · exact nodes_nodeMissed_congr _ hnodes
    · exact hnodes
    · exact hnodes

theorem passedState_ends (h : NotReceiving s) : EarlyEnds s (passedState s.timer.position s) := by
  have hrefuses := passOverRest_refuses s
  have hmarks := marks_slotWindowEnd (passOverRest s.timer.position s)
  refine ⟨hrefuses.then_same (by simp) (by simp) (by simp) (hmarks.flags .slot (by decide)) (hmarks.flags .mbx (by decide)),
    slot_slotWindowEnd fun sl hsl => h sl (by simpa using hsl), by simp, by simp, ?_⟩
  exact nodes_slotWindowEnd_congr (by simp) (by simp)

theorem earlyBoundary_ends (h : NotReceiving s)
    (habsent : ∀ e, (scheduleOf s)[0]? = some e → e.start.toNat ≠ 0) :
    EarlyEnds s (earlyBoundary s.timer.position s) ∧ (earlyBoundary s.timer.position s).seq.nextIndex = 0 := by
  have hpassed := passedState_ends h
  have hmarks := marks_boundaryBegun (passedState s.timer.position s)
  have hbegun : EarlyEnds s (boundaryBegun (passedState s.timer.position s)) :=
    ⟨hpassed.refuses.then_same rfl rfl rfl (hmarks.flags .slot (by decide)) (hmarks.flags .mbx (by decide)),
      hpassed.slot, hpassed.tx, hpassed.rx, hpassed.nodes⟩
  have hsched : scheduleOf (boundaryBegun (passedState s.timer.position s)) = scheduleOf s := by
    refine scheduleOf_congr ?_
    change (passedState s.timer.position s).sched = s.sched
    simp
  obtain ⟨hquiet, hindex⟩ := quiet_reachAll_absent (swapping := false) (qs := [0])
    (s := boundaryBegun (passedState s.timer.position s))
    (fun q _ sl hsl => by rw [hbegun.slot] at hsl; cases hsl)
    (fun q hq e he => by
      obtain rfl := List.mem_singleton.mp hq
      rw [hsched] at he
      exact habsent e he)
  rw [earlyBoundary, boundaryEffects_eq]
  exact ⟨hbegun.then_quiet hquiet, hindex⟩

end Sys2Proof.Machine
end

section
/-! # A jump that reaches an entry: what opens there, and what the bank comparison leaves of it (R32, R55, R57, R61, R82) -/

open Sys2Proof

namespace Sys2Proof.Machine

variable {f : Frame} {s : State}

/-! ### An entry reached with the receive side in HUNT -/

theorem beginFrame_hunt (h : s.rx.assembly = .hunt) (r : Requester) (f : Frame) : beginFrame r f s =
    { s with tx := some { requester := r, chars := f.characters s.params, index := 0, collided := false } } := by
  have hnone : abandonAssembly .truncErr s = s := if_pos h
  rw [beginFrame, hnone]

/-- The entry is a TRANSMIT entry for the mailbox. -/
abbrev SendsFrom (e : Entry) (m : Fin 24) : Prop := e.kind = 0x01 ∧ e.mailbox.toNat = m.val

/-- What an entry that is reached leaves: all but its own mailbox, and all of the transmit path where it sends nothing. -/
structure EntryTaken (e : Entry) (s t : State) : Prop where
  nodes : t.nodes = s.nodes
  boxes : ∀ m : Fin 24, ¬SendsFrom e m → t.boxes[m] = s.boxes[m]
  rxBoxes : ∀ (m : Fin 24) (r : RxMailbox), s.boxes[m] = .rx r → t.boxes[m] = .rx r
  attention : ∀ m : Fin 24, ¬SendsFrom e m → t.irq.attention.getLsbD m = s.irq.attention.getLsbD m
  listens : e.kind ≠ 0x01 → t.tx = s.tx ∧ t.irq.counters = s.irq.counters ∧ flagSet .slot t = flagSet .slot s ∧
    flagSet .mbx t = flagSet .mbx s

theorem EntryTaken.of_same {e : Entry} {t : State} (hnodes : t.nodes = s.nodes) (hboxes : t.boxes = s.boxes)
    (hirq : t.irq = s.irq) (htx : t.tx = s.tx) : EntryTaken e s t where
  nodes := hnodes
  boxes m _ := by rw [hboxes]
  rxBoxes m r hr := by rw [hboxes]; exact hr
  attention m _ := by rw [hirq]
  listens _ := by simp only [htx, hirq, flagSet, and_self]

theorem EntryTaken.then_quiet {e : Entry} {t u : State} (h : EntryTaken e s t) (hq : Quiet t u) : EntryTaken e s u where
  nodes := hq.nodes.trans h.nodes
  boxes m hm := by rw [hq.boxes, h.boxes m hm]
  rxBoxes m r hr := by rw [hq.boxes, h.rxBoxes m r hr]
  attention m hm := by rw [hq.attention, h.attention m hm]
  listens hk := by
    obtain ⟨htx, hcounters, hslot, hmbx⟩ := h.listens hk
    exact ⟨hq.tx.trans htx, hq.counters.trans hcounters, (hq.marks.flags .slot (by decide)).trans hslot,
      (hq.marks.flags .mbx (by decide)).trans hmbx⟩

theorem entryTaken_of_mailbox {e : Entry} {t : State} {m : Fin 24} {b b' : TxMailbox} (hkind : e.kind = 0x01)
    (hm : e.mailbox.toNat = m.val) (hb : s.boxes[m] = .tx b) (hnodes : t.nodes = s.nodes)
    (hboxes : t.boxes = put s.boxes m (.tx b'))
    (hattention : ∀ m' : Fin 24, m' ≠ m → t.irq.attention.getLsbD m' = s.irq.attention.getLsbD m') : EntryTaken e s t where
  nodes := hnodes
  boxes m' hm' := by
    rw [hboxes]
    exact put_get_other _ _ _ _ fun heq => hm' ⟨hkind, heq ▸ hm⟩
  rxBoxes m' r hr := by
    rw [hboxes]
    refine (put_get_other _ _ _ _ fun heq => ?_).trans hr
    rw [heq, hb] at hr
    cases hr
  attention m' hm' := hattention m' fun heq => hm' ⟨hkind, heq ▸ hm⟩
  listens hk := absurd hkind hk

theorem entryTaken_refuseSend {e : Entry} {m : Fin 24} {b : TxMailbox} (o : LastOutcome) (hkind : e.kind = 0x01)
    (hm : e.mailbox.toNat = m.val) (hb : s.boxes[m] = .tx b) : EntryTaken e s (refuseSend m o s) := by
  refine entryTaken_of_mailbox (b' := { b with lastOutcome := o }) hkind hm hb (by simp) (by rw [refuseSend_eq hb])
    fun m' hne => ?_
  rw [refuseSend_eq hb]
  refine (BitVec.getLsbD_or ..).trans ?_
  rw [BitVec.getLsbD_twoPow, decide_eq_false (p := m.val = m'.val) fun h => hne (Fin.ext h.symm), Bool.and_false, Bool.or_false]

theorem entryTaken_admitTransmit {e : Entry} (hkind : e.kind = 0x01) (hrx : s.rx.assembly = .hunt) :
    EntryTaken e s (admitTransmit e s) := by
  obtain heq | ⟨m, b, hm, hb, -, -, -, ⟨-, heq⟩ | ⟨-, -, heq⟩ | ⟨-, -, heq⟩⟩ := admitTransmit_cases e s <;> rw [heq]
  · exact .of_same rfl rfl rfl rfl
  · exact entryTaken_refuseSend _ hkind hm hb
  · exact entryTaken_refuseSend _ hkind hm hb
  · rw [updateTx_tx hb, beginFrame_hunt (by exact hrx)]
    exact entryTaken_of_mailbox (b' := { b with state := .locked }) hkind hm hb rfl rfl fun _ _ => rfl

theorem EntryTaken.after_same {e : Entry} {t u : State} (h : EntryTaken e t u) (hnodes : t.nodes = s.nodes)
    (hboxes : t.boxes = s.boxes) (hirq : t.irq = s.irq) (htx : t.tx = s.tx) : EntryTaken e s u where
  nodes := h.nodes.trans hnodes
  boxes m hm := by rw [h.boxes m hm, hboxes]
  rxBoxes m r hr := h.rxBoxes m r (by rw [hboxes]; exact hr)
  attention m hm := by rw [h.attention m hm, hirq]
  listens hk := by
    obtain ⟨htx', hcounters, hslot, hmbx⟩ := h.listens hk
    exact ⟨htx'.trans htx, by rw [hcounters, hirq], hslot.trans (flagSet_congr (congrArg _ hirq) _),
      hmbx.trans (flagSet_congr (congrArg _ hirq) _)⟩

theorem entryTaken_openEntry {e : Entry} (i : Nat) (hslot : s.seq.slot = none) (hrx : s.rx.assembly = .hunt) :
    EntryTaken e s (openEntry i e s) := by
  have hset (sl : Slot) : EntryTaken e s (setSlot sl s) := .of_same rfl rfl rfl rfl
  unfold openEntry
  rw [closeForOpening_none hslot]
  obtain ⟨hkind, heq⟩ | ⟨-, heq⟩ | ⟨-, heq⟩ | ⟨-, heq⟩ := entryKind?_cases e.kind <;> rw [heq]
  · exact (entryTaken_admitTransmit (s := setSlot (slotOf i e .transmit) s) hkind hrx).after_same rfl rfl rfl rfl
  · exact hset _
  · exact hset _
  · exact .of_same rfl rfl rfl rfl

/-- An offset reached with no slot open and the receive side in HUNT. -/
theorem entryTaken_reachOffset {e : Entry} (swapping : Bool) (hslot : s.seq.slot = none) (hrx : s.rx.assembly = .hunt)
    (he : (scheduleOf s)[s.seq.nextIndex]? = some e) : EntryTaken e s (reachOffset swapping e.start.toNat s) := by
  have hnoEnd : NoEndAt e.start.toNat s := fun sl hsl => by cases hslot.symm.trans hsl
  by_cases hopens : OpensAt swapping e s
  · rw [reachOffset_opens swapping he hopens hnoEnd]
    exact (entryTaken_openEntry s.seq.nextIndex hslot hrx).then_quiet (quiet_firePoints _ _ _)
  · rw [reachOffset_passed swapping he hopens hnoEnd]
    exact (EntryTaken.of_same rfl rfl rfl rfl).then_quiet (quiet_firePoints _ _ s)

/-! ### A jump's offsets before its last -/

theorem reachAll_append (swapping : Bool) (qs : List Nat) (q : Nat) (s : State) :
    reachAll swapping (qs ++ [q]) s = reachOffset swapping q (reachAll swapping qs s) := by
  rw [reachAll, List.foldl_append]
  rfl

end Sys2Proof.Machine
end

section
/-! # What an accepted cycle-start frame does to the schedule (R31, R46, R55, R57, R59, R65) -/

open Sys2Proof

namespace Sys2Proof.Machine

variable {f : Frame} {s : State}

/-! ### From the offsets reached to the bank comparison -/

/-- The state in which a resync has reached the offsets of its jump (R32). -/
def jumped (f : Frame) (n length : Nat) (s : State) : State :=
  reachAll (frameSwaps f s) (jumpOffsets s.timer.position n length) (resyncBegun n length s)

/-- The checks and the record of a frame leave the schedule side of the state as it stands. -/
structure Recorded (s t : State) : Prop where
  tx : t.tx = s.tx
  seq : t.seq = s.seq
  boxes : t.boxes = s.boxes
  nodes : t.nodes = s.nodes
  attention : t.irq.attention = s.irq.attention
  counters : t.irq.counters = s.irq.counters
  link : t.link = s.link
  sched : t.sched = s.sched
  position : t.timer.position = s.timer.position
  slotFlag : flagSet .slot t = flagSet .slot s
  mbxFlag : flagSet .mbx t = flagSet .mbx s

theorem resynced_recorded (f : Frame) (n length : Nat) (s : State) : Recorded (jumped f n length s) (resynced f n length s) := by
  have hresync : resync f n length s = { jumped f n length s with
      sync := { s.sync with deviation := clampDeviation (deviationOf s.timer.position n length) } } := resync_eq f n length s
  have hflag (g : Flag) (hg : g ≠ .sync) : flagSet g (resynced f n length s) = flagSet g (jumped f n length s) := by
    rw [flagSet_resynced, decide_eq_false hg, Bool.false_and, Bool.false_and, Bool.or_false, Bool.or_false, hresync]
    rfl
  constructor
  case slotFlag => exact hflag .slot (by decide)
  case mbxFlag => exact hflag .mbx (by decide)
  all_goals simp [resynced, hresync]

theorem started_recorded (f : Frame) (n : Nat) (s : State) : Recorded (startFromListen f n s) (started f n s) :=
  ⟨rfl, rfl, rfl, rfl, rfl, rfl, rfl, rfl, rfl, rfl, rfl⟩

/-- What the bank comparison leaves of the schedule side, where a swap finds no slot open (R82). -/
structure Compared (s t : State) : Prop where
  tx : t.tx = s.tx
  boxes : t.boxes = s.boxes
  nodes : t.nodes = s.nodes
  attention : t.irq.attention = s.irq.attention
  counters : t.irq.counters = s.irq.counters
  slot : s.seq.slot = none → t.seq.slot = none
  slotFlag : flagSet .slot t = flagSet .slot s
  mbxFlag : flagSet .mbx t = flagSet .mbx s

theorem nodes_compareBanks (n : Nat) (h : Swaps f s → s.seq.slot = none) : (compareBanks f n s).nodes = s.nodes := by
  by_cases hnames : NamesSchedule (activeBank s) f
  · rw [compareBanks_names n hnames]
    simp
  by_cases hswap : Swaps f s
  · rw [compareBanks_swaps n hswap, followerSwap_none n (h hswap)]
    simp
  · rw [compareBanks_aligns n hnames hswap]
    simp

theorem compareBanks_compared (n : Nat) (h : Swaps f s → s.seq.slot = none) : Compared s (compareBanks f n s) := by
  have hmarks := marks_compareBanks f n s
  exact ⟨by simp, by simp, nodes_compareBanks n h, by simp, by simp, slot_compareBanks_none f n,
    hmarks.flags .slot (by decide), hmarks.flags .mbx (by decide)⟩

/-! ### The early boundary (R31) -/

theorem jumpOffsets_early {p n length : Nat} (h : belongsToNext p n length = true) :
    jumpOffsets p n length = List.range' 0 n ++ [n] := by
  rw [jumpOffsets, h]
  simp [List.range'_concat]

/-- The state in which a jump with an early boundary reaches its last offset. -/
theorem jumped_early {n length : Nat} (hearly : belongsToNext s.timer.position n length = true) (htold : NotReceiving s)
    (habsent : ∀ q, q < n ∨ q = 0 → ∀ e, (scheduleOf s)[0]? = some e → e.start.toNat ≠ q) :
    ∃ v, EarlyEnds s v ∧ v.seq.nextIndex = 0 ∧ v.sched = s.sched ∧ v.link = s.link ∧ v.params = s.params ∧
      v.line.level = s.line.level ∧ v.timer.cycle = s.timer.cycle + 1 ∧ v.timer.position = n ∧
      jumped f n length s = reachOffset (frameSwaps f s) n v := by
  obtain ⟨hends, hindex⟩ := earlyBoundary_ends htold (habsent 0 (.inr rfl))
  have hbegun : resyncBegun n length s = setPosition n (earlyBoundary s.timer.position s) := by rw [resyncBegun, hearly]; rfl
  have hsched : scheduleOf (resyncBegun n length s) = scheduleOf s := by
    refine scheduleOf_congr ?_
    rw [hbegun]
    change (earlyBoundary s.timer.position s).sched = s.sched
    simp
  have hends' : EarlyEnds s (resyncBegun n length s) := by
    rw [hbegun]
    exact ⟨hends.refuses.then_same rfl rfl rfl rfl rfl, hends.slot, hends.tx, hends.rx, hends.nodes⟩
  have hindex' : (resyncBegun n length s).seq.nextIndex = 0 := by rw [hbegun]; exact hindex
  obtain ⟨hquiet, hnext⟩ := quiet_reachAll_absent (swapping := frameSwaps f s) (qs := List.range' 0 n)
    (s := resyncBegun n length s)
    (fun q _ sl hsl => by rw [hends'.slot] at hsl; cases hsl)
    (fun q hq e he => by
      rw [hsched, hindex'] at he
      exact habsent q (.inl (by simpa using (List.mem_range'_1.mp hq).2)) e he)
  refine ⟨_, hends'.then_quiet hquiet, hnext.trans hindex', ?_, ?_, ?_, ?_, ?_, ?_, ?_⟩
  · rw [hbegun]; simp [setPosition]
  · rw [hbegun]; simp [setPosition]
  · rw [hbegun]; simp [setPosition]
  · rw [hbegun]; simp [setPosition]
  · simp only [reachAll_frame, hbegun, setPosition, earlyBoundary_timer]
  · simp only [reachAll_frame, hbegun, setPosition]
  · rw [jumped, jumpOffsets_early hearly, reachAll_append]

theorem refusedEntries_congr {t : State} (hlink : t.link = s.link) (hsched : t.sched = s.sched)
    (hindex : t.seq.nextIndex = s.seq.nextIndex) (htimer : t.timer = s.timer) (hboxes : t.boxes = s.boxes) :
    refusedEntries t = refusedEntries s := by
  have hrefused : refusedAt t.timer.position t = refusedAt s.timer.position s := by
    funext e
    rw [refusedAt, refusedAt, htimer, hboxes]
  rw [refusedEntries, refusedEntries, hlink, scheduleOf_congr hsched, hindex, hrefused]

/-- What the telling of the slot and the early boundary do to the node presence table (R20, R63, R65, R66). -/
theorem nodes_told_slotWindowEnd (s : State) :
    (s.seq.slot = none → (slotWindowEnd (toldState s)).nodes = s.nodes) ∧
      ∀ sl, s.seq.slot = some sl →
        (sl.body = .transmit ∨ sl.body = .openWindow ∨ sl.body = .receive .done false →
          (slotWindowEnd (toldState s)).nodes = s.nodes) ∧
        (sl.body = .receive .awaiting false ∨ (∃ extended, sl.body = .receive .receiving extended) →
          (slotWindowEnd (toldState s)).nodes = (nodeMissed sl.source s).nodes) := by
  refine ⟨fun hnone => ?_, fun sl hsl => ⟨fun hb => ?_, fun hb => ?_⟩⟩
  · rw [toldState_of_slot_none hnone, slotWindowEnd_none (by exact hnone)]
    rfl
  · have htold : toldState s = afterMark s := toldState_other hsl (by obtain h | h | h := hb <;> simp [h])
    rw [htold, slotWindowEnd_closes (s := afterMark s) hsl hb]
    rfl
  · obtain hb | ⟨extended, hb⟩ := hb
    · rw [toldState_other hsl (by simp [hb]), slotWindowEnd_misses (s := afterMark s) hsl hb]
      exact nodes_nodeMissed_congr sl.source rfl
    · cases extended with
      | false =>
        rw [toldState_awaits hsl hb, slotWindowEnd_misses (sl := { sl with body := .receive .awaiting false }) rfl rfl]
        exact nodes_nodeMissed_congr sl.source rfl
      | true =>
        rw [toldState_missed hsl hb, slotWindowEnd_none (by simp [closeSlot])]
        exact nodes_nodeMissed_congr sl.source rfl

/-- After an early boundary a jump to 28 or below takes the entry at its last offset, where there is one. -/
theorem jumped_early_takes {n length : Nat} (hn : n ≤ 28) (hearly : belongsToNext s.timer.position n length = true)
    (htold : NotReceiving s) (hrx : s.rx.assembly = .hunt) (hstarts : ∀ e ∈ scheduleOf s, 28 ≤ e.start.toNat) :
    ((∀ e, (scheduleOf s)[0]? = some e → e.start.toNat ≠ n) → EarlyEnds s (jumped f n length s)) ∧
      (∀ e, (scheduleOf s)[0]? = some e → e.start.toNat = n →
        ∃ v, EarlyEnds s v ∧ EntryTaken e v (jumped f n length s)) ∧
      (frameSwaps f s = true → (jumped f n length s).seq.slot = none) := by
  have habsent (q : Nat) (hq : q < n ∨ q = 0) (e : Entry) (he : (scheduleOf s)[0]? = some e) : e.start.toNat ≠ q := by
    have := hstarts e (List.mem_of_getElem? he)
    omega
  obtain ⟨v, hends, hindex, hsched, -, -, -, -, -, hjump⟩ := jumped_early (f := f) hearly htold habsent
  have hschedule : scheduleOf v = scheduleOf s := scheduleOf_congr hsched
  have hnoEnd : NoEndAt n v := fun sl hsl => by cases hends.slot.symm.trans hsl
  rw [hjump]
  refine ⟨fun hnone => hends.then_quiet (quiet_reachOffset hnoEnd (.inr (.inr ?_))), fun e he hstart => ⟨v, hends, ?_⟩, fun hswap => ?_⟩
  · intro e he
    rw [hschedule, hindex] at he
    exact hnone e he
  · rw [← hstart]
    exact entryTaken_reachOffset _ hends.slot (by rw [hends.rx]; exact hrx) (by rw [hschedule, hindex]; exact he)
  · exact (quiet_reachOffset hnoEnd (.inr (.inl hswap))).slot.trans hends.slot

/-! ### O36, the early boundary -/

/-- What the early boundary of an accepted frame leaves, with the entry that its jump reaches set apart (R31, R65). -/
theorem earlyBoundary_schedule {length n : Nat} (hmark : ClosingMark f s) (hkind : f.kind = .cycleStart)
    (hrole : s.params.role ≠ 1) (hstate : s.link.state = .align ∨ s.link.state = .running)
    (hlength : s.timer.length = some length) (hn : s.rx.count + 1 = n) (hle : n ≤ 28)
    (hearly : belongsToNext s.timer.position n length = true) (hstarts : ∀ e ∈ scheduleOf s, 28 ≤ e.start.toNat) :
    ∃ a t, exec (.characterComplete s.params.cm) s = .next (settleWait t) ∧ Compared a t ∧
      ((∀ e, (scheduleOf s)[0]? = some e → e.start.toNat ≠ n) → EarlyEnds (toldState s) a) ∧
      (∀ e, (scheduleOf s)[0]? = some e → e.start.toNat = n → ∃ v, EarlyEnds (toldState s) v ∧ EntryTaken e v a) := by
  have hexec := exec_cycleStart_follower hmark hkind hrole
  have htimer : (toldState s).timer = s.timer := by simp [afterMark]
  have hsched : (toldState s).sched = s.sched := by simp [afterMark]
  have hrx : (toldState s).rx.assembly = .hunt := by simp [afterMark]
  rw [acceptCs_cyclic _ (by simpa [afterMark] using hstate) (htimer ▸ hlength), hn] at hexec
  have hrecorded := resynced_recorded f n length (toldState s)
  obtain ⟨hnone, hsome, hswap⟩ := jumped_early_takes (f := f) (s := toldState s) hle (by rw [htimer]; exact hearly)
    (notReceiving_toldState s) hrx (by rw [scheduleOf_congr hsched]; exact hstarts)
  have hcompared : Compared (resynced f n length (toldState s)) (compareBanks f n (resynced f n length (toldState s))) := by
    refine compareBanks_compared n fun hswaps => ?_
    have hbanks : (resynced f n length (toldState s)).sched = (toldState s).sched := by simp [resynced]
    have hsame : Swaps f (toldState s) := by
      rw [Swaps, ← activeBank_congr hbanks, ← shadowBank_congr hbanks, ← hbanks]
      exact hswaps
    rw [hrecorded.seq]
    exact hswap ((frameSwaps_iff f _).mpr hsame)
  have hschedule : scheduleOf (toldState s) = scheduleOf s := scheduleOf_congr hsched
  rw [hschedule] at hnone hsome
  refine ⟨jumped f n length (toldState s), _, hexec, ?_, hnone, hsome⟩
  exact ⟨hcompared.tx.trans hrecorded.tx, hcompared.boxes.trans hrecorded.boxes, hcompared.nodes.trans hrecorded.nodes,
    hcompared.attention.trans hrecorded.attention, hcompared.counters.trans hrecorded.counters,
    fun h => hcompared.slot (by rw [hrecorded.seq]; exact h), hcompared.slotFlag.trans hrecorded.slotFlag,
    hcompared.mbxFlag.trans hrecorded.mbxFlag⟩

/-- The entry at a jump's last offset, where the first entry of the schedule starts there. -/
abbrev reachedEntry (n : Nat) (s : State) : Option Entry :=
  (scheduleOf s).head?.filter (fun e => e.start.toNat == n)

/-- What the schedule side holds when the entry reached, if any, has been taken after the early boundary. -/
structure EarlyTaken (reached : Option Entry) (s v a : State) : Prop where
  slot : reached = none → a.seq.slot = none
  tx : reached = none → a.tx = v.tx
  nodes : a.nodes = v.nodes
  boxes : ∀ m : Fin 24, reached.any (fun e => e.kind == 0x01 && e.mailbox.toNat == m.val) = false → a.boxes[m] = v.boxes[m]
  rxBoxes : ∀ (m : Fin 24) (r : RxMailbox), v.boxes[m] = .rx r → a.boxes[m] = .rx r
  attention : ∀ m : Fin 24, reached.any (fun e => e.kind == 0x01 && e.mailbox.toNat == m.val) = false →
    a.irq.attention.getLsbD m = v.irq.attention.getLsbD m
  sends : reached.any (fun e => e.kind == 0x01) = false →
    a.irq.counters = v.irq.counters ∧ flagSet .slot a = flagSet .slot v ∧ flagSet .mbx a = flagSet .mbx v

theorem earlyTaken {u a : State} {n : Nat}
    (hnone : (∀ e, (scheduleOf s)[0]? = some e → e.start.toNat ≠ n) → EarlyEnds u a)
    (hsome : ∀ e, (scheduleOf s)[0]? = some e → e.start.toNat = n → ∃ v, EarlyEnds u v ∧ EntryTaken e v a) :
    ∃ v, EarlyEnds u v ∧ EarlyTaken (reachedEntry n s) s v a := by
  cases hr : reachedEntry n s with
  | none =>
    have hends := hnone fun e he hstart => by
      have : reachedEntry n s = some e := by
        rw [reachedEntry, List.head?_eq_getElem?, he, Option.filter_some, if_pos (beq_iff_eq.mpr hstart)]
      cases hr.symm.trans this
    exact ⟨a, hends, fun _ => hends.slot, fun _ => rfl, rfl, fun _ _ => rfl, fun _ _ hr => hr, fun _ _ => rfl,
      fun _ => ⟨rfl, rfl, rfl⟩⟩
  | some e =>
    obtain ⟨hhead, hstart⟩ := Option.filter_eq_some_iff.mp hr
    obtain ⟨v, hends, htaken⟩ := hsome e (List.head?_eq_getElem? ▸ hhead) (beq_iff_eq.mp hstart)
    have hother (m : Fin 24) (h : (some e).any (fun e => e.kind == 0x01 && e.mailbox.toNat == m.val) = false) : ¬SendsFrom e m := by
      rintro ⟨hkind, hm⟩
      simp [hkind, hm] at h
    refine ⟨v, hends, nofun, nofun, htaken.nodes, fun m h => htaken.boxes m (hother m h), htaken.rxBoxes,
      fun m h => htaken.attention m (hother m h), fun h => ?_⟩
    exact (htaken.listens (by simpa using h)).2

/-! ### O36, the swap (R55) -/

theorem followerSwap_beyond {n : Nat} {sl : Slot} (hsl : s.seq.slot = some sl)
    (hfits : sl.finish < (activeBank (exchangeBanks s)).length.toNat) : followerSwap n s =
      { exchangeBanks s with seq := { s.seq with nextIndex := firstEntryFrom sl.finish (exchangeBanks s) } } := by
  have hseq : (exchangeBanks s).seq = s.seq := by simp
  unfold followerSwap
  dsimp only
  rw [hseq, hsl]
  exact if_pos hfits

theorem followerSwap_ends {n : Nat} {sl : Slot} (hsl : s.seq.slot = some sl)
    (hends : ¬sl.finish < (activeBank (exchangeBanks s)).length.toNat) : followerSwap n s =
      { slotWindowEnd (exchangeBanks s) with seq := { (slotWindowEnd (exchangeBanks s)).seq with
          nextIndex := firstEntryFrom (n + 1) (slotWindowEnd (exchangeBanks s)) } } := by
  have hseq : (exchangeBanks s).seq = s.seq := by simp
  unfold followerSwap
  dsimp only
  rw [hseq, hsl]
  exact if_neg hends

theorem activeBank_exchangeBanks (s : State) : activeBank (exchangeBanks s) = shadowBank s :=
  activeBank_swapped (exchangeBanks_sched s)

theorem firstEntryFrom_eq {u : State} {b : Bank} (q : Nat) (h : activeBank u = b) :
    firstEntryFrom q u = (b.entries.toList.take b.count.toNat).findIdx (fun e => q ≤ e.start.toNat) := by
  rw [firstEntryFrom, h]
  rfl

/-- A swap with no slot open places the next index beyond the frame. -/
theorem compareBanks_swaps_none (n : Nat) (hswap : Swaps f s) (hslot : s.seq.slot = none) :
    (compareBanks f n s).seq =
      { nextIndex := ((shadowBank s).entries.toList.take (shadowBank s).count.toNat).findIdx (fun e => n < e.start.toNat)
        slot := none } ∧ (compareBanks f n s).nodes = s.nodes := by
  rw [compareBanks_swaps n hswap, followerSwap_none n hslot, firstEntryFrom_eq _ (activeBank_exchangeBanks s)]
  refine ⟨?_, by simp⟩
  simp only [runActiveBank_frame, hslot]
  rfl

/-- A swap with a slot open: the slot stays where the new length reaches beyond its end, and ends where it does not. -/
theorem compareBanks_swaps_some {n : Nat} {sl : Slot} (hswap : Swaps f s) (hsl : s.seq.slot = some sl)
    (hb : sl.body = .transmit ∨ sl.body = .openWindow ∨ sl.body = .receive .awaiting false ∨ sl.body = .receive .done false) :
    let fresh : List Entry := (shadowBank s).entries.toList.take (shadowBank s).count.toNat
    (sl.finish < (shadowBank s).length.toNat →
      (compareBanks f n s).seq = { nextIndex := fresh.findIdx (fun e => sl.finish ≤ e.start.toNat), slot := some sl } ∧
        (compareBanks f n s).nodes = s.nodes) ∧
    ((shadowBank s).length.toNat ≤ sl.finish →
      (compareBanks f n s).seq = { nextIndex := fresh.findIdx (fun e => n < e.start.toNat), slot := none } ∧
        (compareBanks f n s).nodes = (if sl.body = .receive .awaiting false then nodeMissed sl.source s else s).nodes) := by
  intro fresh
  have hbank := activeBank_exchangeBanks s
  rw [compareBanks_swaps n hswap]
  refine ⟨fun hfits => ?_, fun hends => ?_⟩
  · rw [followerSwap_beyond hsl (by rw [hbank]; exact hfits), firstEntryFrom_eq _ hbank]
    refine ⟨?_, by simp⟩
    simp only [runActiveBank_frame, hsl]
    rfl
  · have hslot : (exchangeBanks s).seq.slot = some sl := by simpa using hsl
    have hactive : activeBank (slotWindowEnd (exchangeBanks s)) = shadowBank s := (activeBank_congr (by simp)).trans hbank
    have hnone : (slotWindowEnd (exchangeBanks s)).seq.slot = none := slot_slotWindowEnd fun sl' hsl' extended hbody => by
      obtain rfl := Option.some.inj (hslot.symm.trans hsl')
      obtain h | h | h | h := hb <;> cases h.symm.trans hbody
    rw [followerSwap_ends hsl (by rw [hbank]; exact not_lt.mpr hends), firstEntryFrom_eq _ hactive]
    refine ⟨?_, ?_⟩
    · simp only [runActiveBank_frame, hnone]
      rfl
    · simp only [runActiveBank_frame]
      rw [nodes_slotWindowEnd_congr (s := s) (by simp) (by simp)]
      split
      next hawaits =>
        rw [slotWindowEnd_misses hsl hawaits]
        exact nodes_nodeMissed_congr sl.source rfl
      next hother =>
        rw [slotWindowEnd_closes hsl (by tauto)]
        rfl

/-- What a jump that swaps reaches, with a slot that it does not reach the end of: nothing opens (R32, R55). -/
theorem quiet_jumped_swaps {length n : Nat} (hswap : Swaps f s) (hlate : belongsToNext s.timer.position n length = false)
    (hend : ∀ sl ∈ s.seq.slot, n < sl.finish) : Quiet (setPosition n s) (jumped f n length s) := by
  have hbegun : resyncBegun n length s = setPosition n s := by rw [resyncBegun, hlate]; rfl
  rw [jumped, hbegun]
  refine quiet_reachAll (fun q hq sl hsl hfinish => ?_) (.inr ((frameSwaps_iff f s).mpr hswap))
  have := (mem_jumpOffsets.mp hq).1
  have := hend sl hsl
  omega

/-- With no slot open a jump that swaps leaves the slot side as it stands, with an early boundary or without. -/
theorem jumped_swaps_none {length n : Nat} (hswap : Swaps f s) (hslot : s.seq.slot = none)
    (hstarts : ∀ e ∈ scheduleOf s, 28 ≤ e.start.toNat) :
    (jumped f n length s).seq.slot = none ∧ (jumped f n length s).nodes = s.nodes := by
  cases hearly : belongsToNext s.timer.position n length with
  | false =>
    have hquiet := quiet_jumped_swaps (f := f) hswap hearly (by simp [hslot])
    exact ⟨hquiet.slot.trans hslot, hquiet.nodes⟩
  | true =>
    have hnotReceiving : NotReceiving s := fun sl hsl => by cases hslot.symm.trans hsl
    obtain ⟨hends, -⟩ := earlyBoundary_ends hnotReceiving fun e he => by
      have := hstarts e (List.mem_of_getElem? he)
      omega
    have hbegun : resyncBegun n length s = setPosition n (earlyBoundary s.timer.position s) := by rw [resyncBegun, hearly]; rfl
    have hquiet : Quiet (resyncBegun n length s) (jumped f n length s) := by
      refine quiet_reachAll (fun q _ sl hsl => ?_) (.inr ((frameSwaps_iff f s).mpr hswap))
      rw [hbegun] at hsl
      cases hends.slot.symm.trans hsl
    rw [hbegun] at hquiet
    refine ⟨hquiet.slot.trans hends.slot, hquiet.nodes.trans (hends.nodes.trans ?_)⟩
    rw [slotWindowEnd_none hslot]

theorem swaps_congr {z : State} (h : z.sched = s.sched) : Swaps f z ↔ Swaps f s := by
  rw [Swaps, Swaps, activeBank_congr h, shadowBank_congr h, h]

theorem toldState_sched (s : State) : (toldState s).sched = s.sched := by simp [afterMark]

theorem toldState_timer (s : State) : (toldState s).timer = s.timer := by simp [afterMark]

/-- With no slot open a frame that swaps gives the bank comparison no slot, and the nodes as they stood. -/
theorem acceptCs_swaps_none {n : Nat} (hswaps : Swaps f s) (hslot : s.seq.slot = none)
    (hstate : s.link.state = .listen ∨ (s.link.state = .align ∨ s.link.state = .running) ∧ s.timer.length ≠ none)
    (hstarts : ∀ e ∈ scheduleOf s, 28 ≤ e.start.toNat) :
    ∃ z, acceptCs f n (toldState s) = compareBanks f n z ∧ z.sched = s.sched ∧ z.seq.slot = none ∧ z.nodes = s.nodes := by
  have hafter : (toldState s).seq.slot = none := by rw [toldState_of_slot_none hslot]; exact hslot
  have hnodes : (toldState s).nodes = s.nodes := by rw [toldState_of_slot_none hslot]; rfl
  obtain hlisten | ⟨hcyclic, hlength⟩ := hstate
  · have hlisten' : (toldState s).link.state = .listen := by simpa [afterMark] using hlisten
    have hquiet := startFromListen_quiet (f := f) n hlisten' hafter
    exact ⟨_, acceptCs_listen n hlisten', by simp [started, afterMark], hquiet.slot.trans hafter, hquiet.nodes.trans hnodes⟩
  · obtain ⟨length, hlength⟩ := Option.ne_none_iff_exists'.mp hlength
    have hrecorded := resynced_recorded f n length (toldState s)
    obtain ⟨hjumpSlot, hjumpNodes⟩ := jumped_swaps_none (n := n) (length := length)
      ((swaps_congr (toldState_sched s)).mpr hswaps) hafter (by rw [scheduleOf_congr (toldState_sched s)]; exact hstarts)
    exact ⟨_, acceptCs_cyclic n (by simpa [afterMark] using hcyclic) ((toldState_timer s).symm ▸ hlength),
      by simp [resynced, afterMark], by rw [hrecorded.seq]; exact hjumpSlot, hrecorded.nodes.trans (hjumpNodes.trans hnodes)⟩

/-- A frame that swaps, with neither an early boundary nor the slot's end reached, gives the bank comparison the slot. -/
theorem acceptCs_swaps_some {n length : Nat} {sl : Slot} (hswaps : Swaps f s) (hsl : s.seq.slot = some sl)
    (hb : ∀ extended, sl.body ≠ .receive .receiving extended) (hcyclic : s.link.state = .align ∨ s.link.state = .running)
    (hlength : s.timer.length = some length) (hn : n < sl.finish)
    (hlate : s.timer.position < n ∨ 2 * (s.timer.position - n) < length) :
    ∃ z, acceptCs f n (toldState s) = compareBanks f n z ∧ z.sched = s.sched ∧ z.seq.slot = some sl ∧ z.nodes = s.nodes := by
  have htold : toldState s = afterMark s := toldState_other hsl hb
  have hnext : belongsToNext (toldState s).timer.position n length = false := by
    rw [toldState_timer, belongsToNext, Bool.and_eq_false_iff, decide_eq_false_iff_not, decide_eq_false_iff_not]
    omega
  have hquiet := quiet_jumped_swaps (f := f) ((swaps_congr (toldState_sched s)).mpr hswaps) hnext fun sl' hsl' => by
    rw [toldState_finish hsl sl' hsl']
    exact hn
  have hrecorded := resynced_recorded f n length (toldState s)
  refine ⟨_, acceptCs_cyclic n (by simpa [afterMark] using hcyclic) ((toldState_timer s).symm ▸ hlength),
    by simp [resynced, afterMark], ?_, ?_⟩
  · rw [hrecorded.seq, hquiet.slot, htold]
    exact hsl
  · rw [hrecorded.nodes, hquiet.nodes, htold]
    rfl

/-- Settles O36: the early boundary by what it refuses and ends, the swap by what slot it finds. -/
theorem earlyBoundaryAndSwap : Obligations.EarlyBoundaryAndSwap := by
  constructor
  · intro f s length hmark hkind hrole hstate hlength n hle hposition hhalf hstarts reached mayOpen maySend loaded refused names
    have hearly : belongsToNext s.timer.position n length = true := by
      rw [belongsToNext, decide_eq_true hposition, decide_eq_true hhalf]
      rfl
    obtain ⟨a, t, hexec, hcompared, hnone, hsome⟩ :=
      earlyBoundary_schedule hmark hkind hrole hstate hlength rfl hle hearly hstarts
    obtain ⟨v, hends, htaken⟩ := earlyTaken hnone hsome
    have hrefused : refusedEntries (toldState s) = refused :=
      refusedEntries_congr (by simp [afterMark]) (by simp [afterMark]) (by simp [afterMark]) (by simp [afterMark])
        (by simp [afterMark])
    have hrefuses := hends.refuses
    rw [hrefused] at hrefuses
    have htoldBoxes : (toldState s).boxes = s.boxes := by simp [afterMark]
    have htoldAttention : (toldState s).irq.attention = s.irq.attention := by simp [afterMark]
    have htoldCounters : (toldState s).irq.counters = s.irq.counters := by simp [afterMark]
    have htold := marks_toldState s
    have htoldTx : (toldState s).tx = none := by simpa [afterMark] using hmark.2.1
    have hnodes : (settleWait t).nodes = (slotWindowEnd (toldState s)).nodes :=
      hcompared.nodes.trans (htaken.nodes.trans hends.nodes)
    obtain ⟨hnodesNone, hnodesSome⟩ := nodes_told_slotWindowEnd s
    refine ⟨_, hexec, fun hr => ⟨hcompared.slot (htaken.slot hr), ?_⟩, fun m b hmay hb => ?_, fun m r hr => ?_,
      fun m hmay => ?_, fun hmay => ?_, fun hslot => hnodes.trans (hnodesNone hslot), fun sl hsl => ?_⟩
    · exact hcompared.tx.trans ((htaken.tx hr).trans (hends.tx.trans htoldTx))
    · have hbox := hrefuses.boxes m
      rw [htoldBoxes, hb] at hbox
      rw [settleWait_boxes, hcompared.boxes, htaken.boxes m hmay, hbox]
      rfl
    · have hbox := hrefuses.boxes m
      rw [htoldBoxes, hr] at hbox
      rw [settleWait_boxes, hcompared.boxes]
      exact htaken.rxBoxes m r hbox
    · have hbit := hrefuses.attention m
      rw [htoldAttention] at hbit
      rw [settleWait_irq, hcompared.attention, htaken.attention m hmay, hbit]
    · obtain ⟨hcounters, hslot, hmbx⟩ := htaken.sends hmay
      refine ⟨?_, ?_, ?_⟩
      · have hskipped := hrefuses.skipped
        rw [counterValue, counterValue, htoldCounters] at hskipped
        rw [counterValue, settleWait_irq, hcompared.counters, hcounters]
        exact hskipped
      · exact hcompared.slotFlag.trans (hslot.trans (hrefuses.slot.trans (by rw [htold.flags .slot (by decide)])))
      · exact hcompared.mbxFlag.trans (hmbx.trans (hrefuses.mbx.trans (by rw [htold.flags .mbx (by decide)])))
    · exact ⟨fun hb => hnodes.trans ((hnodesSome sl hsl).1 hb), fun hb => hnodes.trans ((hnodesSome sl hsl).2 hb)⟩
  · intro f s hmark hkind hrole hstate n p active shadow fresh hstarts hnames harmed hswap
    have hswaps : Swaps f s := ⟨hnames, harmed, hswap⟩
    have hexec := exec_cycleStart_follower hmark hkind hrole
    refine ⟨_, hexec, fun hslot => ?_, fun sl hsl hnotListen length hlength hn hlate hb => ?_⟩
    · obtain ⟨z, haccept, hzSched, hzSlot, hzNodes⟩ := acceptCs_swaps_none (n := n) hswaps hslot hstate hstarts
      obtain ⟨hseq, hnodes⟩ := compareBanks_swaps_none n ((swaps_congr hzSched).mpr hswaps) hzSlot
      rw [shadowBank_congr hzSched] at hseq
      exact ⟨(congrArg State.seq haccept).trans hseq, (congrArg State.nodes haccept).trans (hnodes.trans hzNodes)⟩
    · obtain ⟨z, haccept, hzSched, hzSlot, hzNodes⟩ := acceptCs_swaps_some (n := n) hswaps hsl
        (by obtain h | h | h | h := hb <;> simp [h]) (hstate.resolve_left hnotListen).1 hlength hn hlate
      obtain ⟨hfits, hends⟩ := compareBanks_swaps_some (n := n) ((swaps_congr hzSched).mpr hswaps) hzSlot hb
      rw [shadowBank_congr hzSched] at hfits hends
      refine ⟨fun h => ?_, fun h => ?_⟩
      · obtain ⟨hseq, hnodes⟩ := hfits h
        exact ⟨(congrArg State.seq haccept).trans hseq, (congrArg State.nodes haccept).trans (hnodes.trans hzNodes)⟩
      · obtain ⟨hseq, hnodes⟩ := hends h
        refine ⟨(congrArg State.seq haccept).trans hseq, (congrArg State.nodes haccept).trans (hnodes.trans ?_)⟩
        split
        · exact nodes_nodeMissed_congr sl.source hzNodes
        · exact hzNodes

end Sys2Proof.Machine
end

section
/-! # A jump that reaches 28 (R31, R32, R55, R57, R58, R59, R61, R62, R82) -/

open Sys2Proof

namespace Sys2Proof.Machine

variable {f : Frame} {s : State}

/-! ### The state in which the jump reaches 28 -/

/-- The resync of a frame of 28 characters takes an early boundary (R30). -/
abbrev earlyAt28 (length : Nat) (s : State) : Bool :=
  s.link.state != .listen && decide (28 ≤ s.timer.position) && decide (length ≤ 2 * (s.timer.position - 28))

/-- The next index at which a jump reaches 28. -/
abbrev indexAt28 (length : Nat) (s : State) : Nat :=
  if s.link.state = .listen ∨ earlyAt28 length s = true then 0 else s.seq.nextIndex

/-- The cycle number in which a resync reaches 28. -/
abbrev cycleAt28 (length : Nat) (s : State) : Word :=
  if earlyAt28 length s then s.timer.cycle + 1 else s.timer.cycle

/-- The state in which a follower's jump reaches 28, with no slot open; and the state that the bank comparison is given. -/
structure Arrives (f : Frame) (length : Nat) (s : State) (swapping : Bool) (v z : State) : Prop where
  accept : acceptCs f 28 (toldState s) = compareBanks f 28 z
  recorded : Recorded (reachOffset swapping 28 v) z
  slot : v.seq.slot = none
  tx : v.tx = none
  hunt : v.rx.assembly = .hunt
  index : v.seq.nextIndex = indexAt28 length s
  sched : v.sched = s.sched
  link : v.link = s.link
  params : v.params = s.params
  line : v.line.level = .idle
  position : v.timer.position = 28
  running : s.link.state = .running → v.timer.cycle = cycleAt28 length s ∧ (swapping = true ↔ Swaps f s)
  boxes : ∀ (m : Fin 24) (b : TxMailbox), s.boxes[m] = .tx b → ∃ o, v.boxes[m] = .tx { b with lastOutcome := o }
  kept : earlyAt28 length s = false → v.boxes = s.boxes ∧ v.nodes = s.nodes

theorem toldState_frame (s : State) : (toldState s).params = s.params ∧ (toldState s).line.level = .idle ∧
    (toldState s).rx.assembly = .hunt ∧ (toldState s).tx = s.tx ∧ (toldState s).timer = s.timer ∧
    (toldState s).sched = s.sched ∧ (toldState s).seq.nextIndex = s.seq.nextIndex ∧ (toldState s).link = s.link ∧
    (toldState s).boxes = s.boxes := by
  simp [afterMark]

theorem range'_through (first : Nat) (h : first ≤ 28) :
    List.range' first (28 + 1 - first) = List.range' first (28 - first) ++ [28] := by
  rw [show 28 + 1 - first = (28 - first) + 1 by omega, List.range'_concat]
  congr 2
  omega

/-- Before 28 nothing starts where the entry at the next index starts at 28. -/
theorem noEntryAt_before {e : Entry} {q : Nat} (he : (scheduleOf s)[s.seq.nextIndex]? = some e) (hstart : e.start = 28)
    (hq : q ≠ 28) : NoEntryAt q s := by
  intro e' he' heq
  obtain rfl := Option.some.inj (he.symm.trans he')
  rw [hstart] at heq
  exact hq heq.symm

theorem arrives_listen {e : Entry} (length : Nat) (hmark : ClosingMark f s) (hlisten : s.link.state = .listen)
    (hslot : s.seq.slot = none) (he : (scheduleOf s)[0]? = some e) (hstart : e.start = 28) :
    ∃ v z, Arrives f length s false v z := by
  have hearly : earlyAt28 length s = false := by simp [earlyAt28, hlisten]
  have htold : toldState s = afterMark s := toldState_of_slot_none hslot
  have hbegun : (listenBegun f 28 (afterMark s)).seq.slot = none := hslot
  obtain ⟨hquiet, hindex⟩ := quiet_reachAll_absent (swapping := false) (qs := List.range' 0 28)
    (s := listenBegun f 28 (afterMark s))
    (fun q _ sl hsl => by cases hbegun.symm.trans hsl)
    (fun q hq => noEntryAt_before (s := listenBegun f 28 (afterMark s)) he hstart (by
      have := (List.mem_range'_1.mp hq).2
      omega))
  have hreach : startFromListen f 28 (afterMark s) =
      reachOffset false 28 (reachAll false (List.range' 0 28) (listenBegun f 28 (afterMark s))) := by
    rw [startFromListen_eq, ← reachAll_append]
    rfl
  refine ⟨_, started f 28 (afterMark s), ?_, hreach ▸ started_recorded f 28 (afterMark s), hquiet.slot.trans hslot,
    hquiet.tx.trans hmark.2.1, by rw [hquiet.rx]; rfl, hindex.trans ?_, ?_, ?_, ?_, ?_, ?_, ?_, ?_, ?_⟩
  · rw [htold]
    exact acceptCs_listen 28 hlisten
  · rw [indexAt28, if_pos (.inl hlisten)]
    rfl
  · simp [listenBegun, setPosition, afterMark, clearFired]
  · simp [listenBegun, setPosition, afterMark, clearFired]
  · simp [listenBegun, setPosition, afterMark, clearFired]
  · simp [listenBegun, setPosition, afterMark, clearFired]
  · simp [listenBegun, setPosition, afterMark, clearFired]
  · intro hrunning
    rw [hlisten] at hrunning
    cases hrunning
  · intro m b hb
    exact ⟨b.lastOutcome, by rw [hquiet.boxes]; exact hb⟩
  · intro _
    exact ⟨hquiet.boxes, hquiet.nodes⟩

/-- A jump without an early boundary, from a position below 28. -/
theorem arrives_late {e : Entry} {length : Nat} (hmark : ClosingMark f s) (hcyclic : s.link.state = .align ∨ s.link.state = .running)
    (hlength : s.timer.length = some length) (hbelow : s.timer.position < 28)
    (hslot : s.seq.slot = none) (he : (scheduleOf s)[s.seq.nextIndex]? = some e) (hstart : e.start = 28) :
    ∃ v z, Arrives f length s (frameSwaps f (afterMark s)) v z := by
  have hearly : earlyAt28 length s = false := by
    simp only [earlyAt28, Bool.and_eq_false_iff, decide_eq_false_iff_not]
    omega
  have hnotListen : s.link.state ≠ .listen := by obtain h | h := hcyclic <;> simp [h]
  have hlate : belongsToNext s.timer.position 28 length = false := by
    simp only [belongsToNext, Bool.and_eq_false_iff, decide_eq_false_iff_not]
    omega
  have htold : toldState s = afterMark s := toldState_of_slot_none hslot
  have hbegun : (setPosition 28 (afterMark s)).seq.slot = none := hslot
  have hoffsets : jumpOffsets s.timer.position 28 length = List.range' (s.timer.position + 1) (28 - (s.timer.position + 1)) ++ [28] := by
    rw [← range'_through _ (by omega), jumpOffsets, hlate]
    rfl
  obtain ⟨hquiet, hindex⟩ := quiet_reachAll_absent (swapping := frameSwaps f (afterMark s))
    (qs := List.range' (s.timer.position + 1) (28 - (s.timer.position + 1))) (s := setPosition 28 (afterMark s))
    (fun q _ sl hsl => by cases hbegun.symm.trans hsl)
    (fun q hq => noEntryAt_before (s := setPosition 28 (afterMark s)) he hstart (by
      have := (List.mem_range'_1.mp hq).2
      omega))
  have hreach : jumped f 28 length (afterMark s) = reachOffset (frameSwaps f (afterMark s)) 28
      (reachAll (frameSwaps f (afterMark s)) (List.range' (s.timer.position + 1) (28 - (s.timer.position + 1)))
        (setPosition 28 (afterMark s))) := by
    have hresync : resyncBegun 28 length (afterMark s) = setPosition 28 (afterMark s) :=
      congrArg (setPosition 28) (if_neg (ne_true_of_eq_false hlate))
    rw [jumped, hresync, ← reachAll_append, ← hoffsets]
    rfl
  refine ⟨_, resynced f 28 length (afterMark s), ?_, hreach ▸ resynced_recorded f 28 length (afterMark s),
    hquiet.slot.trans hslot, hquiet.tx.trans hmark.2.1, by rw [hquiet.rx]; rfl, hindex.trans ?_, ?_, ?_, ?_, ?_, ?_, ?_, ?_, ?_⟩
  · rw [htold]
    exact acceptCs_cyclic 28 hcyclic hlength
  · rw [indexAt28, if_neg (by simp [hnotListen, hearly])]
    rfl
  · simp [setPosition, afterMark]
  · simp [setPosition, afterMark]
  · simp [setPosition, afterMark]
  · simp [setPosition, afterMark]
  · simp [setPosition, afterMark]
  · intro _
    refine ⟨?_, ?_⟩
    · rw [cycleAt28, hearly]
      simp [setPosition, afterMark]
    · exact (frameSwaps_iff f (afterMark s)).trans (swaps_congr rfl)
  · intro m b hb
    exact ⟨b.lastOutcome, by rw [hquiet.boxes]; exact hb⟩
  · intro _
    exact ⟨hquiet.boxes, hquiet.nodes⟩

/-- A jump with an early boundary. -/
theorem arrives_early {e : Entry} {length : Nat} (hmark : ClosingMark f s) (hcyclic : s.link.state = .align ∨ s.link.state = .running)
    (hlength : s.timer.length = some length) (hearly : earlyAt28 length s = true)
    (he : (scheduleOf s)[0]? = some e) (hstart : e.start = 28) :
    ∃ v z, Arrives f length s (frameSwaps f (toldState s)) v z := by
  obtain ⟨hparams, hline, hrx, htx, htimer, hsched, hnext, hlink, hboxes⟩ := toldState_frame s
  have hnextCycle : belongsToNext (toldState s).timer.position 28 length = true := by
    rw [htimer, belongsToNext]
    simp only [earlyAt28, Bool.and_eq_true, bne_iff_ne] at hearly
    rw [hearly.1.2, hearly.2]
    rfl
  obtain ⟨v, hends, hindex, hvSched, hvLink, hvParams, hvLine, hvCycle, hvPosition, hjump⟩ := jumped_early (f := f) (n := 28)
    hnextCycle (notReceiving_toldState s) fun q hq e' he' => by
      rw [scheduleOf_congr hsched] at he'
      obtain rfl := Option.some.inj (he.symm.trans he')
      rw [hstart]
      change 28 ≠ q
      omega
  refine ⟨v, resynced f 28 length (toldState s), acceptCs_cyclic 28 (by rw [hlink]; exact hcyclic) (by rw [htimer]; exact hlength),
    hjump ▸ resynced_recorded f 28 length (toldState s), hends.slot, hends.tx.trans (htx.trans hmark.2.1),
    by rw [hends.rx]; exact hrx, ?_, hvSched.trans hsched, hvLink.trans hlink, hvParams.trans hparams, hvLine.trans hline,
    hvPosition, fun _ => ⟨?_, ?_⟩, fun m b hb => ?_, fun hlate => ?_⟩
  · rw [hindex, indexAt28, if_pos (.inr hearly)]
  · rw [hvCycle, cycleAt28, if_pos hearly, htimer]
  · exact (frameSwaps_iff f (toldState s)).trans (swaps_congr hsched)
  · have hbox := hends.refuses.boxes m
    rw [hboxes, hb] at hbox
    refine ⟨if namesMailbox (refusedEntries (toldState s)) m then .blocked else b.lastOutcome, hbox.trans ?_⟩
    rw [Mailbox.blockedIf]
    split <;> rfl
  · exact Bool.noConfusion (hearly.symm.trans hlate)

/-! ### The entry at the offset reached -/

/-- An entry that is passed over at the offset reached leaves no slot and no frame. -/
theorem reachOffset_passes {e : Entry} {swapping : Bool} (hslot : s.seq.slot = none)
    (he : (scheduleOf s)[s.seq.nextIndex]? = some e) (hnot : ¬OpensAt swapping e s) :
    Quiet s (reachOffset swapping e.start.toNat s) := by
  rw [reachOffset_passed swapping he hnot fun sl hsl => by cases hslot.symm.trans hsl]
  exact quiet_firePoints _ _ s

/-- The body of the slot that an entry opens (R61, R63, R68). -/
abbrev bodyOf (e : Entry) : SlotBody :=
  if e.kind = 0x01 then .transmit else if e.kind = 0x02 then .receive .awaiting false else .openWindow

theorem openEntry_slot {e : Entry} (i : Nat) (hslot : s.seq.slot = none) (hkind : e.kind = 0x01 ∨ e.kind = 0x02 ∨ e.kind = 0x03) :
    (openEntry i e s).seq.slot = some (slotOf i e (bodyOf e)) ∧ (e.kind ≠ 0x01 → (openEntry i e s).tx = s.tx) := by
  obtain hk | hk := hkind
  · rw [openEntry_transmit hk, closeForOpening_none hslot, bodyOf, if_pos hk]
    exact ⟨slot_admitTransmit rfl rfl, fun hne => absurd hk hne⟩
  · have hne : e.kind ≠ 0x01 := by
      obtain h | h := hk <;> simp [h]
    rw [bodyOf, if_neg hne, openEntry_listens hk, closeForOpening_none hslot]
    exact ⟨rfl, fun _ => rfl⟩

theorem reachOffset_slot {e : Entry} {swapping : Bool} (hslot : s.seq.slot = none)
    (he : (scheduleOf s)[s.seq.nextIndex]? = some e) (hopens : OpensAt swapping e s)
    (hkind : e.kind = 0x01 ∨ e.kind = 0x02 ∨ e.kind = 0x03) :
    (reachOffset swapping e.start.toNat s).seq.slot = some (slotOf s.seq.nextIndex e (bodyOf e)) ∧
      (e.kind ≠ 0x01 → (reachOffset swapping e.start.toNat s).tx = s.tx) := by
  obtain ⟨hopened, htx⟩ := openEntry_slot s.seq.nextIndex hslot hkind
  rw [reachOffset_opens swapping he hopens fun sl hsl => by cases hslot.symm.trans hsl]
  exact ⟨by simpa using hopened, fun hne => by simpa using htx hne⟩

/-- What a TRANSMIT entry that opens on an idle line does with its mailbox (R61, R62, R106). -/
theorem reachOffset_transmit {e : Entry} {swapping : Bool} {m : Fin 24} {b : TxMailbox} (hslot : s.seq.slot = none)
    (htx : s.tx = none) (hrx : s.rx.assembly = .hunt) (hline : s.line.level = .idle)
    (he : (scheduleOf s)[s.seq.nextIndex]? = some e) (hopens : OpensAt swapping e s) (hkind : e.kind = 0x01)
    (hm : e.mailbox.toNat = m.val) (hb : s.boxes[m] = .tx b) :
    let frame := mailboxFrame .slotData b s
    let t := reachOffset swapping e.start.toNat s
    (s.link.silent = true ∨ b.state ≠ .loaded → t.tx = none) ∧
    (s.link.silent = false → b.state = .loaded → frame.stuffedLength s.params ≤ e.window.toNat →
      t.tx = some { requester := .slot m, chars := frame.characters s.params, index := 0, collided := false } ∧
        t.boxes = put s.boxes m (.tx { b with state := .locked })) ∧
    (s.link.silent = false → b.state = .loaded → e.window.toNat < frame.stuffedLength s.params →
      t.tx = none ∧ t.irq.attention.getLsbD m = true ∧ flagSet .slot t = true ∧ flagSet .mbx t = true ∧
        t.boxes = put s.boxes m (.tx { b with lastOutcome := .oversize })) := by
  intro frame t
  let v := setSlot (slotOf s.seq.nextIndex e .transmit) s
  have hnoEnd : ∀ sl ∈ s.seq.slot, sl.finish = e.start.toNat → sl.isExtended = true := fun sl hsl => by
    cases hslot.symm.trans hsl
  have hreach : t = firePoints e.start.toNat
      { admitTransmit e v with seq := { (admitTransmit e v).seq with nextIndex := s.seq.nextIndex + 1 } } := by
    rw [show t = reachOffset swapping e.start.toNat s from rfl, reachOffset_opens swapping he hopens hnoEnd,
      openEntry_transmit hkind, closeForOpening_none hslot]
  have hidle : lineBusy v = false := by simp [lineBusy, v, setSlot, hline]
  rw [hreach]
  refine ⟨fun hwithheld => ?_, fun hsilent hloaded hfits => ?_, fun hsilent hloaded hover => ?_⟩
  · rw [admitTransmit_withheld (s := v) hm hb hwithheld]
    simpa [v, setSlot] using htx
  · have hbegin : admitTransmit e v =
        beginFrame (.slot m) frame { v with boxes := put v.boxes m (.tx { b with state := .locked }) } := by
      rw [admitTransmit_loaded (s := v) hsilent htx hm hb hloaded, hidle, if_neg Bool.false_ne_true,
        if_neg (show ¬e.window.toNat < (mailboxFrame .slotData b v).stuffedLength v.params from not_lt.mpr hfits)]
      rfl
    rw [hbegin, beginFrame_hunt (by exact hrx)]
    exact ⟨by simp; rfl, by simp; rfl⟩
  · have hrefuse : admitTransmit e v = refuseSend m .oversize v := by
      rw [admitTransmit_loaded (s := v) hsilent htx hm hb hloaded, hidle, if_neg Bool.false_ne_true,
        if_pos (show e.window.toNat < (mailboxFrame .slotData b v).stuffedLength v.params from hover)]
    obtain ⟨hslotFlag, hmbxFlag⟩ := flagSet_refuseSend m .oversize v
    have hset (g : Flag) (hg : flagSet g (refuseSend m .oversize v) = true) :
        flagSet g (firePoints e.start.toNat { refuseSend m .oversize v with
          seq := { (refuseSend m .oversize v).seq with nextIndex := s.seq.nextIndex + 1 } }) = true :=
      (marks_firePoints _ _).set g hg
    rw [hrefuse]
    refine ⟨by simpa [v, setSlot] using htx, ?_, hset .slot hslotFlag, hset .mbx hmbxFlag, ?_⟩
    · simp only [firePoints_frame, refuseSend_eq (s := v) hb]
      simp
    · simp only [firePoints_frame, refuseSend_eq (s := v) hb]
      rfl

end Sys2Proof.Machine
end

section
/-! # The entry at 28 and the bank comparison after it (R32, R57, R58, R61, R82; log entry 11) -/

open Sys2Proof

namespace Sys2Proof.Machine

variable {f : Frame} {s v z : State} {e : Entry} {length : Nat} {swapping : Bool}

/-! ### The bank comparison and the sequencer -/

theorem seq_compareBanks_names (n : Nat) (h : NamesSchedule (activeBank s) f) : (compareBanks f n s).seq = s.seq := by
  rw [compareBanks_names n h]
  simp

theorem nextIndex_compareBanks (n : Nat) (hno : ¬Swaps f s) : (compareBanks f n s).seq.nextIndex = s.seq.nextIndex := by
  by_cases hnames : NamesSchedule (activeBank s) f
  · rw [seq_compareBanks_names n hnames]
  · rw [compareBanks_aligns n hnames hno]
    simp

/-! ### What the arrival says of the entry -/

/-- The entry at 28 opens: in RUNNING, without a swap, active in the cycle that the resync gives (R31, R41, R57). -/
abbrev OpensAt28 (f : Frame) (length : Nat) (e : Entry) (s : State) : Prop :=
  s.link.state = .running ∧ ¬Swaps f s ∧ (cycleAt28 length s).toNat % 2 ^ e.exponent.toNat = e.phase.toNat

theorem Arrives.opensAt_iff (h : Arrives f length s swapping v z) (e : Entry) :
    OpensAt swapping e v ↔ OpensAt28 f length e s := by
  rw [OpensAt, OpensAt28, h.link]
  refine and_congr_right fun hrunning => ?_
  obtain ⟨hcycle, hswapping⟩ := h.running hrunning
  rw [hcycle, activeIn_iff, ← hswapping, Bool.not_eq_true]

theorem Arrives.recorded_frame (h : Arrives f length s swapping v z) :
    z.sched = s.sched ∧ z.link = s.link ∧ z.timer.position = 28 := by
  refine ⟨h.recorded.sched.trans ?_, h.recorded.link.trans ?_, h.recorded.position.trans ?_⟩
  · simp [h.sched]
  · simp [h.link]
  · simp [h.position]

theorem Arrives.swaps_iff (h : Arrives f length s swapping v z) : Swaps f z ↔ Swaps f s := swaps_congr h.recorded_frame.1

theorem Arrives.entry (h : Arrives f length s swapping v z) (he : (scheduleOf s)[indexAt28 length s]? = some e) :
    (scheduleOf v)[v.seq.nextIndex]? = some e := by
  rw [scheduleOf_congr h.sched, h.index, he]

/-- The entry is passed over: no slot, no frame, and no mailbox beside those of the early boundary. -/
theorem Arrives.passes (h : Arrives f length s swapping v z) (he : (scheduleOf s)[indexAt28 length s]? = some e)
    (hstart : e.start.toNat = 28) (hnot : ¬OpensAt28 f length e s) :
    z.seq.slot = none ∧ z.tx = none ∧ z.boxes = v.boxes ∧ z.nodes = v.nodes := by
  have hquiet := reachOffset_passes (swapping := swapping) h.slot (h.entry he) (mt (h.opensAt_iff e).mp hnot)
  rw [hstart] at hquiet
  exact ⟨(congrArg Sequencer.slot h.recorded.seq).trans (hquiet.slot.trans h.slot), h.recorded.tx.trans (hquiet.tx.trans h.tx),
    h.recorded.boxes.trans hquiet.boxes, h.recorded.nodes.trans hquiet.nodes⟩

/-- With the entry passed over or without a swap, the bank comparison leaves mailboxes, nodes and the transmitter. -/
theorem Arrives.compared (h : Arrives f length s swapping v z) (he : (scheduleOf s)[indexAt28 length s]? = some e)
    (hstart : e.start.toNat = 28) : Compared z (compareBanks f 28 z) :=
  compareBanks_compared 28 fun hswaps =>
    (h.passes he hstart fun hopens => hopens.2.1 (h.swaps_iff.mp hswaps)).1

theorem Arrives.nextIndex (h : Arrives f length s swapping v z) (he : (scheduleOf s)[indexAt28 length s]? = some e)
    (hstart : e.start.toNat = 28) (hno : ¬Swaps f s) :
    (compareBanks f 28 z).seq.nextIndex = indexAt28 length s + 1 := by
  rw [nextIndex_compareBanks 28 (mt h.swaps_iff.mp hno), h.recorded.seq, reachOffset_nextIndex swapping 28 (h.entry he),
    if_pos hstart, h.index]

/-- The entry opens as a slot, and an entry that is no TRANSMIT begins no frame. -/
theorem Arrives.opens (h : Arrives f length s swapping v z) (he : (scheduleOf s)[indexAt28 length s]? = some e)
    (hstart : e.start.toNat = 28) (hopens : OpensAt28 f length e s) (hkind : e.kind = 0x01 ∨ e.kind = 0x02 ∨ e.kind = 0x03) :
    z.seq.slot = some (slotOf (indexAt28 length s) e (bodyOf e)) ∧ (e.kind ≠ 0x01 → z.tx = none) := by
  obtain ⟨hslot, htx⟩ := reachOffset_slot (swapping := swapping) h.slot (h.entry he) ((h.opensAt_iff e).mpr hopens) hkind
  rw [hstart] at hslot htx
  rw [h.index] at hslot
  exact ⟨(congrArg Sequencer.slot h.recorded.seq).trans hslot, fun hne => h.recorded.tx.trans ((htx hne).trans h.tx)⟩

/-- What a TRANSMIT entry that opens at 28 does with its mailbox (R61, R62, R106). -/
theorem Arrives.transmits (h : Arrives f length s swapping v z) (he : (scheduleOf s)[indexAt28 length s]? = some e)
    (hstart : e.start.toNat = 28) (hopens : OpensAt28 f length e s) (hkind : e.kind = 0x01) {m : Fin 24} {b : TxMailbox}
    (hm : e.mailbox.toNat = m.val) (hb : s.boxes[m] = .tx b) :
    let frame := mailboxFrame .slotData b s
    (s.link.silent = true ∨ b.state ≠ .loaded → z.tx = none) ∧
    (s.link.silent = false → b.state = .loaded → frame.stuffedLength s.params ≤ e.window.toNat →
      z.tx = some { requester := .slot m, chars := frame.characters s.params, index := 0, collided := false } ∧
        (earlyAt28 length s = false → z.boxes = put s.boxes m (.tx { b with state := .locked }))) ∧
    (s.link.silent = false → b.state = .loaded → e.window.toNat < frame.stuffedLength s.params →
      z.tx = none ∧ z.irq.attention.getLsbD m = true ∧ flagSet .slot z = true ∧ flagSet .mbx z = true ∧
        (earlyAt28 length s = false → z.boxes = put s.boxes m (.tx { b with lastOutcome := .oversize }))) := by
  intro frame
  obtain ⟨o, ho⟩ := h.boxes m b hb
  have hframe : mailboxFrame .slotData { b with lastOutcome := o } v = frame := by
    simp only [frame, mailboxFrame, h.params]
  obtain ⟨hwithheld, hbegins, hrefused⟩ := reachOffset_transmit (swapping := swapping) h.slot h.tx h.hunt h.line (h.entry he)
    ((h.opensAt_iff e).mpr hopens) hkind hm ho
  have hbox (hlate : earlyAt28 length s = false) : { b with lastOutcome := o } = b ∧ v.boxes = s.boxes := by
    obtain ⟨hboxes, -⟩ := h.kept hlate
    rw [hboxes, hb] at ho
    exact ⟨(Mailbox.tx.inj ho).symm, hboxes⟩
  rw [hstart, h.link] at hwithheld hbegins hrefused
  rw [hframe, h.params] at hbegins hrefused
  have hr := h.recorded
  refine ⟨fun hw => hr.tx.trans (hwithheld hw), fun hsilent hloaded hfits => ?_, fun hsilent hloaded hover => ?_⟩
  · obtain ⟨htx, hboxes⟩ := hbegins hsilent hloaded hfits
    refine ⟨hr.tx.trans htx, fun hlate => hr.boxes.trans ?_⟩
    obtain ⟨hsame, hkept⟩ := hbox hlate
    rw [hboxes, hkept]
    exact congrArg (fun b : TxMailbox => put s.boxes m (.tx { b with state := .locked })) hsame
  · obtain ⟨htx, hattention, hslotFlag, hmbxFlag, hboxes⟩ := hrefused hsilent hloaded hover
    refine ⟨hr.tx.trans htx, hr.attention ▸ hattention, hr.slotFlag.trans hslotFlag, hr.mbxFlag.trans hmbxFlag,
      fun hlate => hr.boxes.trans ?_⟩
    rw [hboxes, (hbox hlate).2]

/-! ### O38 -/

theorem exists_arrives (hmark : ClosingMark f s)
    (hstate : s.link.state = .listen ∨ (s.link.state = .align ∨ s.link.state = .running) ∧ s.timer.length = some length)
    (hway : s.link.state = .listen ∨ earlyAt28 length s = true ∨ s.timer.position < 28)
    (hslot : s.seq.slot = none ∨ earlyAt28 length s = true)
    (he : (scheduleOf s)[indexAt28 length s]? = some e) (hstart : e.start = 28) :
    ∃ swapping v z, Arrives f length s swapping v z := by
  obtain hlisten | ⟨hcyclic, hlength⟩ := hstate
  · have hlate : ¬earlyAt28 length s = true := by simp [earlyAt28, hlisten]
    rw [indexAt28, if_pos (.inl hlisten)] at he
    exact ⟨_, arrives_listen length hmark hlisten (hslot.resolve_right hlate) he hstart⟩
  have hnotListen : s.link.state ≠ .listen := by
    obtain h | h := hcyclic <;> simp [h]
  by_cases hearly : earlyAt28 length s = true
  · rw [indexAt28, if_pos (.inr hearly)] at he
    exact ⟨_, arrives_early hmark hcyclic hlength hearly he hstart⟩
  · rw [indexAt28, if_neg (not_or_intro hnotListen hearly)] at he
    exact ⟨_, arrives_late hmark hcyclic hlength ((hway.resolve_left hnotListen).resolve_left hearly)
      (hslot.resolve_right hearly) he hstart⟩

/-- Settles O38: the offsets before 28 leave the entry at 28 to the last one reached; what it does there passes the record of
the frame and the bank comparison, which closes the slot with the change to ALIGN. -/
theorem jumpReaches28 : Obligations.JumpReaches28 := by
  intro f s length e hmark hkind hrole hstate hcount p early first cycle active shadow swaps opens slot hway hslot he hstart hentry
  obtain ⟨swapping, v, z, h⟩ := exists_arrives (length := length) hmark hstate hway hslot he hstart
  have hat : e.start.toNat = 28 := by rw [hstart]; rfl
  have hcompared := h.compared he hat
  obtain ⟨hsched, hlink, hposition⟩ := h.recorded_frame
  have hactive : activeBank z = active := activeBank_congr hsched
  have hexec := exec_cycleStart_follower hmark hkind hrole
  rw [hcount, h.accept] at hexec
  have hopened (hopens : opens) := h.opens he hat hopens hentry
  refine ⟨_, hexec, ?_, ?_, ?_, ?_, ?_, ?_, ?_⟩
  · simp [compareBanks_timer, hposition]
  · intro hno
    simpa using h.nextIndex he hat hno
  · intro hnot
    obtain ⟨hnone, htx, hboxes, hnodes⟩ := h.passes he hat hnot
    refine ⟨by simpa using hcompared.slot hnone, by simpa using hcompared.tx.trans htx, fun hlate => ?_⟩
    obtain ⟨hkeptBoxes, hkeptNodes⟩ := h.kept hlate
    exact ⟨by simpa using hcompared.boxes.trans (hboxes.trans hkeptBoxes),
      by simpa using hcompared.nodes.trans (hnodes.trans hkeptNodes)⟩
  · intro hopens hnames
    rw [← hactive] at hnames
    refine ⟨by simpa using (compareBanks_of_names 28 hnames).1, ?_⟩
    have hslotOf : slotOf first e (bodyOf e) = slot (bodyOf e) := by simp [slotOf, slot, Entry.finish, hat]
    have hseq : (settleWait (compareBanks f 28 z)).seq = (compareBanks f 28 z).seq := by simp
    rw [← hslotOf]
    exact (congrArg Sequencer.slot hseq).trans <| (congrArg Sequencer.slot (seq_compareBanks_names 28 hnames)).trans (hopened hopens).1
  · intro hopens hnames
    rw [← hactive] at hnames
    obtain ⟨halign, -, henters⟩ := compareBanks_of_aligns 28 hnames (mt h.swaps_iff.mp hopens.2.1)
    have hnone := (henters (by rw [hlink, hopens.1]; exact LinkState.noConfusion)).1
    exact ⟨by simpa using halign, by simpa using hnone⟩
  · intro hne
    have htx : z.tx = none := by
      by_cases hopens : opens
      · exact (hopened hopens).2 hne
      · exact (h.passes he hat hopens).2.1
    simpa using hcompared.tx.trans htx
  · intro hopens hk m b hm hb frame
    obtain ⟨hwithheld, hbegins, hrefused⟩ := h.transmits he hat hopens hk hm hb
    refine ⟨fun hw => ?_, fun hsilent hloaded hfits => ?_, fun hsilent hloaded hover => ?_⟩
    · simpa using hcompared.tx.trans (hwithheld hw)
    · obtain ⟨htx, hboxes⟩ := hbegins hsilent hloaded hfits
      have hkept : (settleWait (compareBanks f 28 z)).tx = (compareBanks f 28 z).tx := by simp
      exact ⟨hkept.trans (hcompared.tx.trans htx), fun hlate => by simpa using hcompared.boxes.trans (hboxes hlate)⟩
    · obtain ⟨htx, hattention, hslotFlag, hmbxFlag, hboxes⟩ := hrefused hsilent hloaded hover
      refine ⟨by simpa using hcompared.tx.trans htx, ?_, ?_, ?_, fun hlate => by simpa using hcompared.boxes.trans (hboxes hlate)⟩
      · simpa [hcompared.attention] using hattention
      · exact (flagSet_congr (by simp) .slot).trans (hcompared.slotFlag.trans hslotFlag)
      · exact (flagSet_congr (by simp) .mbx).trans (hcompared.mbxFlag.trans hmbxFlag)

end Sys2Proof.Machine
end

section
/-! # The wait of the event head through the operations of the model (R111, R113)

The head waits in an open window alone. Through every operation its count goes on only while head and slot stay; a wait that
begins, begins from 0. -/

open Sys2Proof

namespace Sys2Proof.Machine

variable {s t u : State}

/-! ### The count of the wait -/

/-- A wait belongs to an open window and to a head of the queue (R111). -/
def WaitsInWindow (s : State) : Prop := s.queue.wait ≠ none → openWindowOpen s = true ∧ s.queue.entries ≠ []

/-- The count of a wait is 0, or that of the same head in the same slot. -/
def CountGoesOn (s t : State) : Prop :=
  ∀ k, t.queue.wait = some k → k = 0 ∨
    s.queue.wait = some k ∧ t.queue.entries.head? = s.queue.entries.head? ∧ t.seq.slot = s.seq.slot

/-- An operation keeps the wait in its window, and its count with its head and its slot. -/
def KeepsWait (s t : State) : Prop := WaitsInWindow s → WaitsInWindow t ∧ CountGoesOn s t

theorem KeepsWait.trans (h : KeepsWait s t) (h' : KeepsWait t u) : KeepsWait s u := fun hs => by
  obtain ⟨ht, hcount⟩ := h hs
  obtain ⟨hu, hcount'⟩ := h' ht
  refine ⟨hu, fun k hk => ?_⟩
  obtain hzero | ⟨hwait, hhead, hslot⟩ := hcount' k hk
  · exact .inl hzero
  · exact (hcount k hwait).imp_right fun ⟨hwait, hhead', hslot'⟩ => ⟨hwait, hhead.trans hhead', hslot.trans hslot'⟩

theorem openWindowOpen_congr (h : t.seq.slot = s.seq.slot) : openWindowOpen t = openWindowOpen s := by
  rw [openWindowOpen, openWindowOpen, h]

theorem KeepsWait.of_same (hqueue : t.queue = s.queue) (hslot : t.seq.slot = s.seq.slot) : KeepsWait s t := fun hs => by
  refine ⟨?_, fun k hk => .inr ⟨hqueue ▸ hk, by rw [hqueue], hslot⟩⟩
  rw [WaitsInWindow, hqueue, openWindowOpen_congr hslot]
  exact hs

theorem KeepsWait.after_same (h : KeepsWait u t) (hqueue : u.queue = s.queue) (hslot : u.seq.slot = s.seq.slot) :
    KeepsWait s t := (KeepsWait.of_same hqueue hslot).trans h

theorem KeepsWait.refl (s : State) : KeepsWait s s := .of_same rfl rfl

theorem KeepsWait.of_none (h : t.queue.wait = none) : KeepsWait s t := fun _ =>
  ⟨fun hne => absurd h hne, fun k hk => by cases h.symm.trans hk⟩

theorem WaitsInWindow.wait_none (h : WaitsInWindow s) (hclosed : openWindowOpen s = false) : s.queue.wait = none := by
  by_contra hne
  exact Bool.noConfusion (hclosed.symm.trans (h hne).1)

/-- Where no window is open there is no wait to keep. -/
theorem KeepsWait.of_closed (hclosed : openWindowOpen s = false) (hqueue : t.queue = s.queue) : KeepsWait s t := fun hs =>
  KeepsWait.of_none (by rw [hqueue]; exact hs.wait_none hclosed) hs

theorem openWindowOpen_receive {sl : Slot} {sub : ReceiveSub} {extended : Bool} (hsl : s.seq.slot = some sl)
    (hb : sl.body = .receive sub extended) : openWindowOpen s = false := by
  simp [openWindowOpen, hsl, hb]

theorem keepsWait_closeSlot (s : State) : KeepsWait s (closeSlot s) := .of_none rfl

theorem keepsWait_missed (a : Byte) (s : State) : KeepsWait s (nodeMissed a (closeSlot s)) := .of_none (by simp [closeSlot])

theorem entries_of_headMayWait (h : headMayWait s = true) : s.queue.entries ≠ [] := by
  intro hnil
  simp [headMayWait, headQueued, hnil] at h

theorem openWindowOpen_of_headMayWait (h : headMayWait s = true) : openWindowOpen s = true := ((headMayWait_iff s).mp h).1

/-- Settling begins a wait from 0, ends it, or lets it go on (R111). -/
theorem keepsWait_settleWait (s : State) : KeepsWait s (settleWait s) := fun _ => by
  cases hmay : headMayWait s with
  | false => exact ⟨fun hne => absurd (by simp [settleWait, hmay]) hne, fun k hk => by simp [settleWait, hmay] at hk⟩
  | true =>
    refine ⟨fun _ => ⟨openWindowOpen_of_headMayWait hmay, entries_of_headMayWait hmay⟩, fun k hk => ?_⟩
    have hgetD : s.queue.wait.getD 0 = k := by simpa [settleWait, hmay] using hk
    cases hwait : s.queue.wait with
    | none => exact .inl (by simpa [hwait] using hgetD.symm)
    | some c => exact .inr ⟨by simpa [hwait] using hgetD, rfl, rfl⟩

/-! ### The slots -/

theorem keepsWait_slotFrameOpened (s : State) : KeepsWait s (slotFrameOpened s) := by
  unfold slotFrameOpened
  split
  next sl hsl =>
    split
    next hb => exact .of_closed (openWindowOpen_receive hsl hb) rfl
    · exact .refl s
  · exact .refl s

theorem keepsWait_slotFrameEnded (s : State) : KeepsWait s (slotFrameEnded s) := by
  obtain ⟨-, heq⟩ | ⟨sl, hsl, hb, heq⟩ | ⟨sl, -, -, heq⟩ := slotFrameEnded_cases s <;> rw [heq]
  · exact .refl s
  · exact .of_closed (openWindowOpen_receive hsl hb) rfl
  · exact keepsWait_missed sl.source s

theorem keepsWait_lineError_ended (c : Counter) (s : State) :
    KeepsWait s (slotFrameEnded (lineError c { s with rx := Receiver.hunting })) :=
  .trans (.of_same (by simp) (by simp)) (keepsWait_slotFrameEnded _)

theorem keepsWait_abandonAssembly (c : Counter) (s : State) : KeepsWait s (abandonAssembly c s) := by
  obtain ⟨-, heq⟩ | ⟨-, heq⟩ := abandonAssembly_cases c s <;> rw [heq]
  · exact .refl s
  · exact keepsWait_lineError_ended c s

theorem keepsWait_beginFrame (r : Requester) (f : Frame) (s : State) : KeepsWait s (beginFrame r f s) :=
  (keepsWait_abandonAssembly .truncErr s).trans (.of_same rfl rfl)

theorem keepsWait_refuseSend (m : Fin 24) (o : LastOutcome) (s : State) : KeepsWait s (refuseSend m o s) :=
  .of_same (by simp) (by simp)

theorem keepsWait_updateTx (m : Fin 24) (g : TxMailbox → TxMailbox) (s : State) : KeepsWait s (updateTx m g s) :=
  .of_same (by simp) (by simp)

theorem keepsWait_admitTransmit (e : Entry) (s : State) : KeepsWait s (admitTransmit e s) := by
  unfold admitTransmit
  split
  · exact .refl s
  · split
    · exact .refl s
    · split
      · exact .refl s
      · split
        · exact .refl s
        · split
          · exact keepsWait_refuseSend _ _ s
          · split
            · exact keepsWait_refuseSend _ _ s
            · exact (keepsWait_updateTx _ _ s).trans (keepsWait_beginFrame _ _ _)

/-- An entry that opens finds no wait: the slot before it has closed. -/
theorem wait_closeForOpening (h : WaitsInWindow s) : (closeForOpening s).queue.wait = none := by
  unfold closeForOpening
  split
  next hnone => exact h.wait_none (by simp [openWindowOpen, hnone])
  · split
    · simp [closeSlot]
    · rfl

theorem keepsWait_openEntry (i : Nat) (e : Entry) (s : State) : KeepsWait s (openEntry i e s) := fun hs => by
  have hnone := wait_closeForOpening hs
  unfold openEntry
  split
  · exact KeepsWait.refl s hs
  · exact (KeepsWait.of_none (t := setSlot _ (closeForOpening s)) hnone).trans (keepsWait_admitTransmit e _) hs
  · exact KeepsWait.of_none (t := setSlot _ (closeForOpening s)) hnone hs
  · exact KeepsWait.of_none (t := setSlot _ (closeForOpening s)) hnone hs

theorem keepsWait_slotWindowEnd (s : State) : KeepsWait s (slotWindowEnd s) := by
  unfold slotWindowEnd
  split
  · exact .refl s
  next sl hsl =>
    split
    · exact keepsWait_closeSlot s
    · exact keepsWait_closeSlot s
    · exact keepsWait_missed sl.source s
    · exact keepsWait_closeSlot s
    next hb => exact .of_closed (openWindowOpen_receive hsl hb) rfl

/-! ### Reaching an offset, and the boundary -/

theorem keepsWait_reachSlotEnd (q : Nat) (s : State) : KeepsWait s (reachSlotEnd q s) := by
  unfold reachSlotEnd
  split
  · split
    · exact keepsWait_slotWindowEnd s
    · exact .refl s
  · exact .refl s

theorem keepsWait_reachEntry (swapping : Bool) (q : Nat) (s : State) : KeepsWait s (reachEntry swapping q s) := by
  unfold reachEntry
  split
  · exact .refl s
  next e _ =>
    split
    · dsimp only
      split
      · exact (keepsWait_openEntry _ e s).trans (.of_same rfl rfl)
      · exact .of_same rfl rfl
    · exact .refl s

theorem keepsWait_firePoints (q : Nat) (s : State) : KeepsWait s (firePoints q s) := .of_same (by simp) (by simp)

theorem keepsWait_reachOffset (swapping : Bool) (q : Nat) (s : State) : KeepsWait s (reachOffset swapping q s) :=
  (keepsWait_reachSlotEnd q s).trans ((keepsWait_reachEntry swapping q _).trans (keepsWait_firePoints q _))

theorem keepsWait_reachAll (swapping : Bool) (qs : List Nat) (s : State) : KeepsWait s (reachAll swapping qs s) := by
  induction qs generalizing s with
  | nil => exact .refl s
  | cons q qs ih => exact (keepsWait_reachOffset swapping q s).trans (ih _)

theorem keepsWait_boundaryEffects (s : State) : KeepsWait s (boundaryEffects s) :=
  .trans (.of_same rfl rfl) (keepsWait_reachOffset false 0 (boundaryBegun s))

theorem keepsWait_launchCycleStart (s : State) : KeepsWait s (launchCycleStart s) := by
  unfold launchCycleStart
  split
  · exact .refl s
  · split
    · exact .of_same rfl rfl
    · split
      · exact .refl s
      · exact keepsWait_beginFrame _ _ s

theorem keepsWait_masterSwap (s : State) : KeepsWait s (masterSwap s) := .of_same (by simp) (by simp)

theorem keepsWait_countedBoundary (s : State) : KeepsWait s (countedBoundary s) := by
  unfold countedBoundary
  dsimp only
  split
  · exact (keepsWait_boundaryEffects s).trans ((keepsWait_masterSwap _).trans (keepsWait_launchCycleStart _))
  · exact keepsWait_boundaryEffects s

theorem keepsWait_csWindowEnd (s : State) : KeepsWait s (csWindowEnd s) := by
  obtain ⟨-, heq⟩ | ⟨-, -, heq⟩ := csWindowEnd_cases s <;> rw [heq]
  · exact .refl s
  · obtain ⟨-, -, hlost⟩ | ⟨-, hkept⟩ := missedStart_cases s
    · rw [hlost]
      exact .of_none (by simp [syncLoss, stopTimer, closeSlot])
    · rw [hkept]
      exact .of_same rfl rfl

theorem keepsWait_countTo (q : Nat) (s : State) : KeepsWait s (countTo q s) := by
  have hposition : KeepsWait s (atPosition q s) := .of_same rfl rfl
  by_cases hq : q = Config.csWindow
  · have hchecked := hposition.trans (keepsWait_csWindowEnd _)
    rw [countTo_eq (if_pos hq)]
    split
    · exact hchecked
    · exact hchecked.trans (keepsWait_reachOffset false q _)
  · rw [countTo_eq (if_neg hq)]
    split
    · exact hposition
    · exact hposition.trans (keepsWait_reachOffset false q _)

theorem keepsWait_advanceTimer (s : State) : KeepsWait s (advanceTimer s) := by
  obtain ⟨-, heq⟩ | ⟨_, -, -, heq⟩ | ⟨_, -, -, heq⟩ := advanceTimer_cases s <;> rw [heq]
  · exact .refl s
  · exact (keepsWait_countTo _ s).trans (keepsWait_settleWait _)
  · exact (keepsWait_countedBoundary s).trans (keepsWait_settleWait _)

/-! ### An accepted cycle-start frame -/

theorem keepsWait_earlyBoundary (p : Nat) (s : State) : KeepsWait s (earlyBoundary p s) :=
  .trans (.of_same (by simp) (by simp)) ((keepsWait_slotWindowEnd (passOverRest p s)).trans (keepsWait_boundaryEffects _))

theorem keepsWait_resync (f : Frame) (n length : Nat) (s : State) : KeepsWait s (resync f n length s) := by
  have hbegun : KeepsWait s (if belongsToNext s.timer.position n length then earlyBoundary s.timer.position s else s) := by
    split
    · exact keepsWait_earlyBoundary _ s
    · exact .refl s
  exact (hbegun.trans (t := setPosition n _) (.of_same rfl rfl)).trans ((keepsWait_reachAll _ _ _).trans (.of_same rfl rfl))

theorem keepsWait_startFromListen (f : Frame) (n : Nat) (s : State) : KeepsWait s (startFromListen f n s) :=
  (keepsWait_reachAll false (List.range' 0 (n + 1)) _).after_same rfl rfl

theorem keepsWait_followerSwap (n : Nat) (s : State) : KeepsWait s (followerSwap n s) := by
  have hbanks : KeepsWait s (exchangeBanks s) := .of_same (by simp) (by simp)
  unfold followerSwap
  dsimp only
  split
  · exact hbanks.trans (.of_same rfl rfl)
  · split
    · exact hbanks.trans (.of_same rfl rfl)
    · exact (hbanks.trans (keepsWait_slotWindowEnd _)).trans (.of_same rfl rfl)

theorem keepsWait_goToAlign (f : Frame) (s : State) : KeepsWait s (goToAlign f s) := by
  unfold goToAlign
  dsimp only
  split
  · exact .of_same rfl rfl
  · exact .of_none (by simp [closeSlot])

theorem keepsWait_compareBanks (f : Frame) (n : Nat) (s : State) : KeepsWait s (compareBanks f n s) := by
  unfold compareBanks
  split
  · exact .of_same (by simp) (by simp)
  · split
    · exact (keepsWait_followerSwap n s).trans (.of_same (by simp) (by simp))
    · exact keepsWait_goToAlign f s

theorem keepsWait_resynced (f : Frame) (n length : Nat) (s : State) : KeepsWait s (resynced f n length s) :=
  (keepsWait_resync f n length s).trans (.of_same (by simp [resynced]) (by simp [resynced]))

theorem keepsWait_acceptCs (f : Frame) (n : Nat) (s : State) : KeepsWait s (acceptCs f n s) := by
  have hresynced (length : Nat) : KeepsWait s (compareBanks f n (resynced f n length s)) :=
    (keepsWait_resynced f n length s).trans (keepsWait_compareBanks f n _)
  have hstarted : KeepsWait s (started f n s) := (keepsWait_startFromListen f n s).trans (.of_same rfl rfl)
  unfold acceptCs
  split
  · exact hstarted.trans (keepsWait_compareBanks f n _)
  · exact hresynced _
  · exact hresynced _
  · exact .refl s

theorem keepsWait_handCycleStart (f : Frame) (n : Nat) (s : State) : KeepsWait s (handCycleStart f n s) := by
  unfold handCycleStart
  dsimp only
  split
  · exact (keepsWait_slotFrameEnded s).trans (.of_same (by simp) (by simp))
  · exact (keepsWait_slotFrameEnded s).trans (keepsWait_acceptCs f n _)

/-! ### Characters -/

theorem keepsWait_receiveSlotTakes {sl : Slot} {sub : ReceiveSub} {extended : Bool} (f : Frame) (hsl : s.seq.slot = some sl)
    (hb : sl.body = .receive sub extended) : KeepsWait s (receiveSlotTakes sl sub extended f s) := fun hs => by
  have hnone := hs.wait_none (openWindowOpen_receive hsl hb)
  refine KeepsWait.of_none ?_ hs
  unfold receiveSlotTakes
  split
  · dsimp only
    split
    · simp [closeSlot]
    · simp only [setSlot, nodeHeard_frame]
      split
      · split
        · simpa using hnone
        · exact hnone
      · exact hnone
  · dsimp only
    split
    · simp [closeSlot]
    · split
      · exact hnone
      · exact hnone

theorem keepsWait_routeFrame (f : Frame) (s : State) : KeepsWait s (routeFrame f s) := by
  unfold routeFrame
  split
  · split
    · exact .of_same (by simp) (by simp)
    next sl hsl =>
      split
      · exact .of_same (by simp) (by simp)
      · split
        · exact .of_same (by simp) (by simp)
        · exact .of_same (by simp) (by simp)
      next hb => exact keepsWait_receiveSlotTakes f hsl hb
  · exact .refl s

theorem keepsWait_openAssembly (s : State) : KeepsWait s (openAssembly s) :=
  (keepsWait_slotFrameOpened _).after_same rfl rfl

theorem keepsWait_appendByte (b : Byte) (s : State) : KeepsWait s (appendByte b s) := by
  unfold appendByte
  split
  · exact keepsWait_abandonAssembly .lenErr s
  · exact .of_same rfl rfl

theorem keepsWait_endAssembly (s : State) : KeepsWait s (endAssembly s) := by
  unfold endAssembly
  dsimp only
  split
  · exact keepsWait_lineError_ended _ s
  · split
    · exact (keepsWait_handCycleStart _ _ _).after_same rfl rfl
    · exact (keepsWait_routeFrame _ _).after_same rfl rfl

theorem keepsWait_inFrameCharacter (v : Byte) (s : State) : KeepsWait s (inFrameCharacter v s) := by
  have hcount : KeepsWait s (countCharacter s) := .of_same rfl rfl
  unfold inFrameCharacter
  dsimp only
  split
  · exact hcount.trans ((keepsWait_abandonAssembly .truncErr _).trans (keepsWait_openAssembly _))
  · split
    · exact hcount.trans (keepsWait_endAssembly _)
    · split
      · exact hcount.trans (.of_same rfl rfl)
      · exact hcount.trans (keepsWait_appendByte v _)

theorem keepsWait_escapedCharacter (v : Byte) (s : State) : KeepsWait s (escapedCharacter v s) := by
  have hcount : KeepsWait s (countCharacter s) := .of_same rfl rfl
  unfold escapedCharacter
  dsimp only
  split
  · exact hcount.trans (keepsWait_appendByte _ _)
  · split
    · exact hcount.trans ((keepsWait_abandonAssembly .escErr _).trans (keepsWait_openAssembly _))
    · exact hcount.trans (keepsWait_abandonAssembly .escErr _)

theorem keepsWait_takeCharacter (v : Byte) (s : State) : KeepsWait s (takeCharacter v s) := by
  unfold takeCharacter
  split
  · split
    · exact keepsWait_openAssembly s
    · exact .refl s
  · exact keepsWait_inFrameCharacter v s
  · exact keepsWait_escapedCharacter v s

end Sys2Proof.Machine
end

section
/-! # The conditions of the wait, and every command's wait from 0 (R111, R113) -/

open Sys2Proof

namespace Sys2Proof.Machine

variable {s t u : State}

/-! ### The end of a transmission -/

theorem head?_filter_ne {m : Fin 24} (entries : List (Fin 24)) (h : entries.head? ≠ some m) :
    (entries.filter (· != m)).head? = entries.head? := by
  cases entries with
  | nil => rfl
  | cons k rest =>
    have hne : k ≠ m := fun heq => h (congrArg some heq)
    simp [hne]

/-- A mailbox that leaves the queue takes the wait with it from the head, and leaves it elsewhere (R110, R113). -/
theorem keepsWait_leaveQueue (m : Fin 24) (s : State) : KeepsWait s (leaveQueue m s) := by
  by_cases hhead : s.queue.entries.head? = some m
  · exact .of_none (by simp [leaveQueue, hhead])
  have hkept := head?_filter_ne s.queue.entries hhead
  have hwait : (leaveQueue m s).queue.wait = s.queue.wait := by simp [leaveQueue, hhead]
  intro hs
  refine ⟨fun hne => ?_, fun k hk => .inr ⟨hwait ▸ hk, hkept, rfl⟩⟩
  obtain ⟨hopen, hentries⟩ := hs (hwait ▸ hne)
  refine ⟨hopen, fun hnil => hentries (List.head?_eq_none_iff.mp (hkept.symm.trans ?_))⟩
  exact congrArg List.head? hnil

theorem keepsWait_raiseAttention (m : Fin 24) (s : State) : KeepsWait s (raiseAttention m s) := .of_same rfl rfl

theorem keepsWait_outcomeCompleted (r : Requester) (s : State) : KeepsWait s (outcomeCompleted r s) := by
  cases r with
  | cycleStart => exact .refl s
  | slot m => exact (keepsWait_updateTx m _ s).trans (.of_same rfl rfl)
  | event m => exact ((keepsWait_updateTx m _ s).trans (keepsWait_leaveQueue m _)).trans (.of_same rfl rfl)

theorem keepsWait_outcomeCollided (r : Requester) (s : State) : KeepsWait s (outcomeCollided r s) := by
  cases r with
  | cycleStart => exact .refl s
  | slot m => exact (keepsWait_updateTx m _ s).trans (.of_same rfl rfl)
  | event m =>
    unfold outcomeCollided
    dsimp only
    split
    · exact keepsWait_updateTx m _ s
    · exact ((keepsWait_updateTx m _ s).trans (keepsWait_leaveQueue m _)).trans (.of_same rfl rfl)

theorem keepsWait_enterOff (s : State) : KeepsWait s (enterOff s) := .of_none (by simp [enterOff, stopTimer, closeSlot])

theorem keepsWait_endTransmission {outcome : State → State} (s : State)
    (h : KeepsWait (transmitterIdle s) (outcome (transmitterIdle s))) : KeepsWait s (endTransmission outcome s) := by
  have houtcome : KeepsWait s (outcome (transmitterIdle s)) := h.after_same rfl rfl
  unfold endTransmission finishStopping
  split
  · exact (houtcome.trans (keepsWait_enterOff _)).trans (.trans (.of_same rfl rfl) (keepsWait_settleWait _))
  · exact houtcome.trans (keepsWait_settleWait _)

theorem keepsWait_completeTransmission (x : Transmission) (s : State) : KeepsWait s (completeTransmission x s) :=
  keepsWait_endTransmission s (keepsWait_outcomeCompleted x.requester _)

theorem keepsWait_collideTransmission (x : Transmission) (s : State) : KeepsWait s (collideTransmission x s) :=
  keepsWait_endTransmission s ((keepsWait_outcomeCollided x.requester _).after_same rfl rfl)

/-! ### Happenings -/

theorem keepsWait_endDueTransmission (s : State) : KeepsWait s (endDueTransmission s) := by
  obtain ⟨-, heq⟩ | ⟨x, -, -, -, heq⟩ | ⟨x, -, -, heq⟩ := endDueTransmission_cases s <;> rw [heq]
  · exact .refl s
  · exact keepsWait_completeTransmission x s
  · exact keepsWait_collideTransmission x s

theorem keepsWait_completeCharacter (v : Byte) (s : State) : KeepsWait s (completeCharacter v s) := by
  unfold completeCharacter
  dsimp only
  split
  · exact .of_same rfl rfl
  · exact ((keepsWait_takeCharacter v _).trans (keepsWait_settleWait _)).after_same rfl rfl

theorem keepsWait_characterFails (s : State) : KeepsWait s (characterFails s) := by
  unfold characterFails
  dsimp only
  split
  · exact .of_same rfl rfl
  · exact (keepsWait_abandonAssembly .charErr _).after_same rfl rfl

/-- A start bit returns the count to 0 (R112). -/
theorem keepsWait_confirmStartBit (s : State) : KeepsWait s (confirmStartBit s) := fun hs => by
  have hwait : (confirmStartBit s).queue.wait = s.queue.wait.map (fun _ => 0) := rfl
  refine ⟨fun hne => hs fun hnone => hne (by rw [hwait, hnone]; rfl), fun k hk => .inl ?_⟩
  obtain ⟨_, -, hk⟩ := Option.map_eq_some_iff.mp (hwait.symm.trans hk)
  exact hk.symm

theorem keepsWait_completeStartup (s : State) : KeepsWait s (completeStartup s) := by
  rw [completeStartup_eq]
  exact ((keepsWait_reachOffset false 0 _).trans (keepsWait_launchCycleStart _)).after_same (by simp [startupBegun]) (by simp [startupBegun])

theorem keepsWait_elapse (s : State) : KeepsWait s (elapse s) := by
  unfold elapse
  split
  · exact .refl s
  · split
    · exact ((keepsWait_updateTx _ _ s).trans (keepsWait_beginFrame _ _ _)).trans (keepsWait_settleWait _)
    · have hnot : headMayWait (turnAway s) = false := by simp [headMayWait, turnAway]
      rw [settleWait_none hnot]
      exact .of_none rfl

/-! ### Commands -/

theorem keepsWait_haltSteps (s : State) : KeepsWait s (haltSteps s) := by
  have hcut : KeepsWait s (cutTransmission (abandonCommand s)) := .of_same (by simp) (by simp)
  unfold haltSteps
  dsimp only
  split
  · exact hcut
  · exact hcut.trans (keepsWait_enterOff _)

theorem keepsWait_stopAction (s : State) : KeepsWait s (stopAction s) := by
  unfold stopAction
  split
  · exact .of_same rfl rfl
  · split
    · exact (keepsWait_enterOff s).trans (.of_same rfl rfl)
    · exact .trans (.of_same (by simp) (by simp)) (keepsWait_settleWait (stayInFlight .stop (setLinkState .stopping s)))

/-- SILENT set or cleared, the wait is settled (R87, R111). -/
theorem keepsWait_silent (silent : Bool) (s : State) :
    KeepsWait s (complete .ok (settleWait { s with link := { s.link with silent := silent } })) :=
  ((keepsWait_settleWait { s with link := { s.link with silent := silent } }).after_same rfl rfl).trans (.of_same rfl rfl)

theorem keepsWait_goSilentAction (s : State) : KeepsWait s (goSilentAction s) := by
  unfold goSilentAction
  split
  · exact .of_same rfl rfl
  · exact keepsWait_silent true s

theorem keepsWait_resumeAction (s : State) : KeepsWait s (resumeAction s) := by
  unfold resumeAction
  split
  · exact keepsWait_silent false s
  · exact .of_same rfl rfl

theorem keepsWait_onTx {act : Fin 24 → TxMailbox → State → State} (hact : ∀ m b, KeepsWait s (act m b s)) :
    KeepsWait s (onTx act s) := by
  obtain ⟨-, heq⟩ | ⟨_, _, -, -, heq⟩ | ⟨m, b, -, -, heq⟩ := onTx_cases act s <;> rw [heq]
  · exact .of_same rfl rfl
  · exact .of_same rfl rfl
  · exact hact m b

theorem keepsWait_onRx {act : Fin 24 → RxMailbox → State → State} (hact : ∀ m r, KeepsWait s (act m r s)) :
    KeepsWait s (onRx act s) := by
  obtain ⟨-, heq⟩ | ⟨_, _, -, -, heq⟩ | ⟨m, r, -, -, heq⟩ := onRx_cases act s <;> rw [heq]
  · exact .of_same rfl rfl
  · exact .of_same rfl rfl
  · exact hact m r

/-- A mailbox that joins the tail is the head of an empty queue alone, which has no wait (R109). -/
theorem keepsWait_joinQueue (m : Fin 24) (s : State) : KeepsWait s (joinQueue m s) := fun hs => by
  have hentries (hne : s.queue.wait ≠ none) : (s.queue.entries ++ [m]).head? = s.queue.entries.head? :=
    List.head?_append_of_ne_nil _ (hs hne).2
  refine ⟨fun hne => ⟨(hs hne).1, List.append_ne_nil_of_right_ne_nil _ (List.cons_ne_nil m [])⟩, fun k hk => .inr ⟨hk, ?_, rfl⟩⟩
  exact hentries (Option.ne_none_iff_exists'.mpr ⟨k, hk⟩)

theorem keepsWait_sendEventOn (m : Fin 24) (b : TxMailbox) (s : State) : KeepsWait s (sendEventOn m b s) := by
  unfold sendEventOn
  split
  · exact .of_same rfl rfl
  · split
    case h_4 =>
      split
      · exact .of_same rfl rfl
      · have hjoined := (keepsWait_joinQueue m (setBox m (.tx { b with state := .queued, retry := 0 }) s)).after_same
          (s := s) rfl rfl
        exact (hjoined.trans (keepsWait_settleWait _)).trans (.of_same rfl rfl)
    all_goals exact .of_same rfl rfl

theorem keepsWait_cancelEventOn (m : Fin 24) (b : TxMailbox) (s : State) : KeepsWait s (cancelEventOn m b s) := by
  unfold cancelEventOn
  split
  · exact .of_same rfl rfl
  · split
    case h_1 =>
      have hleft := (keepsWait_leaveQueue m (setBox m (.tx { b with state := .loaded }) s)).after_same (s := s) rfl rfl
      exact (hleft.trans (keepsWait_settleWait _)).trans (.of_same rfl rfl)
    all_goals exact .of_same rfl rfl

theorem keepsWait_configMailboxAction (s : State) : KeepsWait s (configMailboxAction s) := by
  unfold configMailboxAction
  split
  · exact .of_same rfl rfl
  · exact .of_same rfl rfl
  next m box _ _ =>
    split
    · exact ((keepsWait_leaveQueue m (setBox m box s)).after_same rfl rfl).trans (.of_same rfl rfl)
    · exact .of_same rfl rfl

theorem keepsWait_actionOf (code : Byte) (s : State) : KeepsWait s (actionOf code s) := by
  unfold actionOf
  split
  case h_2 => exact keepsWait_stopAction s
  case h_3 => exact (keepsWait_haltSteps s).trans (.of_same rfl rfl)
  case h_4 => exact keepsWait_goSilentAction s
  case h_5 => exact keepsWait_resumeAction s
  case h_6 => exact .of_none rfl
  case h_9 | h_10 => exact keepsWait_onTx fun m b => .of_same (by simp) (by simp)
  case h_11 => exact keepsWait_onTx fun m b => keepsWait_sendEventOn m b s
  case h_12 => exact keepsWait_onTx fun m b => keepsWait_cancelEventOn m b s
  case h_13 | h_14 => exact keepsWait_onRx fun m r => .of_same (by simp) (by simp)
  case h_15 => exact keepsWait_configMailboxAction s
  all_goals exact .of_same (by simp) (by simp)

theorem keepsWait_writes {a : BusAddress} {v : Byte} (hw : Writes s a v t) : KeepsWait s t := by
  cases hw with
  | cmd =>
    obtain ⟨-, -, heq⟩ | ⟨-, heq⟩ := writeCmd_cases v s <;> rw [heq]
    · exact .of_same rfl rfl
    · exact (keepsWait_actionOf v (takenAs v s)).after_same rfl rfl
  | data => exact .of_same (by simp) (by simp)
  | _ => exact .of_same rfl rfl

/-! ### Every command -/

/-- A wait that begins, or that finds another head or another slot than before, begins from 0. -/
def BeginsFromZero (s t : State) : Prop :=
  s.queue.wait = none ∨ t.queue.entries.head? ≠ s.queue.entries.head? ∨ t.seq.slot ≠ s.seq.slot →
    t.queue.wait = none ∨ t.queue.wait = some 0

theorem KeepsWait.begins (h : KeepsWait s t) (hs : WaitsInWindow s) : BeginsFromZero s t := fun hnew => by
  cases hwait : t.queue.wait with
  | none => exact .inl rfl
  | some k =>
    obtain rfl | ⟨hold, hhead, hslot⟩ := (h hs).2 k hwait
    · exact .inr rfl
    · obtain hnone | hne | hne := hnew
      · cases hold.symm.trans hnone
      · exact absurd hhead hne
      · exact absurd hslot hne

theorem waitsInWindow_of_waitOk (h : WaitOk s) : WaitsInWindow s := fun hne => by
  have hmay : headMayWait s = true := h.symm.trans (Option.isSome_iff_ne_none.mpr hne)
  exact ⟨openWindowOpen_of_headMayWait hmay, entries_of_headMayWait hmay⟩

/-- The CT adds to the count of a wait; then the wait is kept. -/
theorem begins_endOfCt (hs : WaitsInWindow s) : BeginsFromZero s (endOfCt s) := by
  obtain ⟨-, heq⟩ | ⟨-, heq⟩ := endOfCt_cases s <;> rw [heq]
  · exact (KeepsWait.refl s).begins hs
  have hnone : (ctPasses s).queue.wait = none ↔ s.queue.wait = none := by
    cases hidle : s.line.ctIdle <;> simp [ctPasses, hidle]
  have hpassed : WaitsInWindow (ctPasses s) := fun hne => hs (mt hnone.mpr hne)
  have hbegins := ((keepsWait_endDueTransmission _).trans (keepsWait_advanceTimer _)).begins hpassed
  exact fun hnew => hbegins (hnew.imp_left hnone.mpr)

theorem begins_acts {c : Instr} (hc : Acts s c t) (hs : WaitsInWindow s) : BeginsFromZero s t := by
  cases hc with
  | write => exact (keepsWait_writes (busWrite_writes _ _ s)).begins hs
  | nothing => exact (KeepsWait.refl s).begins hs
  | wdataRead | posLRead | lineHighAfterStopBitError => exact (KeepsWait.of_same rfl rfl).begins hs
  | startValidated | armValidated => exact (KeepsWait.of_same (by simp) (by simp)).begins hs
  | hardwareReset => exact (KeepsWait.of_none rfl).begins hs
  | startBitConfirmed => exact (keepsWait_confirmStartBit s).begins hs
  | characterComplete v => exact (keepsWait_completeCharacter v s).begins hs
  | stopBitError => exact (keepsWait_characterFails s).begins hs
  | gapTimerExpires => exact (keepsWait_abandonAssembly .truncErr s).begins hs
  | positionReached | cycleBoundary => exact begins_endOfCt hs
  | startupSilenceCompletes => exact ((keepsWait_completeStartup s).trans (keepsWait_settleWait _)).begins hs
  | backoffElapses => exact (keepsWait_elapse s).begins hs
  | transmissionCompletes x => exact (keepsWait_completeTransmission x s).begins hs
  | transmissionCollides x => exact (keepsWait_collideTransmission x s).begins hs

/-! ### O46 -/

theorem openWindowOpen_iff (s : State) : openWindowOpen s = true ↔ ∃ sl, s.seq.slot = some sl ∧ sl.body = .openWindow := by
  unfold openWindowOpen
  cases s.seq.slot <;> simp

theorem headQueued_iff (s : State) :
    headQueued s = true ↔ ∃ m, s.queue.entries.head? = some m ∧ ∃ b, s.boxes[m] = .tx b ∧ b.state = .queued := by
  unfold headQueued
  cases s.queue.entries.head? with
  | none => simp
  | some m =>
    have hhead (p : Fin 24 → Prop) : (∃ k, some m = some k ∧ p k) ↔ p m := by simp
    rw [hhead]
    dsimp only
    cases s.boxes[m] <;> simp

/-- Settles O46: the test by its conditions, the wait by the test, and the commands by what each operation keeps. -/
theorem headWaits : Obligations.HeadWaits := by
  unfold Obligations.HeadWaits
  intro conditions
  have hconditions (s : State) : headMayWait s = true ↔ conditions s := by
    rw [headMayWait_iff, openWindowOpen_iff, headQueued_iff]
  refine ⟨hconditions, fun s => ⟨fun hc => ?_, fun hc => ?_⟩, fun c s t hok hexec => ?_⟩
  · rw [settleWait, (hconditions s).mpr hc]
    rfl
  · exact settleWait_none (Bool.not_eq_true _ ▸ mt (hconditions s).mp hc)
  · exact begins_acts (acts_of_exec hexec) (waitsInWindow_of_waitOk hok)

end Sys2Proof.Machine
end
